-- ==== Sys2Proof/Word.lean ====
section
/-! DEFINITION. The byte of every serial connection, and the fixed-size tables State is built from. -/

namespace Sys2Proof

/-- A byte on one of the controller's serial connections (bits 0 to 7, 00_scope.md, NUMBERS). -/
abbrev Byte := BitVec 8

/-- A table of exactly `n` items, one for each number below `n`. -/
abbrev Tab (α : Type) (n : Nat) := Vector α n

/-- The table with the item at `i` replaced. -/
def Tab.put {α : Type} {n : Nat} (t : Tab α n) (i : Fin n) (x : α) : Tab α n := t.set i x i.isLt

/-- Writing one item of a table and reading any item. -/
@[simp] theorem Tab.getElem_put {α : Type} {n : Nat} (t : Tab α n) (i : Fin n) (j : Nat) (h : j < n) (x : α) :
    (t.put i x)[j] = if i.val = j then x else t[j] := by
  simp [Tab.put, Vector.getElem_set]

/-- Writing an item that stands already changes nothing. -/
@[simp] theorem Tab.put_self {α : Type} {n : Nat} (t : Tab α n) (i : Fin n) : t.put i t[i] = t := by
  simp [Tab.put]

/-- The later of two writes of one item stands. -/
@[simp] theorem Tab.put_put {α : Type} {n : Nat} (t : Tab α n) (i : Fin n) (x y : α) : (t.put i x).put i y = t.put i y := by
  simp [Tab.put]

/-- Tables that agree at every number are equal. -/
theorem Tab.ext {α : Type} {n : Nat} {t u : Tab α n} (h : ∀ i : Fin n, t[i] = u[i]) : t = u :=
  Vector.ext fun i hi => h ⟨i, hi⟩

end Sys2Proof
end

