-- ==== Sys2Proof/Syntax.lean ====
section
/-! DEFINITION. The commands of the controller: one constructor of `Instr` per row of spec/opcode_table.json.
A command is an event that reaches the controller; 95_what_each_step_holds.md says each is whole and indivisible. -/

namespace Sys2Proof

/-- Zones Z0 to Z7; panel Pn and selector Sn serve zone Zn. -/
abbrev Zone := Fin 8
/-- Doors D0 to D15. -/
abbrev Door := Fin 16
/-- Supervised lines L0 to L63. -/
abbrev Line := Fin 64
/-- Door modules; module `m` has the bus address `m + 1`, so the addresses are 1 to 16 (R15). -/
abbrev Module := Fin 16
/-- Valve outputs: selectors S0 to S7 are 0 to 7, main valves MA and MB are 8 and 9 (R190). -/
abbrev Output := Fin 10
/-- Agent containers C0 to C7. -/
abbrev Container := Fin 8
/-- A person index; the table has places 0 to 1023 (R51). -/
abbrev Person := Nat

/-- The two banks of agent containers (Chapter 7). -/
inductive Bank where
  | bankA
  | bankB
  deriving DecidableEq, Repr

/-- The three master ports (Chapter 11). -/
inductive Port where
  | access
  | suppression
  | console
  deriving DecidableEq, Repr

/-- R17: where a byte on the door bus arrived. The model has no clock of bit times, so the sender of the command says it
(notes/assumptions/41.md). -/
inductive ByteArrival where
  /-- Inside the answer window of the exchange on the bus. -/
  | inWindow (framingError : Bool)
  /-- Beyond the end of an exchange, or while a header is sent: the byte is none of an answer's. -/
  | outsideWindow
  deriving DecidableEq, Repr

/-- The commands, in the order of spec/opcode_table.json.
A request row is the arrival of the second CRC byte of its frame on port `p` (R182): the frame's other bytes stand in the
port's receive assembly, where MASTER_PORT_BYTE_RECEIVED put them. -/
inductive Instr where
  /-- R197: power is applied. -/
  | powerOnReset
  /-- R197: the reset input is asserted. -/
  | resetLineAssert
  /-- R197: the reset input is released. -/
  | resetLineRelease
  /-- R198: one record is read; `bytes` is what the memory answers from the record's first address until it stops answering
  (bytes beyond the record are not read). -/
  | configRecordRead (bytes : List Byte)
  /-- R194: a carry out of the phase accumulator. -/
  | millisecondTick
  /-- R194, R112: the decisecond tick of a 100th millisecond tick. -/
  | decisecondTick
  /-- R194: the second tick of a 1000th millisecond tick. -/
  | secondTick
  /-- R195: the second of the time-of-day advances. -/
  | timeOfDaySecond
  /-- R1: line `l` is measured and gives `code`. -/
  | lineScan (l : Line) (code : Byte)
  /-- R19: the ninth byte of a POLL answer; `framingError` says its stop bit was read low. -/
  | pollAnswerReceived (b : Byte) (framingError : Bool)
  /-- R17: the answer window ends first; `ninthBegun` says a ninth byte had begun. -/
  | pollWindowExpiry (ninthBegun : Bool)
  /-- R21: the check byte of a DRIVE has been sent. -/
  | driveEnd
  /-- R20: an OFFLINE module has become eligible while the bus is idle. -/
  | moduleRetryDue (m : Module)
  /-- R36: the unlock window of a door's grant runs out. -/
  | unlockWindowExpiry (d : Door)
  /-- R41: a door's withdrawn-window end is reached. -/
  | withdrawnWindowEnd (d : Door)
  /-- R42: a door has been OPEN for its held-open limit. -/
  | heldOpenLimit (d : Door)
  /-- R45: a pairing record's window runs out. -/
  | pairingExpiry (d : Door)
  /-- R46: a denial display ends. -/
  | denialDisplayEnd (d : Door)
  /-- R88: an entry's warning time is reached. -/
  | checkinWarningTime (person : Person)
  /-- R88: an entry's check-in deadline is reached. -/
  | checkinDeadline (person : Person)
  /-- R89: a zone's lone-occupant timer expires. -/
  | loneTimerExpiry (z : Zone)
  /-- R115: the decisecond tick makes a zone's R zero. -/
  | countdownEnd (z : Zone)
  /-- R115: a zone's hold time has passed since its discharge start. -/
  | dischargeEnd (z : Zone)
  /-- R124: a bank's minimum-on end is reached. -/
  | minimumOnEnd (bank : Bank)
  /-- R126: a pending ON_CHECK reaches its expiry. -/
  | onCheckExpiry (o : Output)
  /-- R127: a pending OFF_CHECK reaches its expiry. -/
  | offCheckExpiry (o : Output)
  /-- R132: 5000 ms of a test release have passed. -/
  | testStageEnd (z : Zone)
  /-- R137: a falling edge on a container line, `cycles` of the reference clock after the edge before. -/
  | containerPulse (c : Container) (cycles : Nat)
  /-- R144: a container's stale expiry is reached. -/
  | staleExpiry (c : Container)
  /-- R151: the last byte of a pendant telegram. -/
  | pendantTelegram (b : Byte)
  /-- R150: a byte with a framing error, or a length byte out of range. -/
  | pendantByteError (b : Byte) (framingError : Bool)
  /-- R150: a gap on the pendant line reaches 5 ms. -/
  | pendantGapTimeout
  /-- R169: a 50 ms boundary of the panel link. -/
  | slotBoundary
  /-- R180: a gap of 4 ms within a frame. -/
  | receiveGapTimeout (p : Port)
  /-- R180: a byte that discards the frame being gathered. -/
  | frameDiscarded (p : Port) (b : Byte) (framingError : Bool)
  /-- R182: a frame ends whose kind is no request. -/
  | unknownRequest (p : Port) (b : Byte)
  /-- R183: the answer being sent has been sent. -/
  | answerTransmissionEnd (p : Port)
  /-- R181: the receive line has been low for 50 ms. -/
  | portRestart (p : Port)
  | readStatus (p : Port) (b : Byte)
  | readZone (p : Port) (b : Byte)
  | readDoor (p : Port) (b : Byte)
  | readOccupancy (p : Port) (b : Byte)
  | readAlarms (p : Port) (b : Byte)
  | readBanks (p : Port) (b : Byte)
  | readLine (p : Port) (b : Byte)
  | fetchNotices (p : Port) (b : Byte)
  | writePerson (p : Port) (b : Byte)
  | deletePerson (p : Port) (b : Byte)
  | readPerson (p : Port) (b : Byte)
  | writeGroup (p : Port) (b : Byte)
  | stageSchedule (p : Port) (b : Byte)
  | stageHolidays (p : Port) (b : Byte)
  | commitSchedules (p : Port) (b : Byte)
  | setTime (p : Port) (b : Byte)
  | doorPulse (p : Port) (b : Byte)
  | armZone (p : Port) (b : Byte)
  | isolateZone (p : Port) (b : Byte)
  | clearEntryHold (p : Port) (b : Byte)
  | releaseRequest (p : Port) (b : Byte)
  | cancelRelease (p : Port) (b : Byte)
  | ventComplete (p : Port) (b : Byte)
  | testRelease (p : Port) (b : Byte)
  | ackAlarm (p : Port) (b : Byte)
  | clearAlarm (p : Port) (b : Byte)
  | sweepConfirm (p : Port) (b : Byte)
  | forceExit (p : Port) (b : Byte)
  | responseEntry (p : Port) (b : Byte)
  | panelText (p : Port) (b : Byte)
  /-- R180: a byte that advances the receive assembly, received without framing error. -/
  | masterPortByteReceived (p : Port) (b : Byte)
  /-- R150: a good byte that is no telegram's last. -/
  | pendantLineByteReceived (b : Byte)
  /-- R17: a byte on the door bus that is not the ninth of a POLL answer. -/
  | pollAnswerByteReceived (b : Byte) (arrival : ByteArrival)
  /-- R181: after a break the receive line is high again. -/
  | receiveLineReturnedHigh (p : Port)
  deriving DecidableEq, Repr

end Sys2Proof
end

