-- ==== Sys2Proof/WellFormed.lean ====
section
/-! DEFINITION. Which commands are well formed: the operand ranges the spec gives that an operand's type does not carry. -/

namespace Sys2Proof

/-- A command's operands lie in their ranges.
Zones, doors, lines, modules, outputs, containers, banks, ports and bytes carry their range in their type.
* CHECKIN_WARNING_TIME, CHECKIN_DEADLINE: a person index is 0 to 1023 (R51).
* CONFIG_RECORD_READ: the configuration memory has 4096 bytes (R198).
* CONTAINER_PULSE: two falling edges of one line are at least one cycle apart (R137). -/
def Instr.wellFormed : Instr → Bool
  | .checkinWarningTime person => person < 1024
  | .checkinDeadline person => person < 1024
  | .configRecordRead bytes => bytes.length ≤ 4096
  | .containerPulse _ cycles => 0 < cycles
  | _ => true

end Sys2Proof
end

