-- ==== Sys2Proof/Machine/Bytes.lean ====
section
/-! DEFINITION. Bytes on the wire: the encodings of R190 and the two checks of 00_scope.md (CRC-16 and two's complement). -/

namespace Sys2Proof.Machine

/-- The low byte of a number. -/
def byteOf (n : Nat) : Byte := BitVec.ofNat 8 n

/-- A number in one byte. -/
def num1 (n : Nat) : List Byte := [byteOf n]

/-- A number in two bytes, high byte first (R190). -/
def num2 (n : Nat) : List Byte := [byteOf (n / 256), byteOf n]

/-- A number in three bytes, high byte first. -/
def num3 (n : Nat) : List Byte := byteOf (n / 65536) :: num2 n

/-- A number in four bytes, high byte first; of a wider one the low 32 bits are given (R194). -/
def num4 (n : Nat) : List Byte := num2 (n / 65536) ++ num2 n

/-- A number in eight bytes, high byte first. -/
def num8 (n : Nat) : List Byte := num4 (n / 4294967296) ++ num4 n

/-- The number some bytes give, high byte first (R190). -/
def numberOf (l : List Byte) : Nat := l.foldl (fun n b => n * 256 + b.toNat) 0

/-- A mark that is set or clear: one byte, 1 for set. DESIGN CHOICE: R190 gives no encoding of marks
(notes/assumptions/25.md). -/
def flag1 (b : Bool) : List Byte := [if b then 1 else 0]

/-- A field that may be absent: a presence byte, then the field when present (R190). -/
def optField {α : Type} (f : α → List Byte) : Option α → List Byte
  | none => [0]
  | some x => 1 :: f x

/-- A list is preceded by its count (R190). -/
def listField {α : Type} (f : α → List Byte) (l : List α) : List Byte := byteOf l.length :: l.flatMap f

/-- The mask of a set of numbers: bit n stands for n (R190). -/
def maskOf (l : List Nat) : Nat := l.foldl (fun m n => m ||| 2 ^ n) 0

/-- One bit of the CRC-16: shift left, and take the polynomial x^16 + x^12 + x^5 + 1 when a one leaves. -/
def crcShift (c : BitVec 16) : BitVec 16 := if c.msb then (c <<< 1) ^^^ 0x1021 else c <<< 1

/-- One byte of the CRC-16, most significant bit first. -/
def crcByte (c : BitVec 16) (b : Byte) : BitVec 16 :=
  crcShift (crcShift (crcShift (crcShift (crcShift (crcShift (crcShift (crcShift
    (c ^^^ ((b.setWidth 16) <<< 8)))))))))

/-- The CRC-16 of 00_scope.md (CHECKS): from 0xFFFF, without final inversion. -/
def crc16 (l : List Byte) : BitVec 16 := l.foldl crcByte 0xFFFF

/-- A CRC as it is sent, high byte first. -/
def crcBytes (c : BitVec 16) : List Byte := num2 c.toNat

/-- The 8-bit sum of some bytes. -/
def byteSum (l : List Byte) : Byte := l.foldl (· + ·) 0

/-- The two's-complement check over some bytes (00_scope.md, CHECKS). -/
def checkOver (l : List Byte) : Byte := -(byteSum l)

/-- The bytes and their check sum to zero. -/
def checkHolds (l : List Byte) : Bool := byteSum l == 0

end Sys2Proof.Machine
end

