-- ==== Sys2Proof/Machine/State.lean ====
section
/-! DEFINITION. Everything the manual gives the controller to remember, as plain data, and the machine right after a
power-on reset. Each structure is one block of the table in 00_scope.md; each field cites the rule that names it. -/

namespace Sys2Proof.Machine

/-! ## Time (Chapter 12) -/

/-- A date from 1 January 2000 to 31 December 2255 (R195); `year` is counted from 2000, as R190 encodes it. -/
structure Date where
  year : Nat
  month : Nat
  day : Nat
  deriving DecidableEq, Repr

/-- A date and a time of day (R195). -/
structure DateTime where
  date : Date
  hour : Nat
  minute : Nat
  second : Nat
  deriving DecidableEq, Repr

/-- The Timebase (R194, R195). -/
structure Timebase where
  /-- The 32-bit phase accumulator, as it stands after its latest carry, or at the end of a load that has ended since
  (notes/assumptions/4.md). -/
  acc : BitVec 32
  /-- The increment K. -/
  k : Nat
  /-- The configured reference frequency in Hz, after clamping. -/
  fRef : Nat
  /-- Millisecond ticks since reset. -/
  ms : Nat
  /-- Seconds since reset. -/
  sec : Nat
  /-- Decisecond ticks that have come due and are not yet taken (the model's own, notes/assumptions/5.md). -/
  dsDue : Nat
  /-- Second ticks that have come due and are not yet taken (the model's own, notes/assumptions/5.md). -/
  secDue : Nat
  /-- The time-of-day and date, absent until SET_TIME after a power-on reset. -/
  tod : Option DateTime
  /-- Milliseconds within the current second of the time-of-day; 1000 or more while the second's advance is due
  (notes/assumptions/5.md). -/
  todMs : Nat
  /-- Loads that have ended, counted through every reset: what names the free value of the next one (the model's own,
  notes/assumptions/4.md). -/
  loadsEnded : Nat
  deriving DecidableEq, Repr

/-! ## Supervised lines (Chapter 1) -/

/-- The classes of a line (section 1.2). -/
inductive LineClass where
  | short
  | normal
  | active
  | openCircuit
  deriving DecidableEq, Repr

/-- A line's role and its target (R6). -/
inductive LineRole where
  | doorContact (d : Door)
  | egressHandle (d : Door)
  | abortStation (z : Zone)
  | alarmButton (z : Zone)
  | valveFeedback (o : Output)
  | unused
  deriving DecidableEq, Repr

/-- A LINE record (R199): role with target, thresholds. -/
structure LineCfg where
  role : LineRole
  t1 : Nat
  t2 : Nat
  t3 : Nat
  deriving DecidableEq, Repr

/-- A configured line (R1 to R4). -/
structure LineRec where
  cfg : LineCfg
  /-- The code of the latest scan. -/
  code : Option Byte
  /-- The measured class of the latest scan (R3). -/
  measured : Option LineClass
  /-- The reported class; absent while the line is unclassified (R4). -/
  reported : Option LineClass
  /-- The candidate class (R4). -/
  candidate : Option LineClass
  /-- The candidate's count (R4). -/
  count : Nat
  /-- The time of the latest scan in milliseconds since reset (R1). -/
  lastScan : Option Nat
  deriving DecidableEq, Repr

/-! ## Doors (Chapters 2 and 3) -/

/-- The lock part of a drive. -/
inductive Lock where
  | locked
  | unlocked
  deriving DecidableEq, Repr

/-- The indicator part of a drive. -/
inductive Indicator where
  | off
  | red
  | green
  | amber
  deriving DecidableEq, Repr

/-- A drive (section 2.5); `chirp` is the sounder part: CHIRP when set, OFF when clear. -/
structure Drive where
  lock : Lock
  indicator : Indicator
  chirp : Bool
  deriving DecidableEq, Repr

/-- Lock feedback (R25). -/
inductive LockFeedback where
  | thrown
  | retracted
  deriving DecidableEq, Repr

/-- The failures of a POLL exchange (R19). -/
inductive PollFailure where
  | missing
  | truncated
  | late
  | bad
  deriving DecidableEq, Repr

/-- An assigned module (R15). Its pending drive stands in the queue of `Bus`. -/
structure ModuleRec where
  /-- The one door the module is assigned to. -/
  door : Door
  /-- Presence: ONLINE when set. -/
  online : Bool
  /-- Consecutive failed POLL exchanges, 0 to 3. -/
  failures : Nat
  /-- The last taken toggle; absent until adopted (R28). -/
  toggle : Option Bool
  /-- Tamper: set when true; absent while OFFLINE (R26). -/
  tamper : Option Bool
  /-- Lock feedback; absent while OFFLINE (R25). -/
  lockFeedback : Option LockFeedback
  /-- The time of the last POLL's header; absent until the first POLL after reset. -/
  lastPoll : Option Nat
  deriving DecidableEq, Repr

/-- What the door bus carries (R16 to R21): nothing, a POLL, or a DRIVE. -/
inductive BusTx where
  | idle
  /-- A POLL of module `m` whose header carried `kind`; `received` are the answer's bytes so far, `bad` says one of them had a
  framing error. -/
  | poll (m : Module) (kind : Byte) (received : List Byte) (bad : Bool)
  /-- A DRIVE to module `m`: header kind, two data bytes and the check (R18, R192). -/
  | drive (m : Module) (kind lock indicator check : Byte)
  deriving DecidableEq, Repr

/-- The Door Bus Controller. -/
structure Bus where
  modules : Tab (Option ModuleRec) 16
  /-- The rotation position: the address of the last module sent a POLL. -/
  position : Module
  /-- The pending drives, oldest first; at most one for each module (R21). -/
  queue : List (Module × Drive)
  tx : BusTx
  deriving DecidableEq, Repr

/-- Entry conditions (R48). -/
inductive EntryCondition where
  | any
  | never
  | work
  | after
  | empty
  | peopled
  | quiet
  | agent
  | responder
  deriving DecidableEq, Repr

/-- PIN rules (R70). -/
inductive PinRule where
  | never
  | afterHours
  | always
  deriving DecidableEq, Repr

/-- A DOOR record (R32). -/
structure DoorCfg where
  inside : Zone
  /-- The outside zone; none is the corridor. -/
  outside : Option Zone
  module : Module
  /-- The partner door, as settled (R32). -/
  partner : Option Door
  weight : Nat
  condition : EntryCondition
  /-- Unlock window in s. -/
  unlockWindow : Nat
  /-- Held-open limit in s. -/
  heldOpenLimit : Nat
  /-- Pairing window in s. -/
  pairingWindow : Nat
  pinRule : PinRule
  deriving DecidableEq, Repr

/-- Door states (section 3.2). -/
inductive DoorState where
  | secure
  | unlocked
  | opened
  | heldOpen
  | forced
  | offline
  | fault
  deriving DecidableEq, Repr

/-- Kinds of grant (R34). -/
inductive GrantKind where
  | entry
  | exit
  | command
  | response
  deriving DecidableEq, Repr

/-- A person of a grant with the duress mark. -/
structure GrantPerson where
  person : Person
  duress : Bool
  deriving DecidableEq, Repr

/-- A grant record (R34). -/
structure Grant where
  kind : GrantKind
  /-- 0 to 2 persons, in pair order. -/
  persons : List GrantPerson
  /-- The window expiry in milliseconds since reset. -/
  expiry : Nat
  /-- Places reserved, 0 to 2. -/
  places : Nat
  deriving DecidableEq, Repr

/-- A pairing record (R45). -/
structure Pairing where
  first : GrantPerson
  /-- The expiry in milliseconds since reset. -/
  expiry : Nat
  deriving DecidableEq, Repr

/-- Opening kinds (section 3.1). -/
inductive OpeningKind where
  | granted
  | egress
  | afterWithdrawal
  | foundOpen
  deriving DecidableEq, Repr

/-- A configured door (section 3.1). -/
structure DoorRec where
  cfg : DoorCfg
  /-- The settled contact line; a door without one is held in FAULT (R32). -/
  contactLine : Option Line
  /-- The settled egress-handle line. -/
  handleLine : Option Line
  /-- The module assigned to the door; absent when a lower-numbered door holds its address (R15). -/
  module : Option Module
  state : DoorState
  grant : Option Grant
  pairing : Option Pairing
  openingKind : Option OpeningKind
  /-- Withdrawn-window end, ms (R41). -/
  withdrawnEnd : Option Nat
  /-- Open-since time, ms. -/
  openSince : Option Nat
  /-- Time of the handle line's most recent change into ACTIVE, ms (R38). -/
  handleActive : Option Nat
  /-- Denial display end, ms (R46). -/
  denialEnd : Option Nat
  /-- Contact position: open when true, closed when false. -/
  contactOpen : Option Bool
  /-- The last drive handed over (R47). -/
  lastDrive : Option Drive
  /-- A chirp is owed (R46). -/
  chirpOwed : Bool
  /-- The door has left OFFLINE since reset (R43, FIRST_CLASSIFIED). -/
  leftOffline : Bool
  deriving DecidableEq, Repr

/-! ## Personnel, groups and schedules (Chapter 4) -/

/-- A personnel record (R51). -/
structure PersonRec where
  /-- The 32-bit credential number. -/
  credential : Nat
  /-- The PIN's digit string. -/
  pin : Option (List Nat)
  /-- The 24-bit pendant id. -/
  pendant : Option Nat
  /-- The group numbers, ascending, each at most once. -/
  groups : List Nat
  validFrom : Option Date
  validTo : Option Date
  lonePermitted : Bool
  responder : Bool
  deriving DecidableEq, Repr

/-- A group's permission for one zone (R57). -/
inductive Permission where
  | schedule (n : Fin 16)
  | never
  | always
  deriving DecidableEq, Repr

/-- The Personnel Store. `table` lists the places that hold a record, by ascending index, each index at most once. -/
structure Personnel where
  table : List (Person × PersonRec)
  groups : Tab (Tab Permission 8) 16
  deriving DecidableEq, Repr

/-- An interval of minutes, from `start` up to but not including `stop` (R59). -/
structure Interval where
  start : Nat
  stop : Nat
  deriving DecidableEq, Repr

/-- A set of schedules with its holiday list (R59, R60). Day-kinds are Monday 0 to Sunday 6, holiday 7. -/
structure ScheduleSet where
  schedules : Tab (Tab (List Interval) 8) 16
  holidays : List Date
  deriving DecidableEq, Repr

/-- Zone modes (R64). -/
inductive Mode where
  | working
  | after
  deriving DecidableEq, Repr

/-- The Schedule Unit. -/
structure Schedules where
  active : ScheduleSet
  staged : ScheduleSet
  /-- The ready mark (R62). -/
  ready : Bool
  modes : Tab Mode 8
  deriving DecidableEq, Repr

/-! ## Occupancy (Chapter 5) -/

/-- An occupancy entry (R79). -/
structure Entry where
  person : Person
  zone : Zone
  /-- Absent for an entry made by a sweep. -/
  door : Option Door
  /-- Seconds since reset. -/
  time : Nat
  weight : Nat
  partner : Option Person
  /-- Seconds since reset; present exactly while the zone is in AFTER mode (R86). -/
  deadline : Option Nat
  duress : Bool
  deleted : Bool
  deriving DecidableEq, Repr

/-- A zone's lone-occupant timer (R89); expiry in seconds since reset. -/
inductive LoneTimer where
  | notRunning
  | running (person : Person) (expiry : Nat)
  | expired (person : Person)
  deriving DecidableEq, Repr

/-- The Occupancy Unit. -/
structure Occupancy where
  /-- Every zone's entries, in the order in which they were made. -/
  entries : List Entry
  reserved : Tab Nat 8
  uncertain : Tab Bool 8
  /-- Check-in warnings (R88). -/
  warning : Tab Bool 8
  lone : Tab LoneTimer 8
  deriving DecidableEq, Repr

/-! ## Zones (Chapter 6) -/

/-- A ZONE record (R94). -/
structure ZoneCfg where
  bank : Bank
  /-- B, ds. -/
  baseDelay : Nat
  /-- y1 to y7, ds. -/
  knots : Tab Nat 7
  /-- U. -/
  uncertainLoad : Nat
  /-- H, s. -/
  holdTime : Nat
  /-- min. -/
  checkinPeriod : Nat
  limit : Nat
  twoPerson : Bool
  /-- s. -/
  loneGrace : Nat
  sweepWeight : Nat
  schedule : Option (Fin 16)
  deriving DecidableEq, Repr

/-- Zone states (section 6.2). -/
inductive ZoneState where
  | isolated
  | guarded
  | occupiedHold
  | countdown
  | held
  | discharge
  | discharged
  deriving DecidableEq, Repr

/-- Release kinds. -/
inductive ReleaseKind where
  | auto
  | manual
  deriving DecidableEq, Repr

/-- A zone's occupancy summary (R91). -/
structure Summary where
  count : Nat
  uncertain : Bool
  reserved : Nat
  /-- The egress load W. -/
  load : Nat
  deriving DecidableEq, Repr

/-- Bank states (R147). -/
inductive BankState where
  | available
  | degraded
  | empty
  deriving DecidableEq, Repr

/-- A configured zone's record (R95). -/
structure ZoneRec where
  cfg : ZoneCfg
  state : ZoneState
  kind : Option ReleaseKind
  /-- D, ds. -/
  delay : Option Nat
  /-- R, ds. -/
  remaining : Option Nat
  /-- ms. -/
  dischargeStart : Option Nat
  entryHold : Bool
  /-- The abort lines of the hold-source set, ascending, each at most once (R108). -/
  holdLines : List Line
  /-- The alarm numbers of the hold-source set. R108 calls the set unordered; they stand in the order in which they joined (DESIGN CHOICE,
  notes/assumptions/45.md). -/
  holdAlarms : List Nat
  /-- As last handed (R105). -/
  summary : Summary
  /-- As last handed (R116). -/
  bankState : BankState
  selectorFault : Bool
  mainFault : Bool
  deriving DecidableEq, Repr

/-! ## Valve outputs (Chapter 7) -/

/-- Path fault kinds (R121). -/
inductive PathFault where
  | onCheckFail
  | offCheckFail
  | noCurrent
  | coilOpen
  | coilShort
  | currentAtRest
  deriving DecidableEq, Repr

/-- The two checks (R125). -/
inductive CheckKind where
  | onCheck
  | offCheck
  deriving DecidableEq, Repr

/-- A pending check (R125); times in ms. -/
structure Check where
  kind : CheckKind
  edge : Nat
  expiry : Nat
  deriving DecidableEq, Repr

/-- A valve output (R121). -/
structure OutputRec where
  inService : Bool
  /-- The feedback line; an output in service without one is unsupervised. -/
  feedbackLine : Option Line
  /-- ON when true. -/
  drive : Bool
  feedback : Option LineClass
  check : Option Check
  fault : Option PathFault
  deriving DecidableEq, Repr

/-- The stage of a test release (R132); `onPassed` says its ON_CHECK has passed. -/
inductive TestStage where
  | first (onPassed : Bool)
  | second (onPassed : Bool)
  deriving DecidableEq, Repr

/-- A running test release (R131); start in ms. -/
structure TestRec where
  start : Nat
  stage : TestStage
  deriving DecidableEq, Repr

/-- The Valve Driver and Output Monitor. -/
structure Valves where
  outputs : Tab OutputRec 10
  tests : Tab (Option TestRec) 8
  deriving DecidableEq, Repr

/-! ## Containers and banks (Chapters 7 and 8) -/

/-- A BANK record (R199). -/
structure BankCfg where
  /-- T_min, s (R121). -/
  tMin : Nat
  /-- R_b (R136). -/
  required : Nat
  deriving DecidableEq, Repr

/-- A bank: its configuration, its state, and its main valve's period and zones. -/
structure BankRec where
  cfg : BankCfg
  state : BankState
  /-- The zones of the bank now in DISCHARGE, ascending, each at most once (R121). -/
  discharging : List Zone
  /-- Minimum-on end, ms (R123). -/
  minOnEnd : Option Nat
  deriving DecidableEq, Repr

/-- A CONTAINER record (R136); bank none is UNUSED. -/
structure ContainerCfg where
  bank : Option Bank
  low : Nat
  high : Nat
  hysteresis : Nat
  deriving DecidableEq, Repr

/-- The decoder of a container's line (R138). -/
inductive Decoder where
  | hunting
  | collecting (calibration : Nat) (nibbles : List Nat)
  deriving DecidableEq, Repr

/-- Levels (R143). -/
inductive Level where
  | low
  | normal
  | high
  deriving DecidableEq, Repr

/-- Container states (R146). -/
inductive ContainerState where
  | unknown
  | stale
  | sensorFault
  | low
  | normal
  | high
  deriving DecidableEq, Repr

/-- Why a telegram was discarded (R139 to R141). -/
inductive DiscardReason where
  | calJump
  | nibbleError
  | checkError
  deriving DecidableEq, Repr

/-- A configured container. -/
structure ContainerRec where
  cfg : ContainerCfg
  /-- The first falling edge has come (R137). -/
  edgeSeen : Bool
  decoder : Decoder
  /-- c_prev. -/
  prevCalibration : Option Nat
  /-- Oldest first, at most 4, in data units (R142). -/
  readings : List Nat
  holdMark : Bool
  sensorFault : Bool
  /-- The stale expiry has been reached since the last valid telegram (R144). -/
  stale : Bool
  level : Option Level
  /-- ms. -/
  staleExpiry : Nat
  /-- ms. -/
  lastValid : Option Nat
  lastStatus : Option Nat
  lastDiscard : Option (DiscardReason × Nat)
  state : ContainerState
  deriving DecidableEq, Repr

/-- The Container Monitor: the containers and the nominal calibration length N (R136). -/
structure Containers where
  table : Tab (Option ContainerRec) 8
  nominal : Nat
  deriving DecidableEq, Repr

/-! ## Staff alarms (Chapter 9) -/

/-- Kinds of alarm (R155). -/
inductive AlarmKind where
  | duressPin
  | pendantDuress
  | manDown
  | alarmButton
  | missedCheckin
  | loneOccupant
  deriving DecidableEq, Repr

/-- Sources of an alarm (R155). -/
inductive AlarmSource where
  | person (p : Person)
  | line (l : Line)
  | pendant (id : Nat)
  deriving DecidableEq, Repr

/-- An alarm record (R155). -/
structure AlarmRec where
  number : Nat
  kind : AlarmKind
  source : AlarmSource
  zone : Option Zone
  /-- Seconds since reset. -/
  raised : Nat
  /-- Seconds since reset. -/
  lastSeen : Nat
  /-- ACKNOWLEDGED when true, RAISED when false. -/
  acknowledged : Bool
  /-- Condition: present when true, gone when false. -/
  condition : Bool
  deriving DecidableEq, Repr

/-- Pendant telegram kinds (R152). -/
inductive PendantKind where
  | pendantDuress
  | manDown
  | checkIn
  | batteryLow
  deriving DecidableEq, Repr

/-- A pattern slot (R152); bit n of the mask stands for position n. -/
structure Pattern where
  mask : BitVec 32
  crc : BitVec 16
  kind : PendantKind
  offset : Nat
  deriving DecidableEq, Repr

/-- The pendant line receiver (R150). -/
inductive PendantRx where
  | awaitingLength
  | receiving (length : Nat) (bytes : List Byte)
  | skipping
  deriving DecidableEq, Repr

/-- Why a pendant line burst was discarded (R150). -/
inductive PendantDiscard where
  | serialError
  | badLength
  | cutShort
  deriving DecidableEq, Repr

/-- The Staff Alarm Unit. -/
structure Alarms where
  records : List AlarmRec
  nextNumber : Nat
  notRecorded : Bool
  slots : Tab Pattern 4
  rx : PendantRx
  /-- Reason and time in ms. -/
  lastDiscard : Option (PendantDiscard × Nat)
  deriving DecidableEq, Repr

/-! ## Warning panels (Chapter 10) -/

/-- Display states (R170). -/
inductive Display where
  | discharge
  | gasPresent
  | countdown
  | hold
  | alarm
  | checkinDue
  | entryBarred
  | clear
  deriving DecidableEq, Repr

/-- Cadence steps (section 10.4). -/
inductive CadenceStep where
  | on (n : Nat)
  | off (n : Nat)
  | repeatBlock (k : Nat)
  | endBlock
  deriving DecidableEq, Repr

/-- A cadence (R175). -/
structure Cadence where
  tone : Nat
  steps : List CadenceStep
  /-- It is the built-in default. -/
  isDefault : Bool
  deriving DecidableEq, Repr

/-- A running cadence (R173): position, slots left in the step, repeat stack with its top first, each entry the stored step and
the remaining count. -/
structure CadenceRun where
  position : Nat
  left : Nat
  stack : List (Nat × Nat)
  deriving DecidableEq, Repr

/-- A waiting console pair (R174). -/
inductive ConsolePair where
  | text (first second : Byte)
  | clearText
  deriving DecidableEq, Repr

/-- A panel in service (R170 to R174). -/
structure PanelRec where
  display : Display
  seconds : Nat
  /-- The last STATE pair sent. -/
  lastSent : Option (Display × Nat)
  /-- Slots since the last STATE pair. -/
  count : Nat
  offOwed : Bool
  run : Option CadenceRun
  buffer : Option ConsolePair
  deriving DecidableEq, Repr

/-- A frame on the panel link (R193). -/
structure PanelFrame where
  address : Byte
  code : Byte
  value1 : Byte
  value2 : Byte
  check : Byte
  deriving DecidableEq, Repr

/-- The Panel Link Controller. -/
structure Link where
  /-- QUIET when true, SERVICE when false. -/
  quiet : Bool
  /-- The panel of the next slot. -/
  nextSlot : Zone
  /-- Boundaries since the last REFRESH, in QUIET (R176). -/
  sinceRefresh : Nat
  /-- The time of the next slot boundary, ms (R169). -/
  nextBoundary : Nat
  /-- The frame sent at the latest boundary; absent when the line is idle. -/
  frame : Option PanelFrame
  /-- COUNTDOWN, HOLD, DISCHARGE, ALARM (R175). -/
  cadences : Tab Cadence 4
  panels : Tab (Option PanelRec) 8
  deriving DecidableEq, Repr

/-! ## Notices (Chapter 11) -/

/-- Denial reasons (R68). -/
inductive DenialReason where
  | doorFault
  | unknownCredential
  | expired
  | badPin
  | zoneBarred
  | notPermitted
  | condition
  | passback
  | zoneFull
  | interlock
  | samePerson
  | doorBusy
  | checkinRefused
  | pairTimeout
  deriving DecidableEq, Repr

/-- Readers (R27). -/
inductive Reader where
  | entryRead
  | exitRead
  | checkin
  deriving DecidableEq, Repr

/-- Causes of ACCESS_WITHDRAWN (R40). -/
inductive WithdrawCause where
  | zoneBarred
  | doorFault
  | superseded
  | personDeleted
  deriving DecidableEq, Repr

/-- Causes of DOOR_STATE (R49). -/
inductive DoorCause where
  | grant
  | windowExpired
  | grantedOpening
  | egress
  | forced
  | afterWithdrawal
  | heldOpen
  | closed
  | withdrawn
  | moduleOffline
  | moduleOnline
  | contactFault
  | contactRestored
  | firstClassified
  deriving DecidableEq, Repr

/-- Causes of OCCUPANCY_CHANGE (R91). -/
inductive OccCause where
  | entry
  | exit
  | moved
  | egress
  | forced
  | commandOpening
  | responseOpening
  | afterWithdrawal
  | sweep
  | forceExit
  | checkIn
  | personDeleted
  deriving DecidableEq, Repr

/-- Causes of ZONE_STATE (R117). -/
inductive ZoneCause where
  | arm
  | isolate
  | entryHoldCleared
  | releaseAuto
  | releaseManual
  | manualUpgrade
  | cancel
  | occupied
  | unoccupied
  | hold
  | holdReleased
  | countdownEnd
  | dischargeEnd
  | ventComplete
  deriving DecidableEq, Repr

/-- Changes of ALARM_CHANGED (R162). -/
inductive AlarmChange where
  | repeated
  | acknowledged
  | conditionGone
  | cleared
  | replaced
  deriving DecidableEq, Repr

/-- Kinds of reset reported by STARTUP_DONE (R200). -/
inductive ResetKind where
  | powerOn
  | resetLine
  deriving DecidableEq, Repr

/-- The four load flags (R200). -/
structure LoadFlags where
  absent : Bool
  incomplete : Bool
  unknownRecord : Bool
  clamped : Bool
  deriving DecidableEq, Repr

/-- The fields of each kind of notice, in the order of its rule's table (R187). -/
inductive NoticeBody where
  /-- R68. -/
  | accessGranted (door : Door) (grant : Grant)
  /-- R68. -/
  | accessDenied (door : Door) (reader : Reader) (credential : Nat) (person : Option Person) (reason : DenialReason)
      (duress : Bool)
  /-- R40: the grant withdrawn, or the first person of the pairing record withdrawn. -/
  | accessWithdrawn (door : Door) (cause : WithdrawCause) (grant : Option Grant) (first : Option GrantPerson)
  /-- R68. -/
  | pairingStarted (door : Door) (first : GrantPerson) (expiry : Nat)
  /-- R49. -/
  | doorState (door : Door) (state previous : DoorState) (cause : DoorCause) (grant : Option Grant)
      (opening : Option OpeningKind)
  /-- R81. -/
  | exitMismatch (door : Door) (person : Person) (inside removedFrom : Zone)
  /-- R81. -/
  | exitUnlisted (door : Door) (person : Person)
  /-- R91. -/
  | occupancyChange (zone : Zone) (cause : OccCause) (persons : List Person) (count : Nat) (uncertain : Bool) (load : Nat)
  /-- R117. -/
  | zoneState (zone : Zone) (state previous : ZoneState) (cause : ZoneCause) (kind : Option ReleaseKind)
      (delay remaining : Option Nat) (entryHold : Bool) (holdLines : List Line) (holdAlarms : List Nat)
      (load count : Nat) (uncertain : Bool)
  /-- R147. -/
  | bankState (bank : Bank) (state previous : BankState) (healthy required : Nat) (inService : Bool)
  /-- R146. -/
  | containerState (container : Container) (bank : Option Bank) (state previous : ContainerState)
      (average : Option (Nat × Bool)) (kept : Nat) (status : Option Nat)
  /-- R130. -/
  | releasePathFault (output : Output) (fault previous : Option PathFault) (drive : Bool) (feedback : Option LineClass)
      (edge : Option Nat)
  /-- R132. -/
  | testResult (zone : Zone) (onPassed offPassed noFeedback : Bool)
  /-- R162. -/
  | alarmRaised (number : Nat) (kind : AlarmKind) (source : AlarmSource) (zone : Option Zone) (raised : Nat)
      (condition : Bool) (personZone : Option Zone)
  /-- R162. -/
  | alarmChanged (number : Nat) (kind : AlarmKind) (source : AlarmSource) (zone : Option Zone) (change : AlarmChange)
      (acknowledged condition : Bool) (lastSeen : Nat) (personZone : Option Zone)
  /-- R162. -/
  | alarmNotRecorded (kind : AlarmKind) (source : AlarmSource) (zone : Option Zone) (time : Nat) (personZone : Option Zone)
  /-- R165. -/
  | batteryLow (pendant : Nat) (person : Option Person)
  /-- R26. -/
  | moduleState (module : Module) (door : Door) (online : Bool) (tamper : Option Bool) (failure : Option PollFailure)
  /-- R12. -/
  | lineFault (line : Line) (role : LineRole) (newClass : LineClass) (previous : Option LineClass) (present : Bool)
  /-- R63. -/
  | scheduleSwapped
  /-- R200. -/
  | startupDone (reset : ResetKind) (flags : LoadFlags) (bytesRead recordsTaken : Nat) (zones : List Zone) (doors : List Door)
      (containers : List Container) (tod : Option DateTime)
  /-- R186: `overflow` is the cause OVERFLOW, else RESTART. -/
  | resync (overflow : Bool) (lost : Nat)
  deriving DecidableEq, Repr

/-- A notice (section 11.4): its stamp in seconds since reset and the time-of-day at the event that queued it. -/
structure Notice where
  stamp : Nat
  tod : Option DateTime
  body : NoticeBody
  deriving DecidableEq, Repr

/-! ## Master ports (Chapter 11) -/

/-- The receive assembly (R180). `body` holds the length byte and the bytes stored so far; `check` in addition the first CRC
byte once it has come. -/
inductive Assembly where
  | hunt
  | length
  | body (length : Nat) (bytes : List Byte)
  | check (length : Nat) (bytes : List Byte) (first : Option Byte)
  deriving DecidableEq, Repr

/-- Status codes (R191). -/
inductive Status where
  | ok
  | busy
  | notPermitted
  | notReady
  | badFormat
  | notFound
  | wrongState
  | interlock
  | tooLate
  | full
  | duplicate
  | noAgent
  | stillActive
  | notAcknowledged
  | unknownRequest
  | zoneFull
  deriving DecidableEq, Repr

/-- An answer: its segments, each the bytes of a whole frame (R183, R191). -/
abbrev Answer := List (List Byte)

/-- A master port. -/
structure PortRec where
  rx : Assembly
  /-- The line has not returned high since a break (R181). -/
  lineLow : Bool
  /-- The answer being transmitted. -/
  tx : Option Answer
  /-- The waiting slot. -/
  waiting : Option Answer
  /-- The notice queue, oldest first. -/
  queue : List Notice
  deriving DecidableEq, Repr

/-! ## Start-up (Chapter 12) -/

/-- Where start-up stands (R197): the reset input asserted, the configuration being loaded, or STARTUP_DONE queued. -/
inductive Phase where
  | resetHeld
  | loading
  | running
  deriving DecidableEq, Repr

/-- The records taken so far in a load (R199). -/
structure Records where
  fRef : Option Nat
  lines : Tab (Option LineCfg) 64
  doors : Tab (Option DoorCfg) 16
  zones : Tab (Option ZoneCfg) 8
  banks : Tab (Option BankCfg) 2
  containers : Tab (Option ContainerCfg) 8
  patterns : Tab (Option Pattern) 4
  cadences : Tab (Option Cadence) 4
  deriving DecidableEq, Repr

/-- The Configuration Loader. -/
structure Loader where
  phase : Phase
  resetKind : ResetKind
  /-- The address of the next record, 0 to 4096. -/
  address : Nat
  bytesRead : Nat
  recordsTaken : Nat
  flags : LoadFlags
  records : Records
  deriving DecidableEq, Repr

/-! ## The machine -/

/-- Everything the controller holds, and the commands that wait.
The trouble output, the attention lines, the alarm display flags, the containers' averages and the occupancy counts are
functions of these fields (Machine/Flags.lean), never stored a second time (notes/assumptions/38.md). -/
structure State where
  time : Timebase
  loader : Loader
  lines : Tab (Option LineRec) 64
  bus : Bus
  doors : Tab (Option DoorRec) 16
  personnel : Personnel
  schedules : Schedules
  occupancy : Occupancy
  zones : Tab (Option ZoneRec) 8
  valves : Valves
  banks : Tab BankRec 2
  containers : Containers
  alarms : Alarms
  link : Link
  ports : Tab PortRec 3
  /-- The commands that wait, first in, first out (the model's own, notes/assumptions/1.md). -/
  pending : List Instr
  deriving DecidableEq, Repr

/-- No command ends the machine in a fault: the manual gives every event its effect, and a field fault is state. -/
inductive Fault where
  deriving DecidableEq, Repr

/-- Why a command has no meaning here. -/
inductive Refusal where
  /-- A row of the table that has no meaning yet; raised by `exec` alone; safe, since nothing can be proved to complete. -/
  | notModelled (mnemonic : String)
  deriving DecidableEq, Repr

/-! ## Right after a power-on reset -/

/-- R194: K for 25,000,000 Hz is 171,799. That no load has ended is the model's (DESIGN CHOICE, notes/assumptions/4.md). -/
def Timebase.powerOn : Timebase :=
  { acc := 0, k := 171799, fRef := 25000000, ms := 0, sec := 0, dsDue := 0, secDue := 0, tod := none, todMs := 0,
    loadsEnded := 0 }

/-- A load that has taken nothing. -/
def Records.empty : Records :=
  { fRef := none, lines := .replicate 64 none, doors := .replicate 16 none, zones := .replicate 8 none,
    banks := .replicate 2 none, containers := .replicate 8 none, patterns := .replicate 4 none,
    cadences := .replicate 4 none }

/-- R200: the load flags are cleared at each reset. -/
def LoadFlags.clear : LoadFlags := { absent := false, incomplete := false, unknownRecord := false, clamped := false }

/-- R197, R198: a load that begins from address 0. -/
def Loader.start (phase : Phase) (kind : ResetKind) : Loader :=
  { phase := phase, resetKind := kind, address := 0, bytesRead := 0, recordsTaken := 0, flags := .clear, records := .empty }

/-- R31: the queue is empty, the rotation position is 16, the bus idle. -/
def Bus.cleared : Bus := { modules := .replicate 16 none, position := 15, queue := [], tx := .idle }

/-- R67: every place empty, every permission NEVER. -/
def Personnel.cleared : Personnel := { table := [], groups := .replicate 16 (.replicate 8 .never) }

/-- R67: every day-kind list and the holiday list empty. -/
def ScheduleSet.empty : ScheduleSet := { schedules := .replicate 16 (.replicate 8 []), holidays := [] }

/-- R67. -/
def Schedules.cleared : Schedules :=
  { active := .empty, staged := .empty, ready := false, modes := .replicate 8 .after }

/-- R93. -/
def Occupancy.cleared : Occupancy :=
  { entries := [], reserved := .replicate 8 0, uncertain := .replicate 8 false, warning := .replicate 8 false,
    lone := .replicate 8 .notRunning }

/-- R135: an output that is OFF, with nothing settled. -/
def OutputRec.cleared : OutputRec :=
  { inService := false, feedbackLine := none, drive := false, feedback := none, check := none, fault := none }

/-- R135. -/
def Valves.cleared : Valves := { outputs := .replicate 10 .cleared, tests := .replicate 8 none }

/-- R199: a bank without a record takes T_min 180 s and R_b 1. -/
def BankCfg.default : BankCfg := { tMin := 180, required := 1 }

/-- R135, R149: EMPTY, no zone discharging, no minimum-on end. -/
def BankRec.cleared : BankRec := { cfg := .default, state := .empty, discharging := [], minOnEnd := none }

/-- R149; N is the value for 25,000,000 Hz. -/
def Containers.cleared : Containers := { table := .replicate 8 none, nominal := 4200 }

/-- R152: a slot for which no record is loaded; its mask disables it. -/
def Pattern.disabled : Pattern := { mask := 0, crc := 0, kind := .pendantDuress, offset := 0 }

/-- R168. -/
def Alarms.cleared : Alarms :=
  { records := [], nextNumber := 0, notRecorded := false, slots := .replicate 4 .disabled, rx := .skipping,
    lastDiscard := none }

/-- R175: the built-in default of the cadence of index `i` (COUNTDOWN 0, HOLD 1, DISCHARGE 2, ALARM 3): ON 2, OFF 2 with tone
`i + 1`. -/
def Cadence.builtIn (i : Nat) : Cadence := { tone := i + 1, steps := [.on 2, .off 2], isDefault := true }

/-- R179: the link starts in SERVICE with the first slot falling to P0. -/
def Link.cleared : Link :=
  { quiet := false, nextSlot := 0, sinceRefresh := 0, nextBoundary := 50, frame := none,
    cadences := #v[.builtIn 0, .builtIn 1, .builtIn 2, .builtIn 3], panels := .replicate 8 none }

/-- R189. -/
def PortRec.cleared : PortRec := { rx := .hunt, lineLow := false, tx := none, waiting := none, queue := [] }

/-- The state of every block after a power-on reset or a RESET line reset, apart from the Timebase and the loader
(R14, R31, R33, R67, R93, R120, R135, R149, R168, R179, R189): nothing is configured until a load has ended. -/
def State.cleared (time : Timebase) (loader : Loader) (pending : List Instr) : State :=
  { time := time, loader := loader, lines := .replicate 64 none, bus := .cleared, doors := .replicate 16 none,
    personnel := .cleared, schedules := .cleared, occupancy := .cleared, zones := .replicate 8 none, valves := .cleared,
    banks := .replicate 2 .cleared, containers := .cleared, alarms := .cleared, link := .cleared,
    ports := .replicate 3 .cleared, pending := pending }

/-- The machine right after a power-on reset (R197): the load has begun, nothing is configured, the time-of-day is absent. -/
def State.reset : State := .cleared .powerOn (.start .loading .powerOn) []

end Sys2Proof.Machine
end

