-- ==== Sys2Proof/Machine/Flags.lean ====
section
/-! DEFINITION. What other blocks and the pins read off the state: barring, occupancy summaries, alarm display flags, the
conditions of the trouble output, the attention lines. None of it is stored a second time. -/

namespace Sys2Proof.Machine

/-- The place of a bank in the tables of banks. -/
def bankIndex : Bank → Fin 2
  | .bankA => 0
  | .bankB => 1

/-- The place of a port in the table of ports. -/
def portIndex : Port → Fin 3
  | .access => 0
  | .suppression => 1
  | .console => 2

/-- Both banks, A then B. -/
def allBanks : List Bank := [.bankA, .bankB]

/-- Selector Sn belongs to zone Zn (R94). -/
def selectorOf (z : Zone) : Output := ⟨z.val, by omega⟩

/-- The main valve of a bank: MA is 8, MB is 9. -/
def mainValveOf : Bank → Output
  | .bankA => 8
  | .bankB => 9

/-- The zone of a selector output; none for a main valve. -/
def selectorZone (o : Output) : Option Zone := if h : o.val < 8 then some ⟨o.val, h⟩ else none

/-- The bank of a main valve; none for a selector. -/
def mainValveBank (o : Output) : Option Bank := if o = 8 then some .bankA else if o = 9 then some .bankB else none

/-! ## Entry barring -/

/-- The states of section 6.2 that bar entry by themselves. -/
def stateBars : ZoneState → Bool
  | .occupiedHold | .countdown | .held | .discharge | .discharged => true
  | .isolated | .guarded => false

/-- R96: a zone bars entry by its state or its entry hold. -/
def zoneBars (r : ZoneRec) : Bool := stateBars r.state || r.entryHold

/-- R96, for a zone by number; a zone that is not configured has no record to bar by. -/
def State.bars (s : State) (z : Zone) : Bool := (s.zones[z]).any zoneBars

/-- R40: the states in which no RESPONSE grant may stand. -/
def stateBarsResponse : ZoneState → Bool
  | .countdown | .held | .discharge | .discharged => true
  | .isolated | .guarded | .occupiedHold => false

/-! ## Occupancy -/

/-- A zone's entries, oldest first (R79). -/
def Occupancy.entriesIn (o : Occupancy) (z : Zone) : List Entry := o.entries.filter (·.zone = z)

/-- A person's entry (R79: at most one). -/
def Occupancy.entryOf (o : Occupancy) (p : Person) : Option Entry := o.entries.find? (·.person = p)

/-- The zone a person's entry lies in. -/
def State.personZone (s : State) (p : Person) : Option Zone := (s.occupancy.entryOf p).map (·.zone)

/-- The uncertain load U of a zone (R94). -/
def State.uncertainLoad (s : State) (z : Zone) : Nat := ((s.zones[z]).map (·.cfg.uncertainLoad)).getD 0

/-- R90: W, the sum of the weights, with U while the zone is uncertain, saturated at 255. -/
def State.egressLoad (s : State) (z : Zone) : Nat :=
  min 255 (((s.occupancy.entriesIn z).map (·.weight)).sum + if s.occupancy.uncertain[z] then s.uncertainLoad z else 0)

/-- R91: a zone's occupancy summary as it stands. -/
def State.summaryOf (s : State) (z : Zone) : Summary :=
  { count := (s.occupancy.entriesIn z).length, uncertain := s.occupancy.uncertain[z],
    reserved := s.occupancy.reserved[z], load := s.egressLoad z }

/-- R91, R102: occupied while the count is above 0 or the flag is set. -/
def Summary.occupied (m : Summary) : Bool := 0 < m.count || m.uncertain

/-- R78: entries and reserved places over all zones. -/
def State.totalPlaces (s : State) : Nat := s.occupancy.entries.length + s.occupancy.reserved.toList.sum

/-- R71: the place test for `need` places in zone `z`. -/
def State.placesFree (s : State) (z : Zone) (need : Nat) : Bool :=
  match s.zones[z] with
  | none => false
  | some r =>
    (s.occupancy.entriesIn z).length + s.occupancy.reserved[z] + need ≤ r.cfg.limit && s.totalPlaces + need ≤ 64

/-! ## Alarms -/

/-- The holding kinds of R108. -/
def AlarmKind.holds : AlarmKind → Bool
  | .duressPin | .pendantDuress | .manDown | .alarmButton | .missedCheckin => true
  | .loneOccupant => false

/-- R159: the latched kinds, whose condition is always gone. -/
def AlarmKind.latched : AlarmKind → Bool
  | .duressPin | .pendantDuress | .manDown => true
  | .alarmButton | .missedCheckin | .loneOccupant => false

/-- R161: a record holds when it has a zone and its kind is a holding one. -/
def AlarmRec.holds (r : AlarmRec) : Bool := r.zone.isSome && r.kind.holds

/-- R155: ACKNOWLEDGED with its condition gone. -/
def AlarmRec.replaceable (r : AlarmRec) : Bool := r.acknowledged && !r.condition

/-- R155: the list has room. -/
def Alarms.hasRoom (a : Alarms) : Bool := a.records.length < 32 || a.records.any (·.replaceable)

/-- The records located in a zone. -/
def Alarms.inZone (a : Alarms) (z : Zone) : List AlarmRec := a.records.filter (·.zone = some z)

/-- R161: the zone's alarm display flag. -/
def Alarms.displayFlag (a : Alarms) (z : Zone) : Bool := (a.inZone z).any (·.kind != .duressPin)

/-! ## Containers -/

/-- R142: the average of the kept readings, in data units; absent when none is kept. -/
def ContainerRec.average (c : ContainerRec) : Option Nat :=
  if c.readings.isEmpty then none else some (c.readings.sum / c.readings.length)

/-- R146, R147: NORMAL or HIGH. -/
def ContainerState.healthy : ContainerState → Bool
  | .normal | .high => true
  | .unknown | .stale | .sensorFault | .low => false

/-- The configured containers in increasing number. -/
def Containers.configured (c : Containers) : List (Container × ContainerRec) :=
  (List.finRange 8).filterMap fun i => (c.table[i]).map (i, ·)

/-- R147: n, the healthy containers assigned to a bank. -/
def State.healthyCount (s : State) (bank : Bank) : Nat :=
  (s.containers.configured.filter fun c => c.2.cfg.bank = some bank && c.2.state.healthy).length

/-- R121: a bank is in service when its main valve is. -/
def State.bankInService (s : State) (bank : Bank) : Bool := (s.valves.outputs[mainValveOf bank]).inService

/-! ## The trouble output (R133) -/

/-- The conditions of the trouble output, in the order of R133's table, each naming its item. -/
inductive Trouble where
  | pathFault (o : Output)
  | abortLine (l : Line)
  | container (c : Container)
  | bank (bank : Bank)
  | configuration
  | module (m : Module)
  | notRecorded
  deriving DecidableEq, Repr

/-- SHORT and OPEN_CIRCUIT are the fault classes (R12). -/
def LineClass.isFault : LineClass → Bool
  | .short | .openCircuit => true
  | .normal | .active => false

/-- An ABORT_STATION line in fault (R9). -/
def LineRec.abortFault (r : LineRec) : Bool :=
  match r.cfg.role with
  | .abortStation _ => r.reported.any (·.isFault)
  | _ => false

/-- R200: a configuration load error. -/
def LoadFlags.any (f : LoadFlags) : Bool := f.absent || f.incomplete || f.unknownRecord || f.clamped

/-- R133: the conditions now present, in the order of the rows of the table and by increasing number within a row (DESIGN CHOICE,
notes/assumptions/54.md). -/
def State.troubles (s : State) : List Trouble :=
  ((List.finRange 10).filter fun o => (s.valves.outputs[o]).inService && (s.valves.outputs[o]).fault.isSome).map .pathFault
  ++ ((List.finRange 64).filter fun l => (s.lines[l]).any (·.abortFault)).map .abortLine
  ++ (s.containers.configured.filter fun c => c.2.cfg.bank.isSome && !c.2.state.healthy).map (fun c => .container c.1)
  ++ (allBanks.filter fun k => s.bankInService k && (s.banks[bankIndex k]).state != .available).map .bank
  ++ (if s.loader.flags.any then [.configuration] else [])
  ++ ((List.finRange 16).filter fun m => (s.bus.modules[m]).any (!·.online)).map .module
  ++ (if s.alarms.notRecorded then [.notRecorded] else [])

/-- R133: the level of the trouble output; asserted from a reset until loading has ended. -/
def State.troubleOutput (s : State) : Bool := s.loader.phase != .running || !s.troubles.isEmpty

/-! ## The attention lines (R186) -/

/-- R186: asserted while the port's queue holds at least one notice. -/
def State.attention (s : State) (p : Port) : Bool := !(s.ports[portIndex p]).queue.isEmpty

end Sys2Proof.Machine
end

