-- ==== Sys2Proof/Machine/Ops.lean ====
section
/-! DEFINITION. The named updates of single items of the state, and the queuing of notices (R186, R187). -/

namespace Sys2Proof.Machine

/-- The loader is past STARTUP_DONE (R197): the blocks do their work. -/
def State.isRunning (s : State) : Bool := s.loader.phase == .running

/-- Milliseconds since reset. -/
def State.nowMs (s : State) : Nat := s.time.ms

/-- Seconds since reset. -/
def State.nowSec (s : State) : Nat := s.time.sec

/-! ## One item at a time -/

def State.updLine (s : State) (l : Line) (f : LineRec → LineRec) : State :=
  { s with lines := s.lines.put l ((s.lines[l]).map f) }

def State.updDoor (s : State) (d : Door) (f : DoorRec → DoorRec) : State :=
  { s with doors := s.doors.put d ((s.doors[d]).map f) }

def State.updZone (s : State) (z : Zone) (f : ZoneRec → ZoneRec) : State :=
  { s with zones := s.zones.put z ((s.zones[z]).map f) }

def State.updModule (s : State) (m : Module) (f : ModuleRec → ModuleRec) : State :=
  { s with bus := { s.bus with modules := s.bus.modules.put m ((s.bus.modules[m]).map f) } }

def State.updOutput (s : State) (o : Output) (f : OutputRec → OutputRec) : State :=
  { s with valves := { s.valves with outputs := s.valves.outputs.put o (f s.valves.outputs[o]) } }

def State.setTest (s : State) (z : Zone) (t : Option TestRec) : State :=
  { s with valves := { s.valves with tests := s.valves.tests.put z t } }

def State.updBank (s : State) (bank : Bank) (f : BankRec → BankRec) : State :=
  { s with banks := s.banks.put (bankIndex bank) (f s.banks[bankIndex bank]) }

def State.updContainer (s : State) (c : Container) (f : ContainerRec → ContainerRec) : State :=
  { s with containers := { s.containers with table := s.containers.table.put c ((s.containers.table[c]).map f) } }

def State.updPanel (s : State) (z : Zone) (f : PanelRec → PanelRec) : State :=
  { s with link := { s.link with panels := s.link.panels.put z ((s.link.panels[z]).map f) } }

def State.updPort (s : State) (p : Port) (f : PortRec → PortRec) : State :=
  { s with ports := s.ports.put (portIndex p) (f s.ports[portIndex p]) }

def State.updOccupancy (s : State) (f : Occupancy → Occupancy) : State := { s with occupancy := f s.occupancy }

def State.updAlarms (s : State) (f : Alarms → Alarms) : State := { s with alarms := f s.alarms }

/-- A sequence of items handled one after the other, each on the state the one before left. -/
def State.forEach {α : Type} (s : State) (items : List α) (f : α → State → State) : State :=
  items.foldl (fun t a => f a t) s

/-- A number put into an ascending list that holds it at most once. -/
def insertAscending {n : Nat} (x : Fin n) : List (Fin n) → List (Fin n)
  | [] => [x]
  | y :: ys => if x < y then x :: y :: ys else if x = y then y :: ys else y :: insertAscending x ys

/-- The doors whose inside zone is `z`, in increasing number. -/
def State.doorsInto (s : State) (z : Zone) : List Door :=
  (List.finRange 16).filter fun d => (s.doors[d]).any (·.cfg.inside = z)

/-- The configured zones in increasing number. -/
def State.configuredZones (s : State) : List Zone := (List.finRange 8).filter fun z => (s.zones[z]).isSome

/-! ## Notices -/

/-- R187: the ports to which a notice is queued. -/
def NoticeBody.ports : NoticeBody → List Port
  | .accessGranted .. | .accessDenied .. | .accessWithdrawn .. | .pairingStarted .. | .doorState .. | .exitMismatch ..
  | .exitUnlisted .. | .alarmRaised .. | .alarmChanged .. | .alarmNotRecorded .. => [.access, .console]
  | .occupancyChange .. | .zoneState .. | .moduleState .. | .lineFault .. | .startupDone .. => [.access, .suppression, .console]
  | .bankState .. | .containerState .. | .releasePathFault .. => [.suppression, .console]
  | .testResult .. => [.suppression]
  | .batteryLow .. => [.console]
  | .scheduleSwapped => [.access]
  | .resync .. => []

/-- R186: a notice joins a queue of fewer than 48; at a full queue the queue is emptied, a RESYNC notice with cause OVERFLOW and
the lost count joins, and then the notice. -/
def PortRec.enqueue (r : PortRec) (n : Notice) : PortRec :=
  if r.queue.length < 48 then { r with queue := r.queue ++ [n] }
  else { r with queue := [{ n with body := .resync true r.queue.length }, n] }

/-- A notice made now: its stamp is the seconds since reset, its time-of-day the present one (section 11.4). -/
def State.stampNotice (s : State) (body : NoticeBody) : Notice :=
  { stamp := s.nowSec, tod := s.time.tod, body := body }

/-- R187: a notice is queued to each of its ports, to each by R186 by itself. -/
def State.notify (s : State) (body : NoticeBody) : State :=
  s.forEach body.ports fun p t => t.updPort p (·.enqueue (s.stampNotice body))

end Sys2Proof.Machine
end

