-- ==== Sys2Proof/Machine/BusOps.lean ====
section
/-! DEFINITION. The door bus: headers, the choice of the next transaction, pending drives (R16 to R21). -/

namespace Sys2Proof.Machine

/-- The address byte of a module, 1 to 16 (R16). -/
def moduleAddress (m : Module) : Byte := byteOf (m.val + 1)

/-- R16, R192: the kind byte with the last taken toggle in bit 7, which is 0 while the toggle is absent. -/
def headerKind (code : Byte) (toggle : Option Bool) : Byte := if toggle = some true then code ||| 0x80 else code

/-- R192: the kind code of a POLL. -/
def pollCode : Byte := 0x11
/-- R192: the kind code of a DRIVE. -/
def driveCode : Byte := 0x22

/-- R192: the lock byte of a DRIVE. -/
def lockByte : Lock → Byte
  | .locked => 0x00
  | .unlocked => 0x01

/-- R192: the second data byte of a DRIVE: indicator in bits 0 to 1, CHIRP in bit 4. -/
def indicatorByte (i : Indicator) (chirp : Bool) : Byte :=
  (match i with | .off => 0x00 | .red => 0x01 | .green => 0x02 | .amber => 0x03) ||| (if chirp then 0x10 else 0x00)

/-- R18, R192: a DRIVE as it is sent to module `m`; the check covers address, kind and the two data bytes. -/
def driveFrame (m : Module) (toggle : Option Bool) (d : Drive) : BusTx :=
  let kind := headerKind driveCode toggle
  let lock := lockByte d.lock
  let indicator := indicatorByte d.indicator d.chirp
  .drive m kind lock indicator (checkOver [moduleAddress m, kind, lock, indicator])

/-- R20: a module may be polled: it is ONLINE, or it is OFFLINE and its last POLL is absent or 1000 ms or more in the past. -/
def pollEligible (now : Nat) (r : ModuleRec) : Bool := r.online || r.lastPoll.all (· + 1000 ≤ now)

/-- R20: the addresses after the rotation position in increasing order, wrapping from 16 to 1. -/
def rotationFrom (position : Module) : List Module := (List.finRange 16).map (position + 1 + ·)

/-- R20: the first eligible module after the rotation position. -/
def State.nextPoll (s : State) : Option Module :=
  (rotationFrom s.bus.position).find? fun m => (s.bus.modules[m]).any (pollEligible s.nowMs)

/-- R20: a POLL of module `m` begins: the rotation position and the module's last POLL time are set. -/
def State.startPoll (s : State) (m : Module) : State :=
  let toggle := (s.bus.modules[m]).bind (·.toggle)
  let t := s.updModule m fun r => { r with lastPoll := some s.nowMs }
  { t with bus := { t.bus with position := m, tx := .poll m (headerKind pollCode toggle) [] false } }

/-- R20: the oldest pending drive leaves the queue and is sent; the rotation position stays. -/
def State.startDrive (s : State) (m : Module) (d : Drive) (rest : List (Module × Drive)) : State :=
  let toggle := (s.bus.modules[m]).bind (·.toggle)
  { s with bus := { s.bus with queue := rest, tx := driveFrame m toggle d } }

/-- R20: the one arbitration of the bus, on a bus that is idle: drives first, then the rotation, else idle. -/
def State.chooseNext (s : State) : State :=
  match s.bus.tx with
  | .poll .. => s
  | .drive .. => s
  | .idle =>
    match s.bus.queue with
    | (m, d) :: rest => s.startDrive m d rest
    | [] =>
      match s.nextPoll with
      | some m => s.startPoll m
      | none => s

/-- R20: the bus becomes free and the next transaction starts at once. -/
def State.busFree (s : State) : State := { s with bus := { s.bus with tx := .idle } }.chooseNext

/-- R21: the drive joins the queue at its end, or replaces the module's pending drive in its place. -/
def queueDrive (q : List (Module × Drive)) (m : Module) (d : Drive) : List (Module × Drive) :=
  if q.any (·.1 = m) then q.map fun x => if x.1 = m then (m, d) else x else q ++ [(m, d)]

/-- R21, R22: a drive handed over for a door's module: queued for an ONLINE module (and sent at once on an idle bus),
discarded for an OFFLINE one and for a door without a module. -/
def State.handDrive (s : State) (module : Option Module) (d : Drive) : State :=
  match module with
  | none => s
  | some m =>
    if (s.bus.modules[m]).any (·.online) then
      { s with bus := { s.bus with queue := queueDrive s.bus.queue m d } }.chooseNext
    else s

end Sys2Proof.Machine
end

