-- ==== Sys2Proof/Machine/DoorOps.lean ====
section
/-! DEFINITION. The door record's shared operations: its drive (R46, R47), the removal of grants and pairings (R40, R43, R45),
withdrawal orders (R40). -/

namespace Sys2Proof.Machine

/-! ## Lock and indicator -/

/-- R47: the lock part of a door's drive. -/
def doorLock (r : DoorRec) : Lock := if r.state = .unlocked then .unlocked else .locked

/-- R47: the indicator part of a door's drive; `barred` says the inside zone bars entry. -/
def doorIndicator (r : DoorRec) (barred : Bool) : Indicator :=
  if r.state = .unlocked then .green
  else if r.denialEnd.isSome then .red
  else if r.pairing.isSome then .amber
  else if barred then .red
  else .off

/-- R47: the drive computed for a door now. -/
def State.doorDrive (s : State) (r : DoorRec) : Drive :=
  { lock := doorLock r, indicator := doorIndicator r (s.bars r.cfg.inside), chirp := r.chirpOwed }

/-- R47: the computed drive must be handed over: its lock or indicator differs from the last drive handed over, or a chirp is
owed. -/
def driveDiffers (last : Option Drive) (d : Drive) : Bool :=
  d.chirp || last.all fun l => l.lock != d.lock || l.indicator != d.indicator

/-- R47: the drive of a door is recomputed, and handed over where that is due; the handed drive discharges an owed chirp. -/
def State.refreshDrive (s : State) (d : Door) : State :=
  match s.doors[d] with
  | none => s
  | some r =>
    let drive := s.doorDrive r
    if driveDiffers r.lastDrive drive then
      (s.updDoor d fun x => { x with lastDrive := some drive, chirpOwed := false }).handDrive r.module drive
    else s

/-- R46: the denial display of a door starts or is moved to 2 s from now, and a chirp is owed. -/
def State.startDenial (s : State) (d : Door) : State :=
  (s.updDoor d fun r => { r with denialEnd := some (s.nowMs + 2000), chirpOwed := true }).refreshDrive d

/-! ## Door states -/

/-- R49: a DOOR_STATE notice for a door that was in `previous`; the opening kind is given when the new state is OPEN. -/
def State.notifyDoor (s : State) (d : Door) (previous : DoorState) (cause : DoorCause) (grant : Option Grant) : State :=
  match s.doors[d] with
  | none => s
  | some r =>
    s.notify (.doorState d r.state previous cause grant (if r.state = .opened then r.openingKind else none))

/-! ## Places -/

/-- R91: the zone's summary as it stands is recorded in the zone record. This is the whole of the handing over when only the
reserved places changed, since they do not make a zone occupied or unoccupied (R105). -/
def State.recordSummary (s : State) (z : Zone) : State := s.updZone z fun r => { r with summary := s.summaryOf z }

/-- R78: places of a zone are reserved. -/
def State.reservePlaces (s : State) (z : Zone) (n : Nat) : State :=
  (s.updOccupancy fun o => { o with reserved := o.reserved.put z (o.reserved[z] + n) }).recordSummary z

/-- R78: places of a zone are released. -/
def State.releasePlaces (s : State) (z : Zone) (n : Nat) : State :=
  (s.updOccupancy fun o => { o with reserved := o.reserved.put z (o.reserved[z] - n) }).recordSummary z

/-! ## Removal of pairings and grants -/

/-- A pairing record is removed with an ACCESS_WITHDRAWN notice for its first person (R40, R43, R44, R54). -/
def State.withdrawPairing (s : State) (d : Door) (cause : WithdrawCause) : State :=
  match (s.doors[d]).bind (·.pairing) with
  | none => s
  | some p => (s.updDoor d fun r => { r with pairing := none }).notify (.accessWithdrawn d cause none (some p.first))

/-- A grant record is removed, its places handed back, with an ACCESS_WITHDRAWN notice (R40, R43, R44). -/
def State.withdrawGrant (s : State) (d : Door) (cause : WithdrawCause) : State :=
  match s.doors[d] with
  | none => s
  | some r =>
    match r.grant with
    | none => s
    | some g =>
      ((s.updDoor d fun x => { x with grant := none }).releasePlaces r.cfg.inside g.places).notify
        (.accessWithdrawn d cause (some g) none)

/-- R40: which kinds of grant a withdrawal order removes, by the state the zone entered. -/
def orderWithdraws (entered : ZoneState) : GrantKind → Bool
  | .entry | .command => stateBars entered
  | .response => stateBarsResponse entered
  | .exit => false

/-- R40: a withdrawal order at one door: the pairing record first, then the grant; a withdrawn grant leaves the door SECURE with
a withdrawn-window end. -/
def State.withdrawAtDoor (s : State) (d : Door) (entered : ZoneState) : State :=
  let s1 := s.withdrawPairing d .zoneBarred
  let s2 :=
    match (s1.doors[d]).bind (·.grant) with
    | none => s1
    | some g =>
      if orderWithdraws entered g.kind then
        let previous := ((s1.doors[d]).map fun (r : DoorRec) => r.state).getD DoorState.secure
        let t := s1.withdrawGrant d .zoneBarred
        let t := t.updDoor d fun r => { r with state := .secure, withdrawnEnd := some g.expiry }
        t.notifyDoor d previous .withdrawn (some g)
      else s1
  s2.refreshDrive d

/-- R96: the withdrawal order for a state entered, for every door whose inside zone it is. The manual gives the doors no order; they are
taken in increasing number (DESIGN CHOICE, notes/assumptions/42.md). -/
def State.withdrawalOrder (s : State) (z : Zone) (entered : ZoneState) : State :=
  s.forEach (s.doorsInto z) fun d t => t.withdrawAtDoor d entered

/-- R96: the barring of a zone has ended, and the indicators of its doors are recomputed, in increasing door number (DESIGN CHOICE,
notes/assumptions/42.md). -/
def State.barringEnded (s : State) (z : Zone) : State := s.forEach (s.doorsInto z) fun d t => t.refreshDrive d

end Sys2Proof.Machine
end

