-- ==== Sys2Proof/Machine/PanelOps.lean ====
section
/-! DEFINITION. The warning panels: display states (R170, R171), what a slot carries (R172), cadences (R173), quiet mode
(R176, R177). -/

namespace Sys2Proof.Machine

/-! ## Display state -/

/-- R170: seconds are R divided by 10, rounded up. -/
def panelSeconds (remaining : Option Nat) : Nat := (remaining.getD 0 + 9) / 10

/-- R170: the display state and seconds from the zone's record, its alarm display flag and its check-in warning. -/
def displayOf (r : ZoneRec) (alarm warning : Bool) : Display × Nat :=
  match r.state with
  | .discharge => (.discharge, 0)
  | .discharged => (.gasPresent, 0)
  | .countdown => (.countdown, panelSeconds r.remaining)
  | .held => (.hold, panelSeconds r.remaining)
  | .occupiedHold => if alarm then (.alarm, 0) else if warning then (.checkinDue, 0) else (.entryBarred, 0)
  | .isolated | .guarded =>
    if alarm then (.alarm, 0) else if warning then (.checkinDue, 0)
    else if r.entryHold then (.entryBarred, 0) else (.clear, 0)

/-- R171: the cadence of a display state, by its index (COUNTDOWN 0, HOLD 1, DISCHARGE 2, ALARM 3). -/
def cadenceOf : Display → Option (Fin 4)
  | .countdown => some 0
  | .hold => some 1
  | .discharge => some 2
  | .alarm => some 3
  | .gasPresent | .checkinDue | .entryBarred | .clear => none

/-- R173: a cadence that is started. -/
def CadenceRun.start : CadenceRun := { position := 0, left := 0, stack := [] }

/-- R171: a panel takes a display state and seconds. A change of display state ends the old cadence, owing an off pair, and
starts the new one; a change of seconds alone leaves the cadence as it runs. -/
def PanelRec.show (p : PanelRec) (display : Display) (seconds : Nat) : PanelRec :=
  if p.display = display then { p with seconds := seconds }
  else
    { p with
      display := display, seconds := seconds,
      offOwed := p.offOwed || (cadenceOf p.display).isSome,
      run := (cadenceOf display).map fun _ => CadenceRun.start }

/-- R170: the display state and seconds of a zone's panel are found afresh. -/
def State.refreshPanel (s : State) (z : Zone) : State :=
  match s.zones[z] with
  | none => s
  | some r =>
    let shown := displayOf r (s.alarms.displayFlag z) s.occupancy.warning[z]
    s.updPanel z (·.show shown.1 shown.2)

/-! ## Frames -/

/-- R193: the code of a display state in a STATE pair. -/
def displayByte : Display → Byte
  | .discharge => 0x01
  | .gasPresent => 0x02
  | .countdown => 0x03
  | .hold => 0x04
  | .alarm => 0x05
  | .checkinDue => 0x06
  | .entryBarred => 0x07
  | .clear => 0x08

/-- R169, R193: a frame with its two's-complement check. -/
def panelFrame (address code value1 value2 : Byte) : PanelFrame :=
  { address := address, code := code, value1 := value1, value2 := value2,
    check := checkOver [address, code, value1, value2] }

/-- R176: the REFRESH frame, to the broadcast address. -/
def refreshFrame : PanelFrame := panelFrame 0xFF 0x05 0 0

/-! ## Cadences -/

/-- More REPEAT and END steps than one timed step of a validated list can lie behind: with 16 steps and three open blocks of count 15
that is at most 18258 (R173, R175). -/
def cadenceFuel : Nat := 65536

/-- R173: steps are taken from the position until a timed step; the answer says whether it is ON, and the run after it. -/
def takeStep (steps : List CadenceStep) : Nat → Nat → List (Nat × Nat) → Option (Bool × CadenceRun)
  | 0, _, _ => none
  | fuel + 1, position, stack =>
    match steps[position]? with
    | none => takeStep steps fuel 0 stack
    | some (.on n) => some (true, { position := position + 1, left := n - 1, stack := stack })
    | some (.off n) => some (false, { position := position + 1, left := n - 1, stack := stack })
    | some (.repeatBlock k) => takeStep steps fuel (position + 1) ((position + 1, k) :: stack)
    | some .endBlock =>
      match stack with
      | (first, count) :: rest =>
        if 1 < count then takeStep steps fuel first ((first, count - 1) :: rest)
        else takeStep steps fuel (position + 1) rest
      | [] => takeStep steps fuel (position + 1) []

/-! ## What a slot carries -/

/-- R172, case 2: a STATE pair is due. This slot is one of the slots since the last STATE pair, so a display that does not change is refreshed
in every eighth slot, every 3.2 s (DEDUCED, notes/assumptions/51.md). -/
def PanelRec.stateDue (p : PanelRec) : Bool := p.lastSent != some (p.display, p.seconds) || 8 ≤ p.count + 1

/-- R172, cases 2 to 4: the frame of a slot in which no sounder pair is due. -/
def PanelRec.serveQuietly (p : PanelRec) (address : Byte) : PanelRec × PanelFrame :=
  if p.stateDue then
    ({ p with lastSent := some (p.display, p.seconds), count := 0 },
      panelFrame address 0x01 (displayByte p.display) (byteOf p.seconds))
  else
    match p.buffer with
    | some (.text a b) => ({ p with buffer := none, count := p.count + 1 }, panelFrame address 0x03 a b)
    | some .clearText => ({ p with buffer := none, count := p.count + 1 }, panelFrame address 0x04 0 0)
    | none => ({ p with count := p.count + 1 }, panelFrame address 0x00 0 0)

/-- R172: a panel is served in its slot. -/
def PanelRec.serve (p : PanelRec) (address : Byte) (cadences : Tab Cadence 4) : PanelRec × PanelFrame :=
  if p.offOwed then ({ p with offOwed := false, count := p.count + 1 }, panelFrame address 0x02 0 0)
  else
    match p.run, cadenceOf p.display with
    | some run, some i =>
      if 0 < run.left then
        { p with run := some { run with left := run.left - 1 } }.serveQuietly address
      else
        match takeStep cadences[i].steps cadenceFuel run.position run.stack with
        | some (sound, next) =>
          ({ p with run := some next, count := p.count + 1 },
            panelFrame address 0x02 (if sound then 1 else 0) (byteOf cadences[i].tone))
        | none => p.serveQuietly address
    | _, _ => p.serveQuietly address

/-- The slot of the link falls to a panel: it is served, or the line is idle when it is not in service (R169). -/
def State.serveSlot (s : State) (z : Zone) : State :=
  match s.link.panels[z] with
  | none => { s with link := { s.link with frame := none, nextSlot := z + 1 } }
  | some p =>
    let served := p.serve (byteOf z.val) s.link.cadences
    { s with
      link := { s.link with panels := s.link.panels.put z (some served.1), frame := some served.2, nextSlot := z + 1 } }

/-- R176: a panel in service is idle. -/
def PanelRec.idle (p : PanelRec) : Bool :=
  p.display == .clear && p.lastSent.any (·.1 == .clear) && !p.offOwed && p.buffer.isNone

/-- R176: every panel is idle; one not in service always is. -/
def Link.allIdle (l : Link) : Bool := (List.finRange 8).all fun z => (l.panels[z]).all (·.idle)

end Sys2Proof.Machine
end

