-- ==== Sys2Proof/Machine/ValveOps.lean ====
section
/-! DEFINITION. Valve outputs: edges and their checks (R125 to R127), supervision between edges (R128, R129), path faults (R130),
test releases (R132), the bank main valve (R123, R124). -/

namespace Sys2Proof.Machine

/-- R125: how long a check waits, in ms. -/
def checkTime : Nat := 1000

/-- R132: how long a test release's first stage lasts, in ms. -/
def testStageTime : Nat := 5000

/-- R116: the presence of an output's path fault is handed to its zone records: a selector's to its zone, a main valve's to every
zone of its bank. -/
def State.handPathFault (s : State) (o : Output) (present : Bool) : State :=
  match selectorZone o with
  | some z => s.updZone z fun r => { r with selectorFault := present }
  | none =>
    s.forEach (List.finRange 8) fun z t =>
      t.updZone z fun r => if mainValveBank o = some r.cfg.bank then { r with mainFault := present } else r

/-- R130: a change of an output's path fault: recorded, reported, then handed to the zone records. A fault set again with the kind it
already has (an ON_CHECK that fails again with a new edge time, NO_CURRENT again after a return to ACTIVE) is no change: it is neither
reported nor handed over (DESIGN CHOICE, notes/assumptions/58.md). `edge` is the time of the edge whose check failed. -/
def State.setPathFault (s : State) (o : Output) (fault : Option PathFault) (edge : Option Nat) : State :=
  let r := s.valves.outputs[o]
  if r.fault = fault then s
  else
    ((s.updOutput o fun x => { x with fault := fault }).notify
      (.releasePathFault o fault r.fault r.drive r.feedback edge)).handPathFault o fault.isSome

/-- R132: the test release of a zone, in its second stage, ends with its OFF_CHECK's result. -/
def State.endTest (s : State) (z : Zone) (offPassed : Bool) : State :=
  match s.valves.tests[z] with
  | some { stage := .second onPassed, .. } => (s.setTest z none).notify (.testResult z onPassed offPassed false)
  | _ => s

/-- R132: the result of an output's check as its zone's running test release takes it. -/
def State.testChecked (s : State) (o : Output) (kind : CheckKind) (passed : Bool) : State :=
  match selectorZone o with
  | none => s
  | some z =>
    match kind with
    | .offCheck => s.endTest z passed
    | .onCheck =>
      match s.valves.tests[z] with
      | some { start := start, stage := .first _ } => s.setTest z (some { start := start, stage := .first passed })
      | _ => s

/-- R126, R127: the pending check of an output passes: it is disarmed and any path fault is removed. RELEASE_PATH_FAULT stands before a
TEST_RESULT of the same event (DESIGN CHOICE, notes/assumptions/46.md). -/
def State.passCheck (s : State) (o : Output) (kind : CheckKind) : State :=
  ((s.updOutput o fun r => { r with check := none }).setPathFault o none none).testChecked o kind true

/-- R126, R127: the pending check of an output fails at its expiry. RELEASE_PATH_FAULT stands before a TEST_RESULT of the same event
(DESIGN CHOICE, notes/assumptions/46.md). -/
def State.failCheck (s : State) (o : Output) (check : Check) : State :=
  let fault := match check.kind with | .onCheck => PathFault.onCheckFail | .offCheck => PathFault.offCheckFail
  ((s.updOutput o fun r => { r with check := none }).setPathFault o (some fault) (some check.edge)).testChecked o
    check.kind false

/-- R125: the class a check wants. -/
def CheckKind.wanted : CheckKind → LineClass
  | .onCheck => .active
  | .offCheck => .normal

/-- R125 to R127: a pending check of that kind passes when the class is the wanted one. -/
def State.judgeCheck (s : State) (o : Output) : State :=
  match (s.valves.outputs[o]).check with
  | none => s
  | some c => if (s.valves.outputs[o]).feedback = some c.kind.wanted then s.passCheck o c.kind else s

/-- R125: an output in service is switched. A command that leaves it in its drive is no edge; an edge of a supervised output arms
its check, which replaces any pending one and is judged at once. -/
def State.switchOutput (s : State) (o : Output) (on : Bool) : State :=
  let r := s.valves.outputs[o]
  if !r.inService || r.drive = on then s
  else if r.feedbackLine.isNone then s.updOutput o fun x => { x with drive := on }
  else
    (s.updOutput o fun x =>
      { x with
        drive := on,
        check := some
          { kind := if on then .onCheck else .offCheck, edge := s.nowMs, expiry := s.nowMs + checkTime } }).judgeCheck o

/-- R128: the path fault of a change out of ACTIVE while an output is ON with no check pending. -/
def faultWhileOn : LineClass → Option PathFault
  | .normal => some .noCurrent
  | .openCircuit => some .coilOpen
  | .short => some .coilShort
  | .active => none

/-- R129: the path fault of an output at rest by its new class; none removes it. -/
def faultAtRest : LineClass → Option PathFault
  | .normal => none
  | .active => some .currentAtRest
  | .openCircuit => some .coilOpen
  | .short => some .coilShort

/-- R121: a reported change of an output's feedback line is recorded and judged by the rule of the output's condition:
R126 or R127 while a check is pending, R128 while ON, R129 while OFF. -/
def State.feedbackReport (s : State) (o : Output) (new : LineClass) : State :=
  let r := s.valves.outputs[o]
  let t := s.updOutput o fun x => { x with feedback := some new }
  if !r.inService || r.feedbackLine.isNone then s
  else if r.check.isSome then t.judgeCheck o
  else if r.drive then
    match r.feedback, faultWhileOn new with
    | some .active, some f => t.setPathFault o (some f) none
    | _, _ => t
  else t.setPathFault o (faultAtRest new) none

/-! ## Test releases -/

/-- R132: a test release passes to its second stage: its selector is switched OFF. An unsupervised selector's test ends there. -/
def State.testSecondStage (s : State) (z : Zone) : State :=
  match s.valves.tests[z] with
  | some { start := start, stage := .first onPassed } =>
    if (s.valves.outputs[selectorOf z]).feedbackLine.isNone then
      ((s.switchOutput (selectorOf z) false).setTest z none).notify (.testResult z false false true)
    else
      (s.setTest z (some { start := start, stage := .second onPassed })).switchOutput (selectorOf z) false
  | _ => s

/-- R131: a test release begins. -/
def State.beginTest (s : State) (z : Zone) : State :=
  (s.setTest z (some { start := s.nowMs, stage := .first false })).switchOutput (selectorOf z) true

/-! ## The bank main valve -/

/-- R123: the main valve of a bank is switched ON for a discharge; only then does a minimum-on period begin. -/
def State.openMainValve (s : State) (bank : Bank) : State :=
  if (s.valves.outputs[mainValveOf bank]).drive then s
  else
    (s.updBank bank fun k => { k with minOnEnd := some (s.nowMs + k.cfg.tMin * 1000) }).switchOutput (mainValveOf bank) true

/-- R124: the main valve is switched OFF when the discharging set is empty and the minimum-on end is absent. -/
def State.settleMainValve (s : State) (bank : Bank) : State :=
  let k := s.banks[bankIndex bank]
  if k.discharging.isEmpty && k.minOnEnd.isNone then s.switchOutput (mainValveOf bank) false else s

/-- The bank a configured zone draws from. -/
def State.bankOf (s : State) (z : Zone) : Option Bank := (s.zones[z]).map (·.cfg.bank)

/-- R123: the first-stage tests of other zones of the bank are cut short, in increasing zone number (DESIGN CHOICE,
notes/assumptions/46.md). -/
def State.cutTests (s : State) (z : Zone) (bank : Bank) : State :=
  s.forEach ((List.finRange 8).filter fun y => y != z && s.bankOf y = some bank) fun y t => t.testSecondStage y

/-- R122, R123: a zone's entry into DISCHARGE: its selector is switched ON, the zone joins the discharging set, the main valve
opens, and running tests on the bank are cut short. The notices of the selector, the main valve and the tests stand in that order (DESIGN
CHOICE, notes/assumptions/46.md). -/
def State.startDischargeValves (s : State) (z : Zone) : State :=
  match s.bankOf z with
  | none => s
  | some bank =>
    let t := s.switchOutput (selectorOf z) true
    let t := t.updBank bank fun k => { k with discharging := insertAscending z k.discharging }
    (t.openMainValve bank).cutTests z bank

/-- R122, R124: a zone's end of DISCHARGE: its selector is switched OFF and the zone leaves the discharging set. Where the main valve goes OFF
in the same event, section 7.2 leaves the order open: the selector comes first, and so does its RELEASE_PATH_FAULT notice (DESIGN CHOICE,
notes/assumptions/46.md). -/
def State.endDischargeValves (s : State) (z : Zone) : State :=
  match s.bankOf z with
  | none => s
  | some bank =>
    let t := s.switchOutput (selectorOf z) false
    (t.updBank bank fun k => { k with discharging := k.discharging.filter (· != z) }).settleMainValve bank

end Sys2Proof.Machine
end

