-- ==== Sys2Proof/Machine/ReleaseOps.lean ====
section
/-! DEFINITION. The zone record: changes of state (R96, R117, R118), the egress delay (R110), countdowns (R111 to R113),
discharge (R115), hold sources (R108, R109), the occupancy summary (R105 to R107). -/

namespace Sys2Proof.Machine

/-! ## The egress delay -/

/-- R110: the curve point y_k, with y_0 = 0. -/
def ZoneCfg.knot (c : ZoneCfg) (k : Nat) : Int :=
  match k with
  | 0 => 0
  | i + 1 => ((c.knots.toList.getD i 0 : Nat) : Int)

/-- R110: the curve term for the egress load W. Division is by 32, so Lean's `/` rounds toward minus infinity. -/
def ZoneCfg.curveTerm (c : ZoneCfg) (load : Nat) : Int :=
  if load < 224 then
    let k := load / 32
    let o : Int := ((load % 32 : Nat) : Int)
    c.knot k + ((c.knot (k + 1) - c.knot k) * o + 16) / 32
  else c.knot 7

/-- R110: the egress delay D, clamped to 100 to 1800 ds. -/
def ZoneCfg.egressDelay (c : ZoneCfg) (load : Nat) : Nat :=
  (max 100 (min 1800 ((c.baseDelay : Int) + c.curveTerm load))).toNat

/-! ## Changes of a zone record -/

/-- R117: a ZONE_STATE notice for a record that was in `previous`. -/
def zoneStateBody (z : Zone) (r : ZoneRec) (previous : ZoneState) (cause : ZoneCause) : NoticeBody :=
  .zoneState z r.state previous cause r.kind r.delay r.remaining r.entryHold r.holdLines r.holdAlarms
    r.summary.load r.summary.count r.summary.uncertain

/-- R117: the record of a zone changes and ZONE_STATE is queued. -/
def State.changeRecord (s : State) (z : Zone) (cause : ZoneCause) (f : ZoneRec → ZoneRec) : State :=
  match s.zones[z] with
  | none => s
  | some r => (s.updZone z f).notify (zoneStateBody z (f r) r.state cause)

/-- R96, R118: what follows a change from the record `r`: the withdrawal order for a barring state entered, or the end of barring,
then the panel. -/
def State.followChange (s : State) (z : Zone) (r : ZoneRec) : State :=
  match s.zones[z] with
  | none => s
  | some x =>
    let t :=
      if stateBars x.state && x.state != r.state then s.withdrawalOrder z x.state
      else if zoneBars r && !zoneBars x then s.barringEnded z
      else s
    t.refreshPanel z

/-- A change of a zone record with all that follows it. -/
def State.changeZone (s : State) (z : Zone) (cause : ZoneCause) (f : ZoneRec → ZoneRec) : State :=
  match s.zones[z] with
  | none => s
  | some r => (s.changeRecord z cause f).followChange z r

/-- The hold-source set is empty (R108). -/
def ZoneRec.noHold (r : ZoneRec) : Bool := r.holdLines.isEmpty && r.holdAlarms.isEmpty

/-- R111: the record of a zone whose countdown is started with a release kind. -/
def ZoneRec.countdownStarted (r : ZoneRec) (kind : ReleaseKind) : ZoneRec :=
  let d := r.cfg.egressDelay r.summary.load
  { r with
    kind := some kind, delay := some d, remaining := some d,
    state := if r.noHold then .countdown else .held }

/-- R111. -/
def State.startCountdown (s : State) (z : Zone) (kind : ReleaseKind) (cause : ZoneCause) : State :=
  s.changeZone z cause (·.countdownStarted kind)

/-- R113: the record of a zone whose hold-source set became empty in HELD. -/
def ZoneRec.resumed (r : ZoneRec) : ZoneRec :=
  let d := r.cfg.egressDelay r.summary.load
  { r with delay := some d, remaining := some (max (r.remaining.getD 0) d), state := .countdown }

/-- A record whose release is given up: kind, D and R are discarded (R99, R104). -/
def ZoneRec.withoutRelease (r : ZoneRec) (state : ZoneState) : ZoneRec :=
  { r with state := state, kind := none, delay := none, remaining := none }

/-! ## Discharge -/

/-- R115: the record of a zone that enters DISCHARGE; D and R are discarded (R112). -/
def ZoneRec.discharging (r : ZoneRec) (now : Nat) : ZoneRec :=
  { r with state := .discharge, delay := none, remaining := none, dischargeStart := some now }

/-- R115: a zone enters DISCHARGE: the record, the valves, then the withdrawal order and the panel. ZONE_STATE thus stands before the
notices of the valves (DESIGN CHOICE, notes/assumptions/46.md). -/
def State.enterDischarge (s : State) (z : Zone) : State :=
  match s.zones[z] with
  | none => s
  | some r => ((s.changeRecord z .countdownEnd (·.discharging s.nowMs)).startDischargeValves z).followChange z r

/-- R115: a zone enters DISCHARGED: the release kind is removed, the discharge start is kept. ZONE_STATE stands before the notices of the
valves (DESIGN CHOICE, notes/assumptions/46.md). -/
def State.leaveDischarge (s : State) (z : Zone) : State :=
  match s.zones[z] with
  | none => s
  | some r =>
    ((s.changeRecord z .dischargeEnd fun x => { x with state := .discharged, kind := none }).endDischargeValves
      z).followChange z r

/-! ## The countdown -/

/-- R112: one decisecond tick at one zone. In COUNTDOWN R falls by 1, and at 0 the zone enters DISCHARGE. -/
def State.tickZone (s : State) (z : Zone) : State :=
  match s.zones[z] with
  | none => s
  | some r =>
    if r.state != .countdown then s
    else
      match r.remaining with
      | some (n + 2) => (s.updZone z fun x => { x with remaining := some (n + 1) }).refreshPanel z
      | _ => s.enterDischarge z

/-! ## Hold sources -/

/-- R109: a source has joined; a zone in COUNTDOWN becomes HELD with R frozen. -/
def State.afterJoin (s : State) (z : Zone) : State :=
  if (s.zones[z]).any (·.state == .countdown) then s.changeZone z .hold fun r => { r with state := .held } else s

/-- R109, R113: a source has left; a zone in HELD whose set is now empty returns to COUNTDOWN. -/
def State.afterLeave (s : State) (z : Zone) : State :=
  if (s.zones[z]).any fun r => r.state == .held && r.noHold then s.changeZone z .holdReleased (·.resumed) else s

/-- R108: an abort line joins the zone's set. -/
def State.joinHoldLine (s : State) (z : Zone) (l : Line) : State :=
  (s.updZone z fun r => { r with holdLines := insertAscending l r.holdLines }).afterJoin z

/-- R108: an abort line leaves the zone's set. -/
def State.leaveHoldLine (s : State) (z : Zone) (l : Line) : State :=
  (s.updZone z fun r => { r with holdLines := r.holdLines.filter (· != l) }).afterLeave z

/-- R108: an alarm record joins the zone's set. -/
def State.joinHoldAlarm (s : State) (z : Zone) (number : Nat) : State :=
  (s.updZone z fun r =>
    { r with holdAlarms := if number ∈ r.holdAlarms then r.holdAlarms else r.holdAlarms ++ [number] }).afterJoin z

/-- R108: an alarm record leaves the zone's set. -/
def State.leaveHoldAlarm (s : State) (z : Zone) (number : Nat) : State :=
  (s.updZone z fun r => { r with holdAlarms := r.holdAlarms.filter (· != number) }).afterLeave z

/-! ## The occupancy summary -/

/-- R105 to R107: the zone's summary as it stands is handed over. It replaces the one held; OCCUPIED_HOLD on an unoccupied zone
starts the countdown, and an AUTO countdown on an occupied zone falls back to OCCUPIED_HOLD. -/
def State.handSummary (s : State) (z : Zone) : State :=
  match s.zones[z] with
  | none => s
  | some r =>
    let new := s.summaryOf z
    let t := s.recordSummary z
    if new = r.summary then s
    else if r.state = .occupiedHold && !new.occupied then t.startCountdown z .auto .unoccupied
    else if (r.state = .countdown || r.state = .held) && r.kind = some .auto && new.occupied then
      t.changeZone z .occupied fun x => { x with state := .occupiedHold, delay := none, remaining := none }
    else t

end Sys2Proof.Machine
end

