-- ==== Sys2Proof/Machine/AlarmOps.lean ====
section
/-! DEFINITION. The alarm list: raising and repeating (R157), the full list (R160), numbers (R156), conditions (R159), removal
(R164). -/

namespace Sys2Proof.Machine

/-- R155: the list's capacity. -/
def alarmCapacity : Nat := 32

/-- R156: the number a new record takes: the next alarm number, or the first one counting upward from it, wrapping from 255 to 0,
that no record holds. -/
def Alarms.freeNumber (a : Alarms) : Nat :=
  (((List.range 256).map fun i => (a.nextNumber + i) % 256).find? fun n => a.records.all (·.number != n)).getD a.nextNumber

/-- R162: the occupancy zone of a source that is a person. -/
def State.sourceZone (s : State) : AlarmSource → Option Zone
  | .person p => s.personZone p
  | .line _ => none
  | .pendant _ => none

/-- R162: ALARM_CHANGED for a record as it stands after the change. -/
def State.notifyChanged (s : State) (r : AlarmRec) (change : AlarmChange) : State :=
  s.notify (.alarmChanged r.number r.kind r.source r.zone change r.acknowledged r.condition r.lastSeen
    (s.sourceZone r.source))

/-- R160: the not-recorded condition ends once the list has room. -/
def State.settleNotRecorded (s : State) : State :=
  s.updAlarms fun a => { a with notRecorded := a.notRecorded && !a.hasRoom }

/-- One record of the list is replaced, by its number, in its place. -/
def Alarms.replace (a : Alarms) (r : AlarmRec) : Alarms :=
  { a with records := a.records.map fun x => if x.number = r.number then r else x }

/-- R161: the alarm display of a record's zone is handed to its panel. -/
def State.refreshAlarmPanel (s : State) (zone : Option Zone) : State :=
  match zone with
  | none => s
  | some z => s.refreshPanel z

/-- R161: a record that holds joins the hold-source set of its zone. -/
def State.joinAlarm (s : State) (r : AlarmRec) : State :=
  match r.zone with
  | some z => if r.kind.holds then s.joinHoldAlarm z r.number else s
  | none => s

/-- R161: a record that held leaves the hold-source set of its zone. -/
def State.leaveAlarm (s : State) (r : AlarmRec) : State :=
  match r.zone with
  | some z => if r.kind.holds then s.leaveHoldAlarm z r.number else s
  | none => s

/-- R160, R161: a replacement hands over the joining of the new record, then the leaving of the old one. The new record may have taken the
freed number of the old one; a zone that both hold then has in its set, which names records by their numbers, the new record under that
number, and nothing leaves (notes/assumptions/45.md). -/
def State.handReplacement (s : State) (old new : AlarmRec) : State :=
  let t := s.joinAlarm new
  if new.holds && old.zone = new.zone && old.number = new.number then t else t.leaveAlarm old

/-- R157: the new record of a raise. -/
def State.newAlarm (s : State) (kind : AlarmKind) (source : AlarmSource) (zone : Option Zone) : AlarmRec :=
  { number := s.alarms.freeNumber, kind := kind, source := source, zone := zone, raised := s.nowSec, lastSeen := s.nowSec,
    acknowledged := false, condition := !kind.latched }

/-- R157: a new record joins at the end of the list, takes its number, and ALARM_RAISED is queued. -/
def State.appendAlarm (s : State) (r : AlarmRec) : State :=
  (s.updAlarms fun a => { a with records := a.records ++ [r], nextNumber := (r.number + 1) % 256 }).notify
    (.alarmRaised r.number r.kind r.source r.zone r.raised r.condition (s.sourceZone r.source))

/-- A record leaves the list, and its number is freed. -/
def State.dropAlarm (s : State) (r : AlarmRec) : State :=
  s.updAlarms fun a => { a with records := a.records.filter (·.number != r.number) }

/-- R157: a raise that repeats a record. -/
def AlarmRec.repeated (r : AlarmRec) (now : Nat) : AlarmRec :=
  { r with lastSeen := now, acknowledged := false, condition := !r.kind.latched }

/-- R157, R160: a raise: a repeat of the record of the same kind and source, or a new record where the list has room, replacing
the oldest replaceable record of a full list, or else not recorded. -/
def State.raiseAlarm (s : State) (kind : AlarmKind) (source : AlarmSource) (zone : Option Zone) : State :=
  match s.alarms.records.find? fun r => r.kind = kind && r.source = source with
  | some old =>
    let r := old.repeated s.nowSec
    (s.updAlarms (·.replace r)).notifyChanged r .repeated
  | none =>
    if s.alarms.records.length < alarmCapacity then
      let r := s.newAlarm kind source zone
      ((s.appendAlarm r).joinAlarm r).refreshAlarmPanel r.zone
    else
      match s.alarms.records.find? (·.replaceable) with
      | some old =>
        let s1 := (s.dropAlarm old).notifyChanged old .replaced
        let r := s1.newAlarm kind source zone
        (((s1.appendAlarm r).handReplacement old r).refreshAlarmPanel old.zone).refreshAlarmPanel r.zone
      | none =>
        (s.updAlarms fun a => { a with notRecorded := true }).notify
          (.alarmNotRecorded kind source zone s.nowSec (s.sourceZone source))

/-- R159: the cause of an alarm has ended. A record whose condition is present becomes gone, with a notice; otherwise nothing
changes. -/
def State.conditionGone (s : State) (kind : AlarmKind) (source : AlarmSource) : State :=
  match s.alarms.records.find? fun r => r.kind = kind && r.source = source && r.condition with
  | none => s
  | some old =>
    let r := { old with condition := false }
    ((s.updAlarms (·.replace r)).notifyChanged r .conditionGone).settleNotRecorded

/-- R163: a RAISED record is acknowledged. -/
def State.acknowledgeAlarm (s : State) (old : AlarmRec) : State :=
  let r := { old with acknowledged := true }
  ((s.updAlarms (·.replace r)).notifyChanged r .acknowledged).settleNotRecorded

/-- R164: a record is removed: the notice, the leaving of the hold-source set, the display, the room. -/
def State.clearAlarm (s : State) (r : AlarmRec) : State :=
  ((((s.dropAlarm r).notifyChanged r .cleared).leaveAlarm r).refreshAlarmPanel r.zone).settleNotRecorded

end Sys2Proof.Machine
end

