-- ==== Sys2Proof/Machine/OccupancyOps.lean ====
section
/-! DEFINITION. The occupancy table: making and removing entries, uncertainty (R79 to R85), check-ins and their warnings
(R86 to R88), the lone-occupant timer (R89), and how one event of the Occupancy Unit is concluded (R91). -/

namespace Sys2Proof.Machine

/-- R51: the record at a person index; the table has the places 0 to 1023. -/
def State.personAt (s : State) (p : Person) : Option PersonRec :=
  if p < 1024 then (s.personnel.table.find? (·.1 = p)).map (·.2) else none

/-- R86: a zone's check-in period in seconds. -/
def State.checkinPeriod (s : State) (z : Zone) : Nat := ((s.zones[z]).map (·.cfg.checkinPeriod)).getD 0 * 60

/-- R86: the check-in deadline an entry made now in zone `z` carries: one period on in AFTER mode, none in WORKING mode. -/
def State.newDeadline (s : State) (z : Zone) : Option Nat :=
  if s.schedules.modes[z] = .after then some (s.nowSec + s.checkinPeriod z) else none

/-! ## Check-in warnings and the lone-occupant timer -/

/-- R88: the zone's warning is on while some entry's warning time, 60 s before its deadline, has been reached. -/
def State.warningDue (s : State) (z : Zone) : Bool :=
  (s.occupancy.entriesIn z).any fun e => e.deadline.any (· ≤ s.nowSec + 60)

/-- R88: the zone's check-in warning is recomputed, and handed to the panel. -/
def State.refreshWarning (s : State) (z : Zone) : State :=
  (s.updOccupancy fun o => { o with warning := o.warning.put z (s.warningDue z) }).refreshPanel z

/-- R89: the lone person of a zone in the lone condition. -/
def State.lonePerson (s : State) (z : Zone) : Option Person :=
  match s.zones[z], s.occupancy.entriesIn z with
  | some r, [e] =>
    if s.schedules.modes[z] = .after && r.cfg.twoPerson
        && (e.deleted || !((s.personAt e.person).any (·.lonePermitted))) then some e.person
    else none
  | _, _ => none

/-- The person recorded with a lone-occupant timer. -/
def LoneTimer.person? : LoneTimer → Option Person
  | .notRunning => none
  | .running p _ => some p
  | .expired p => some p

/-- A zone's lone-occupant timer is set. -/
def State.setLone (s : State) (z : Zone) (t : LoneTimer) : State :=
  s.updOccupancy fun o => { o with lone := o.lone.put z t }

/-- R89: a LONE_OCCUPANT condition of the recorded person becomes gone. -/
def State.loneGone (s : State) (p : Option Person) : State :=
  match p with
  | none => s
  | some p => s.conditionGone .loneOccupant (.person p)

/-- R89: the lone condition of a zone is re-tested, and the timer started, restarted or stopped. -/
def State.retestLone (s : State) (z : Zone) : State :=
  let recorded := (s.occupancy.lone[z]).person?
  match s.lonePerson z with
  | some p =>
    if recorded = some p then s
    else
      let grace := ((s.zones[z]).map (·.cfg.loneGrace)).getD 0
      (s.setLone z (.running p (s.nowSec + grace))).loneGone recorded
  | none => (s.setLone z .notRunning).loneGone recorded

/-! ## One event of the Occupancy Unit -/

/-- A zone an event has changed, for its OCCUPANCY_CHANGE notice (R91). -/
structure OccChange where
  zone : Zone
  cause : OccCause
  persons : List Person
  deriving DecidableEq, Repr

/-- An event of the Occupancy Unit while its table changes are made: the state, the zones changed so far in the order they were
first changed, and the persons whose entries were removed. -/
structure OccEvent where
  state : State
  changes : List OccChange
  removed : List Person

/-- An event that has changed nothing yet. -/
def State.occEvent (s : State) : OccEvent := { state := s, changes := [], removed := [] }

/-- A zone counts as changed, with a cause and persons; one notice per zone, with the cause that came first. -/
def mergeChange (changes : List OccChange) (z : Zone) (cause : OccCause) (persons : List Person) : List OccChange :=
  if changes.any (·.zone = z) then
    changes.map fun c =>
      if c.zone = z then { c with persons := c.persons ++ persons.filter (· ∉ c.persons) } else c
  else changes ++ [{ zone := z, cause := cause, persons := persons }]

def OccEvent.touch (ev : OccEvent) (z : Zone) (cause : OccCause) (persons : List Person) : OccEvent :=
  { ev with changes := mergeChange ev.changes z cause persons }

/-- R79: an entry leaves the table. -/
def OccEvent.remove (ev : OccEvent) (e : Entry) (cause : OccCause) : OccEvent :=
  { state := ev.state.updOccupancy fun o => { o with entries := o.entries.filter (·.person != e.person) },
    changes := mergeChange ev.changes e.zone cause [e.person],
    removed := ev.removed ++ [e.person] }

/-- R79: an entry is made, at the end of its zone's entries. -/
def OccEvent.make (ev : OccEvent) (e : Entry) (cause : OccCause) : OccEvent :=
  { ev with
    state := ev.state.updOccupancy fun o => { o with entries := o.entries ++ [e] },
    changes := mergeChange ev.changes e.zone cause [e.person] }

/-- R83: a configured zone is made uncertain; setting a flag already set changes nothing. -/
def OccEvent.uncertain (ev : OccEvent) (z : Zone) (cause : OccCause) : OccEvent :=
  if (ev.state.zones[z]).isNone || ev.state.occupancy.uncertain[z] then ev
  else
    { ev with
      state := ev.state.updOccupancy fun o => { o with uncertain := o.uncertain.put z true },
      changes := mergeChange ev.changes z cause [] }

/-- R37, R38, R39: the outside zone of a passage, where it is a zone, is made uncertain. -/
def OccEvent.uncertainOutside (ev : OccEvent) (outside : Option Zone) (cause : OccCause) : OccEvent :=
  match outside with
  | none => ev
  | some z => ev.uncertain z cause

/-- R91: a zone's OCCUPANCY_CHANGE notice and then its summary. At most 16 persons are named (notes/assumptions/22.md). -/
def State.announce (s : State) (c : OccChange) : State :=
  let m := s.summaryOf c.zone
  (s.notify (.occupancyChange c.zone c.cause (c.persons.take 16) m.count m.uncertain m.load)).handSummary c.zone

/-- An event of the Occupancy Unit is concluded: MISSED_CHECKIN conditions of the removed persons end (R79), warnings and lone
conditions of the changed zones are re-tested (R88, R89), and each changed zone is announced (R91). The removed persons are taken in the
order of their removal, and their conditions end before a LONE_OCCUPANT condition does (DESIGN CHOICE, notes/assumptions/50.md); ended
conditions stand before the OCCUPANCY_CHANGE notices (DESIGN CHOICE, notes/assumptions/20.md, 55.md). -/
def OccEvent.conclude (ev : OccEvent) : State :=
  let s := ev.state.forEach ev.removed fun p t => t.conditionGone .missedCheckin (.person p)
  let s := s.forEach ev.changes fun c t => (t.refreshWarning c.zone).retestLone c.zone
  s.forEach ev.changes fun c t => t.announce c

/-! ## Commits -/

/-- R80: the other person of a pair. -/
def partnerOf (persons : List GrantPerson) (p : Person) : Option Person := (persons.find? (·.person != p)).map (·.person)

/-- R80: the entry of one person of a committed grant. -/
def State.commitEntry (s : State) (d : Door) (cfg : DoorCfg) (persons : List GrantPerson) (g : GrantPerson) : Entry :=
  { person := g.person, zone := cfg.inside, door := some d, time := s.nowSec, weight := cfg.weight,
    partner := partnerOf persons g.person, deadline := s.newDeadline cfg.inside, duress := g.duress,
    deleted := (s.personAt g.person).isNone }

/-- R80: one person of a committed grant: an earlier entry is removed (a zone other than the door's outside zone is made
uncertain), and the new entry is made. -/
def OccEvent.commitPerson (ev : OccEvent) (d : Door) (cfg : DoorCfg) (persons : List GrantPerson) (g : GrantPerson) :
    OccEvent :=
  let ev1 :=
    match ev.state.occupancy.entryOf g.person with
    | none => ev
    | some e =>
      if e.zone = cfg.inside then ev.remove e .entry
      else
        let moved := ev.remove e .moved
        if cfg.outside = some e.zone then moved else moved.uncertain e.zone .moved
  ev1.make (ev1.state.commitEntry d cfg persons g) .entry

/-- R80: the commit of an ENTRY grant, or of a RESPONSE grant with a person; the reserved places are released as the entries are
made. -/
def State.commitPersons (s : State) (d : Door) (cfg : DoorCfg) (g : Grant) : State :=
  let freed := s.updOccupancy fun o =>
    { o with reserved := o.reserved.put cfg.inside (o.reserved[cfg.inside] - g.places) }
  (g.persons.foldl (fun ev p => ev.commitPerson d cfg g.persons p) freed.occEvent).conclude

/-- R81: the commit of an EXIT grant for a person. -/
def State.commitExit (s : State) (d : Door) (cfg : DoorCfg) (p : Person) : State :=
  match s.occupancy.entryOf p with
  | none =>
    ((s.notify (.exitUnlisted d p)).occEvent.uncertainOutside cfg.outside .exit).conclude
  | some e =>
    let t := if e.zone = cfg.inside then s else s.notify (.exitMismatch d p cfg.inside e.zone)
    ((t.occEvent.remove e .exit).uncertainOutside cfg.outside .exit).conclude

/-- R37: a grant used at an opening is committed by its kind. -/
def State.commitGrant (s : State) (d : Door) (cfg : DoorCfg) (g : Grant) : State :=
  match g.kind, g.persons with
  | .entry, _ => s.commitPersons d cfg g
  | .response, _ :: _ => s.commitPersons d cfg g
  | .response, [] => (s.occEvent.uncertain cfg.inside .responseOpening).conclude
  | .command, _ => ((s.occEvent.uncertain cfg.inside .commandOpening).uncertainOutside cfg.outside .commandOpening).conclude
  | .exit, p :: _ => s.commitExit d cfg p.person
  | .exit, [] => (s.occEvent.uncertainOutside cfg.outside .exit).conclude

/-! ## Passages without a grant -/

/-- R82: an unidentified exit from the inside zone, and R38: the outside zone of it is made uncertain. -/
def State.unidentifiedExit (s : State) (cfg : DoorCfg) : State :=
  let ev :=
    match s.occupancy.entriesIn cfg.inside with
    | [e] => if s.occupancy.uncertain[cfg.inside] then s.occEvent else s.occEvent.remove e .egress
    | _ => s.occEvent.uncertain cfg.inside .egress
  (ev.uncertainOutside cfg.outside .egress).conclude

/-- R39: a forced opening makes both its zones uncertain. -/
def State.forcedPassage (s : State) (cfg : DoorCfg) : State :=
  ((s.occEvent.uncertain cfg.inside .forced).uncertainOutside cfg.outside .forced).conclude

/-- R41: ENTRY_AFTER_WITHDRAWAL makes the inside zone uncertain. -/
def State.entryAfterWithdrawal (s : State) (cfg : DoorCfg) : State :=
  (s.occEvent.uncertain cfg.inside .afterWithdrawal).conclude

/-! ## Check-ins, modes, deletions -/

/-- An entry is changed in its place. -/
def Occupancy.updEntry (o : Occupancy) (p : Person) (f : Entry → Entry) : Occupancy :=
  { o with entries := o.entries.map fun e => if e.person = p then f e else e }

/-- R87: a check-in of a person: a deadline moves to one period from now; without one nothing changes. The ALARM_CHANGED (CONDITION_GONE) of an
ended MISSED_CHECKIN stands before the OCCUPANCY_CHANGE (CHECK_IN), which R87, R91 and R159 do not order (DESIGN CHOICE,
notes/assumptions/55.md). -/
def State.checkIn (s : State) (p : Person) : State :=
  match s.occupancy.entryOf p with
  | none => s
  | some e =>
    if e.deadline.isNone then s
    else
      let t := s.updOccupancy (·.updEntry p fun x => { x with deadline := some (s.nowSec + s.checkinPeriod e.zone) })
      let t := (t.refreshWarning e.zone).conditionGone .missedCheckin (.person p)
      t.announce { zone := e.zone, cause := .checkIn, persons := [p] }

/-- R86, R65: a zone's mode changes: deadlines are added or removed with the warning and the MISSED_CHECKIN conditions, and the lone
condition is re-tested. At a change to WORKING the persons' MISSED_CHECKIN conditions end in the order of their entries, and all of them
before a LONE_OCCUPANT condition ends, which R86 and R89 do not order (DESIGN CHOICE, notes/assumptions/50.md). -/
def State.changeMode (s : State) (z : Zone) (mode : Mode) : State :=
  let s1 := { s with schedules := { s.schedules with modes := s.schedules.modes.put z mode } }
  let s2 := s1.updOccupancy fun o =>
    { o with entries := o.entries.map fun e => if e.zone = z then { e with deadline := s1.newDeadline z } else e }
  let s3 := s2.refreshWarning z
  let s4 :=
    match mode with
    | .after => s3
    | .working =>
      s3.forEach (s3.occupancy.entriesIn z) fun e t => t.conditionGone .missedCheckin (.person e.person)
  s4.retestLone z

/-- R54: a deletion marks the person's entry deleted. An ended LONE_OCCUPANT condition stands before the OCCUPANCY_CHANGE (DESIGN CHOICE,
notes/assumptions/55.md). -/
def State.markDeleted (s : State) (p : Person) : State :=
  match s.occupancy.entryOf p with
  | none => s
  | some e =>
    let t := s.updOccupancy (·.updEntry p fun x => { x with deleted := true })
    (t.retestLone e.zone).announce { zone := e.zone, cause := .personDeleted, persons := [p] }

/-- R85: a person's entry is removed by FORCE_EXIT. -/
def State.forceOut (s : State) (e : Entry) : State := (s.occEvent.remove e .forceExit).conclude

/-- R84: the entry a sweep makes for a listed person; the duress mark is the one of the person's removed entry. -/
def State.sweepEntry (s : State) (before : Occupancy) (z : Zone) (p : Person) : Entry :=
  { person := p, zone := z, door := none, time := s.nowSec, weight := ((s.zones[z]).map (·.cfg.sweepWeight)).getD 0,
    partner := none, deadline := s.newDeadline z, duress := (before.entryOf p).any (·.duress),
    deleted := (s.personAt p).isNone }

/-- R84: an accepted sweep of a zone. -/
def State.sweep (s : State) (z : Zone) (persons : List Person) : State :=
  let before := s.occupancy
  let ev := s.occEvent.touch z .sweep persons
  let ev := (before.entriesIn z).foldl (fun ev e => ev.remove e .sweep) ev
  let ev := (persons.filterMap fun p => ev.state.occupancy.entryOf p).foldl (fun ev e => ev.remove e .moved) ev
  let ev := persons.foldl (fun ev p => ev.make (ev.state.sweepEntry before z p) .sweep) ev
  let ev := { ev with state := ev.state.updOccupancy fun o => { o with uncertain := o.uncertain.put z false } }
  ev.conclude

end Sys2Proof.Machine
end

