-- ==== Sys2Proof/Machine/ScheduleOps.lean ====
section
/-! DEFINITION. The calendar and the time-of-day (R195), schedules and zone modes (R59, R63 to R65), and the Personnel Store's
lookups (R55, R58). -/

namespace Sys2Proof.Machine

/-! ## The calendar -/

/-- R195: leap years. -/
def isLeap (year : Nat) : Bool := year % 4 = 0 && (year % 100 != 0 || year % 400 = 0)

/-- R195: the length of a month. -/
def monthLength (year month : Nat) : Nat :=
  match month with
  | 1 | 3 | 5 | 7 | 8 | 10 | 12 => 31
  | 4 | 6 | 9 | 11 => 30
  | 2 => if isLeap year then 29 else 28
  | _ => 0

/-- R195: the length of the month of a date. -/
def Date.monthLength (d : Date) : Nat := Machine.monthLength (2000 + d.year) d.month

/-- R195: a calendar date from 1 January 2000 to 31 December 2255. -/
def Date.valid (d : Date) : Bool :=
  d.year < 256 && 1 ≤ d.month && d.month ≤ 12 && 1 ≤ d.day && d.day ≤ d.monthLength

/-- R196: a calendar date with an hour, minute and second in range. -/
def DateTime.valid (t : DateTime) : Bool := t.date.valid && t.hour ≤ 23 && t.minute ≤ 59 && t.second ≤ 59

/-- The order of dates. -/
def Date.number (d : Date) : Nat := (d.year * 13 + d.month) * 32 + d.day

/-- A date is no later than another. -/
def Date.le (a b : Date) : Bool := a.number ≤ b.number

/-- R195: the next date; 31 December 2255 is followed by 1 January 2000. -/
def Date.next (d : Date) : Date :=
  if d.day < d.monthLength then { d with day := d.day + 1 }
  else if d.month < 12 then { d with month := d.month + 1, day := 1 }
  else { year := (d.year + 1) % 256, month := 1, day := 1 }

/-- The leap days of the years from 1 up to but not including `year`. -/
def leapDaysBefore (year : Nat) : Nat := (year - 1) / 4 - (year - 1) / 100 + (year - 1) / 400

/-- The days from 1 January 2000 to a date. -/
def Date.dayNumber (d : Date) : Nat :=
  365 * d.year + (leapDaysBefore (2000 + d.year) - leapDaysBefore 2000)
    + ((List.range (d.month - 1)).map fun m => Machine.monthLength (2000 + d.year) (m + 1)).sum + (d.day - 1)

/-- R195: the day of the week, Monday 0 to Sunday 6; 1 January 2000 is a Saturday. -/
def Date.weekday (d : Date) : Fin 7 := ⟨(d.dayNumber + 5) % 7, Nat.mod_lt _ (by decide)⟩

/-! ## Schedules -/

/-- R59: the day-kind of a date: holiday 7 when it is on the holiday list, else its day of the week. -/
def ScheduleSet.dayKind (set : ScheduleSet) (d : Date) : Fin 8 :=
  if d ∈ set.holidays then 7 else d.weekday.castSucc

/-- R59: the present minute. -/
def DateTime.minuteOfDay (t : DateTime) : Nat := t.hour * 60 + t.minute

/-- R59: schedule `n` of the active set is active now. -/
def State.scheduleActive (s : State) (n : Fin 16) : Bool :=
  match s.time.tod with
  | none => false
  | some t =>
    let set := s.schedules.active
    ((set.schedules[n])[set.dayKind t.date]).any fun i => i.start ≤ t.minuteOfDay && t.minuteOfDay < i.stop

/-- R64: the mode an evaluation gives a zone. -/
def State.evaluatedMode (s : State) (z : Zone) : Mode :=
  match (s.zones[z]).bind (·.cfg.schedule) with
  | some n => if s.scheduleActive n then .working else .after
  | none => .after

/-- R65: a zone's mode is evaluated; the same mode hands nothing on. -/
def State.evaluateMode (s : State) (z : Zone) : State :=
  if s.schedules.modes[z] = s.evaluatedMode z then s else s.changeMode z (s.evaluatedMode z)

/-- R65: the modes of all configured zones are evaluated. The manual gives the zones no order; they are taken in increasing number (DESIGN
CHOICE, notes/assumptions/42.md). -/
def State.evaluateModes (s : State) : State := s.forEach s.configuredZones fun z t => t.evaluateMode z

/-- R63: the swap at a minute boundary while the ready mark is set. -/
def State.swapSchedules (s : State) : State :=
  if s.schedules.ready then
    { s with schedules := { s.schedules with active := s.schedules.staged, ready := false } }.notify .scheduleSwapped
  else s

/-- R63, R65: a minute boundary: the swap where one is due, then one evaluation of every mode. -/
def State.minuteBoundary (s : State) : State := s.swapSchedules.evaluateModes

/-! ## The time-of-day -/

/-- R195: the time one second on. -/
def DateTime.next (t : DateTime) : DateTime :=
  if t.second + 1 < 60 then { t with second := t.second + 1 }
  else if t.minute + 1 < 60 then { t with second := 0, minute := t.minute + 1 }
  else if t.hour + 1 < 24 then { t with second := 0, minute := 0, hour := t.hour + 1 }
  else { date := t.date.next, hour := 0, minute := 0, second := 0 }

/-- R195: the second of the time-of-day rises by 1; a second that reaches 60 is a minute boundary. -/
def State.advanceSecond (s : State) (t : DateTime) : State :=
  let s1 := { s with time := { s.time with tod := some t.next, todMs := s.time.todMs - 1000 } }
  if t.second + 1 < 60 then s1 else s1.minuteBoundary

/-! ## Lookups of the Personnel Store -/

/-- R55: the index whose record carries a credential number. -/
def State.byCredential (s : State) (credential : Nat) : Option (Person × PersonRec) :=
  s.personnel.table.find? (·.2.credential = credential)

/-- R55: the index whose record carries a pendant id. -/
def State.byPendant (s : State) (pendant : Nat) : Option Person :=
  (s.personnel.table.find? (·.2.pendant = some pendant)).map (·.1)

/-- R55: a record is within its validity on the current date; while the date is unset, only without bounds. -/
def State.withinValidity (s : State) (r : PersonRec) : Bool :=
  match s.time.tod with
  | none => r.validFrom.isNone && r.validTo.isNone
  | some t => r.validFrom.all (·.le t.date) && r.validTo.all (t.date.le ·)

/-- R58: one permission permits now. -/
def State.permits (s : State) : Permission → Bool
  | .never => false
  | .always => true
  | .schedule n => s.scheduleActive n

/-- R58: a person's groups permit a zone now. -/
def State.groupsPermit (s : State) (r : PersonRec) (z : Zone) : Bool :=
  r.groups.any fun g => if h : g < 16 then s.permits (s.personnel.groups[g])[z] else false

/-! ## Writing the personnel table -/

/-- The table without a place's record. -/
def eraseIndex (table : List (Person × PersonRec)) (p : Person) : List (Person × PersonRec) := table.filter (·.1 != p)

/-- R51: a record written to its place, replacing what was there; the table stays ordered by index. -/
def writeIndex (table : List (Person × PersonRec)) (p : Person) (r : PersonRec) : List (Person × PersonRec) :=
  table.filter (·.1 < p) ++ (p, r) :: table.filter (p < ·.1)

end Sys2Proof.Machine
end

