-- ==== Sys2Proof/Machine/AccessOps.lean ====
section
/-! DEFINITION. Access decisions: the PIN test (R70), anti-passback and places (R71), entry conditions (R48), the installation of a
grant (R34), and the decisions at the readers (R69, R72 to R75). -/

namespace Sys2Proof.Machine

/-! ## PINs -/

/-- R27: the PIN of a reader event: absent, the keyed digits, or malformed. -/
inductive KeyedPin where
  | absent
  | digits (l : List Nat)
  | malformed
  deriving DecidableEq, Repr

/-- R27: the PIN read from its digit positions; 0xF ends it, 0xA to 0xE before the end make it malformed. -/
def readPin (positions : List Nat) : KeyedPin :=
  match positions.takeWhile (· != 0xF) with
  | [] => .absent
  | l => if l.all (· < 10) then .digits l else .malformed

/-- R70: the duress variant of a PIN: its last digit raised by one, modulo 10. -/
def duressVariant : List Nat → List Nat
  | [] => []
  | [d] => [(d + 1) % 10]
  | d :: e :: rest => d :: duressVariant (e :: rest)

/-- R70: a PIN is required at a door whose zone is in a mode. -/
def pinRequired : PinRule → Mode → Bool
  | .never, _ => false
  | .always, _ => true
  | .afterHours, .after => true
  | .afterHours, .working => false

/-- R70: the PIN test: none where it fails, else the duress mark of the presentation. -/
def pinTest (required : Bool) (stored : Option (List Nat)) (keyed : KeyedPin) : Option Bool :=
  match stored, keyed with
  | some pin, .digits l =>
    if l = duressVariant pin then some true
    else if l = pin || !required then some false
    else none
  | _, _ => if required then none else some false

/-! ## The tests of the entry steps -/

/-- The state of a door, OFFLINE for one that is not configured. -/
def State.doorState (s : State) (d : Door) : DoorState := ((s.doors[d]).map fun (r : DoorRec) => r.state).getD .offline

/-- R35: the partner door, if any, is SECURE. -/
def State.partnerSecure (s : State) (cfg : DoorCfg) : Bool := cfg.partner.all fun p => s.doorState p = .secure

/-- Step 1 of R69: the door is OFFLINE or FAULT. -/
def DoorState.faulty : DoorState → Bool
  | .offline | .fault => true
  | .secure | .unlocked | .opened | .heldOpen | .forced => false

/-- R71: a person passes anti-passback with no entry, or with one in the door's outside zone. -/
def State.noPassback (s : State) (cfg : DoorCfg) (p : Person) : Bool :=
  match s.personZone p with
  | none => true
  | some z => cfg.outside = some z

/-- R48: a door's entry condition, for the persons of a presentation; DOOR_PULSE gives none, and RESPONDER is then false. -/
def State.entryCondition (s : State) (cfg : DoorCfg) (persons : List Person) : Bool :=
  match cfg.condition with
  | .any => true
  | .never => false
  | .work => s.schedules.modes[cfg.inside] = .working
  | .after => s.schedules.modes[cfg.inside] = .after
  | .empty => (s.occupancy.entriesIn cfg.inside).isEmpty && !s.occupancy.uncertain[cfg.inside]
  | .peopled => !(s.occupancy.entriesIn cfg.inside).isEmpty
  | .quiet => (s.alarms.inZone cfg.inside).isEmpty
  | .agent =>
    match s.bankOf cfg.inside with
    | some bank => (s.banks[bankIndex bank]).state = .available
    | none => false
  | .responder => !persons.isEmpty && persons.all fun p => (s.personAt p).any (·.responder)

/-! ## Installation (R34) -/

/-- R34: the inside zone permits a kind of grant. -/
def State.zonePermits (s : State) (z : Zone) : GrantKind → Bool
  | .entry | .command => !s.bars z
  | .response => !((s.zones[z]).any fun r => stateBarsResponse r.state)
  | .exit => true

/-- R34: why a grant is not installed, the door's state first, then the partner, then the zone; none when it is. -/
def State.installRefusal (s : State) (r : DoorRec) (kind : GrantKind) : Option DenialReason :=
  if r.state.faulty then some .doorFault
  else if r.state != .secure || r.grant.isSome then some .doorBusy
  else if !s.partnerSecure r.cfg then some .interlock
  else if !s.zonePermits r.cfg.inside kind then some .zoneBarred
  else none

/-- R34, R45: an ENTRY, COMMAND or RESPONSE grant removes the pairing record; a first person it does not carry is told. -/
def State.supersedePairing (s : State) (d : Door) (r : DoorRec) (g : Grant) : State :=
  match r.pairing with
  | none => s
  | some p =>
    if g.kind = .exit then s
    else
      let t := s.updDoor d fun x => { x with pairing := none }
      if g.persons.any (·.person = p.first.person) then t
      else t.notify (.accessWithdrawn d .superseded none (some p.first))

/-- R34, R68: a grant is installed at a door: the places are reserved, the record is made, DOOR_STATE and then ACCESS_GRANTED are
queued, and the drive is handed over. -/
def State.installGrant (s : State) (d : Door) (r : DoorRec) (kind : GrantKind) (persons : List GrantPerson) (places : Nat) :
    State :=
  let g : Grant :=
    { kind := kind, persons := persons, expiry := s.nowMs + r.cfg.unlockWindow * 1000, places := places }
  let t := s.reservePlaces r.cfg.inside places
  let t := t.supersedePairing d r g
  let t := t.updDoor d fun x => { x with state := .unlocked, grant := some g, withdrawnEnd := none }
  ((t.notifyDoor d r.state .grant (some g)).refreshDrive d).notify (.accessGranted d g)

/-- R34: a composed grant is installed, or the reason it is not. -/
def State.offerGrant (s : State) (d : Door) (r : DoorRec) (kind : GrantKind) (persons : List GrantPerson) (places : Nat) :
    State × Option DenialReason :=
  match s.installRefusal r kind with
  | some reason => (s, some reason)
  | none => (s.installGrant d r kind persons places, none)

/-! ## Decisions at the readers -/

/-- What a reader event hands over (R29). -/
structure Presentation where
  reader : Reader
  credential : Nat
  pin : KeyedPin
  deriving DecidableEq, Repr

/-- What a decision comes to. -/
inductive Decision where
  | grant (kind : GrantKind) (persons : List GrantPerson) (places : Nat)
  | pair (first : GrantPerson)
  | checkIn (p : Person)
  | deny (reason : DenialReason)
  deriving DecidableEq, Repr

/-- R72: the two-person step applies in a zone. -/
def State.twoPersonApplies (s : State) (z : Zone) : Bool :=
  s.schedules.modes[z] = .after && (s.zones[z]).any (·.cfg.twoPerson)

/-- R72: the first person of the pairing record that a presentation by `p` completes. -/
def State.completes (s : State) (r : DoorRec) (p : Person) : Option GrantPerson :=
  if s.twoPersonApplies r.cfg.inside then (r.pairing.map (·.first)).filter (·.person != p) else none

/-- R69, steps 5 to 12, for a person whose PIN test has passed. -/
def State.decideEntry (s : State) (r : DoorRec) (me : GrantPerson) (record : PersonRec) : Decision :=
  let z := r.cfg.inside
  let first := s.completes r me.person
  let persons := first.toList ++ [me]
  if s.bars z then .deny .zoneBarred
  else if !s.groupsPermit record z then .deny .notPermitted
  else if !s.entryCondition r.cfg (persons.map (·.person)) then .deny .condition
  else if !persons.all (fun g => s.noPassback r.cfg g.person) then .deny .passback
  else if !s.placesFree z persons.length then .deny .zoneFull
  else if !s.partnerSecure r.cfg then .deny .interlock
  else if s.twoPersonApplies z && first.isNone then
    if r.pairing.isSome then .deny .samePerson
    else if r.state = .secure then .pair me
    else .deny .doorBusy
  else .grant .entry persons persons.length

/-- R69, steps 1 to 4 and the rest: the decision of an ENTRY_READ, with the person where known and the duress mark. -/
def State.decideEntryRead (s : State) (r : DoorRec) (x : Presentation) : Decision × Option Person × Bool :=
  if r.state.faulty then (.deny .doorFault, (s.byCredential x.credential).map (·.1), false)
  else
    match s.byCredential x.credential with
    | none => (.deny .unknownCredential, none, false)
    | some (p, record) =>
      if !s.withinValidity record then (.deny .expired, some p, false)
      else
        match pinTest (pinRequired r.cfg.pinRule s.schedules.modes[r.cfg.inside]) record.pin x.pin with
        | none => (.deny .badPin, some p, false)
        | some duress => (s.decideEntry r { person := p, duress := duress } record, some p, duress)

/-- R74: the decision of an EXIT_READ. -/
def State.decideExitRead (s : State) (r : DoorRec) (x : Presentation) : Decision × Option Person × Bool :=
  if r.state.faulty then (.deny .doorFault, (s.byCredential x.credential).map (·.1), false)
  else
    match s.byCredential x.credential with
    | none => (.deny .unknownCredential, none, false)
    | some (p, record) =>
      if !s.withinValidity record then (.deny .expired, some p, false)
      else if !s.partnerSecure r.cfg then (.deny .interlock, some p, false)
      else (.grant .exit [{ person := p, duress := false }] 0, some p, false)

/-- R75: the decision of a CHECKIN. -/
def State.decideCheckin (s : State) (r : DoorRec) (x : Presentation) : Decision × Option Person × Bool :=
  if r.state.faulty then (.deny .doorFault, (s.byCredential x.credential).map (·.1), false)
  else
    match s.byCredential x.credential with
    | none => (.deny .unknownCredential, none, false)
    | some (p, _) =>
      if (s.occupancy.entryOf p).any fun e => e.zone = r.cfg.inside && e.deadline.isSome then (.checkIn p, some p, false)
      else (.deny .checkinRefused, some p, false)

/-- R68: the decision of a presentation, by its reader. -/
def State.decide (s : State) (r : DoorRec) (x : Presentation) : Decision × Option Person × Bool :=
  match x.reader with
  | .entryRead => s.decideEntryRead r x
  | .exitRead => s.decideExitRead r x
  | .checkin => s.decideCheckin r x

/-- R68, R46: a denied presentation: ACCESS_DENIED and the door's denial display. -/
def State.denyPresentation (s : State) (d : Door) (x : Presentation) (person : Option Person) (reason : DenialReason)
    (duress : Bool) : State :=
  (s.notify (.accessDenied d x.reader x.credential person reason duress)).startDenial d

/-- R72: a pairing record is created at a door. -/
def State.createPairing (s : State) (d : Door) (r : DoorRec) (first : GrantPerson) : State :=
  let expiry := s.nowMs + r.cfg.pairingWindow * 1000
  ((s.updDoor d fun x => { x with pairing := some { first := first, expiry := expiry } }).refreshDrive d).notify
    (.pairingStarted d first expiry)

/-- R68, R73: a decision takes effect, with exactly one outcome notice (an accepted check-in gives the one of R91). -/
def State.applyDecision (s : State) (d : Door) (r : DoorRec) (x : Presentation) (person : Option Person) (duress : Bool) :
    Decision → State
  | .deny reason => s.denyPresentation d x person reason duress
  | .checkIn p => s.checkIn p
  | .pair first => s.createPairing d r first
  | .grant kind persons places =>
    match s.offerGrant d r kind persons places with
    | (t, none) => t
    | (t, some reason) => t.denyPresentation d x person reason duress

/-- R70: a presentation marked duress hands over a DURESS_PIN raise for the person, located in the door's inside zone. It is raised
after the decision has taken effect, so that the decision is the one the plain PIN would have brought
(notes/assumptions/19.md). -/
def State.raiseDuress (s : State) (zone : Zone) (person : Option Person) (duress : Bool) : State :=
  match person, duress with
  | some p, true => s.raiseAlarm .duressPin (.person p) (some zone)
  | _, _ => s

/-- R68: a presentation at a door's reader is decided. -/
def State.present (s : State) (d : Door) (x : Presentation) : State :=
  match s.doors[d] with
  | none => s
  | some r =>
    let (decision, person, duress) := s.decide r x
    (s.applyDecision d r x person duress decision).raiseDuress r.cfg.inside person duress

end Sys2Proof.Machine
end

