-- ==== Sys2Proof/Machine/Operands.lean ====
section
/-! DEFINITION. The arguments of the requests (R184), read from a request's payload by the encodings of R190. A payload that cannot be
read gives none, which the request answers BAD_FORMAT. -/

namespace Sys2Proof.Machine

/-- A payload is read from its front. -/
abbrev Payload := List Byte

/-- The next number of `size` bytes, high byte first. -/
def Payload.number (l : Payload) (size : Nat) : Option (Nat × Payload) :=
  if l.length < size then none else some (numberOf (l.take size), l.drop size)

/-- The next mark or presence byte: 0 or 1. Another byte does not fit the arguments (R184), which for a mark is the model's reading of its
range (DESIGN CHOICE, notes/assumptions/25.md and 60.md). -/
def Payload.mark (l : Payload) : Option (Bool × Payload) := do
  let (n, l) ← l.number 1
  match n with
  | 0 => some (false, l)
  | 1 => some (true, l)
  | _ => none

/-- R190: a field that may be absent, behind its presence byte. -/
def Payload.opt {α : Type} (l : Payload) (f : Payload → Option (α × Payload)) : Option (Option α × Payload) := do
  let (present, l) ← l.mark
  if present then
    let (x, l) ← f l
    return (some x, l)
  else return (none, l)

/-- A number of items one after the other. -/
def Payload.times {α : Type} (l : Payload) (f : Payload → Option (α × Payload)) : Nat → Option (List α × Payload)
  | 0 => some ([], l)
  | n + 1 => do
    let (x, l) ← f l
    let (rest, l) ← Payload.times l f n
    return (x :: rest, l)

/-- R190: a list behind its count. -/
def Payload.list {α : Type} (l : Payload) (f : Payload → Option (α × Payload)) : Option (List α × Payload) := do
  let (n, l) ← l.number 1
  l.times f n

/-- The whole payload has been read. -/
def Payload.done {α : Type} : α × Payload → Option α
  | (x, []) => some x
  | (_, _ :: _) => none

/-- R190: a date in three bytes. -/
def Payload.date (l : Payload) : Option (Date × Payload) := do
  let (year, l) ← l.number 1
  let (month, l) ← l.number 1
  let (day, l) ← l.number 1
  return ({ year := year, month := month, day := day }, l)

/-- R190: a PIN, its digit count and its digits. -/
def Payload.pin (l : Payload) : Option (List Nat × Payload) := l.list (·.number 1)

/-- R190: the numbers below 16 of a 2-byte mask. -/
def maskMembers (mask : Nat) : List Nat := (List.range 16).filter mask.testBit

/-! ## The arguments of each request -/

/-- A payload of no arguments. -/
def readNothing (l : Payload) : Option Unit := if l.isEmpty then some () else none

/-- A payload of one number of one byte: a zone, a door, a line, an alarm number. -/
def readNumber (l : Payload) : Option Nat := l.number 1 >>= Payload.done

/-- A payload of one person index. -/
def readIndex (l : Payload) : Option Nat := l.number 2 >>= Payload.done

/-- WRITE_PERSON: an index and a record in the fields of R51. -/
def readPersonRecord (l : Payload) : Option (Nat × PersonRec) := do
  let (index, l) ← l.number 2
  let (credential, l) ← l.number 4
  let (pin, l) ← l.opt (·.pin)
  let (pendant, l) ← l.opt (·.number 3)
  let (groups, l) ← l.number 2
  let (validFrom, l) ← l.opt (·.date)
  let (validTo, l) ← l.opt (·.date)
  let (lone, l) ← l.mark
  let (responder, l) ← l.mark
  Payload.done
    ((index,
      { credential := credential, pin := pin, pendant := pendant, groups := maskMembers groups, validFrom := validFrom,
        validTo := validTo, lonePermitted := lone, responder := responder }), l)

/-- R52: the first case: what makes a record's fields no record of R51. -/
def personRecordValid (r : PersonRec) : Bool :=
  (r.pin.all fun p => 4 ≤ p.length && p.length ≤ 6 && p.all (· ≤ 9))
    && r.validFrom.all (·.valid) && r.validTo.all (·.valid)
    && (match r.validFrom, r.validTo with
        | some a, some b => a.le b
        | _, _ => true)

/-- R190: a permission, 0 to 15 for a schedule, 16 NEVER, 17 ALWAYS. -/
def permissionOf (n : Nat) : Option Permission :=
  if h : n < 16 then some (.schedule ⟨n, h⟩) else if n = 16 then some .never else if n = 17 then some .always else none

/-- The next permission. -/
def Payload.permission (l : Payload) : Option (Permission × Payload) := do
  let (n, l) ← l.number 1
  let p ← permissionOf n
  return (p, l)

/-- A list of exactly `n` items as a table. -/
def tableOf {α : Type} (n : Nat) (l : List α) : Option (Tab α n) :=
  if h : l.length = n then some ⟨l.toArray, by simp [h]⟩ else none

/-- WRITE_GROUP: a group and eight permissions (R57). -/
def readGroup (l : Payload) : Option (Fin 16 × Tab Permission 8) := do
  let (group, l) ← l.number 1
  let (permissions, l) ← l.times (·.permission) 8
  let permissions ← tableOf 8 permissions
  if h : group < 16 then Payload.done ((⟨group, h⟩, permissions), l) else none

/-- The next interval. -/
def Payload.interval (l : Payload) : Option (Interval × Payload) := do
  let (start, l) ← l.number 2
  let (stop, l) ← l.number 2
  return ({ start := start, stop := stop }, l)

/-- R59: an interval may stand. -/
def Interval.valid (i : Interval) : Bool := i.start < i.stop && i.stop ≤ 1440

/-- R59: the order of intervals, by start and then by end. -/
def Interval.le (a b : Interval) : Bool := a.start < b.start || (a.start = b.start && a.stop ≤ b.stop)

/-- An item put into an ordered list, behind the items no greater. -/
def insertBy {α : Type} (le : α → α → Bool) (x : α) : List α → List α
  | [] => [x]
  | y :: ys => if le y x then y :: insertBy le x ys else x :: y :: ys

/-- A list put in order. -/
def sortBy {α : Type} (le : α → α → Bool) (l : List α) : List α := l.foldl (fun sorted x => insertBy le x sorted) []

/-- STAGE_SCHEDULE: a schedule number and eight interval lists, each put in the order of R59 (R61). -/
def readSchedule (l : Payload) : Option (Fin 16 × Tab (List Interval) 8) := do
  let (n, l) ← l.number 1
  let (lists, l) ← l.times (·.list (·.interval)) 8
  let lists ← if lists.all fun x => x.length ≤ 8 && x.all (·.valid) then tableOf 8 (lists.map (sortBy Interval.le)) else none
  if h : n < 16 then Payload.done ((⟨n, h⟩, lists), l) else none

/-- STAGE_HOLIDAYS: a list of calendar dates, ascending and without repeats (R61). -/
def readHolidays (l : Payload) : Option (List Date) := do
  let dates ← l.list (·.date) >>= Payload.done
  if dates.all (·.valid) then some (sortBy Date.le dates.dedup) else none

/-- SET_TIME: a date and time of day in range (R196). -/
def readDateTime (l : Payload) : Option DateTime := do
  let (date, l) ← l.date
  let (hour, l) ← l.number 1
  let (minute, l) ← l.number 1
  let (second, l) ← l.number 1
  let t ← Payload.done ({ date := date, hour := hour, minute := minute, second := second : DateTime }, l)
  if t.valid then some t else none

/-- RELEASE_REQUEST: a zone and a kind (R97). -/
def readRelease (l : Payload) : Option (Nat × ReleaseKind) := do
  let (zone, l) ← l.number 1
  let (kind, l) ← l.number 1
  match kind with
  | 0 => Payload.done ((zone, .auto), l)
  | 1 => Payload.done ((zone, .manual), l)
  | _ => none

/-- SWEEP_CONFIRM: a zone and a list of person indexes (R84). -/
def readSweep (l : Payload) : Option (Nat × List Nat) := do
  let (zone, l) ← l.number 1
  let (persons, l) ← l.list (·.number 2)
  Payload.done ((zone, persons), l)

/-- RESPONSE_ENTRY: a door and an optional person index (R166). -/
def readResponse (l : Payload) : Option (Nat × Option Nat) := do
  let (door, l) ← l.number 1
  let (person, l) ← l.opt (·.number 2)
  Payload.done ((door, person), l)

/-- R174: a character outside 0x20 to 0x7E is replaced by 0x20. -/
def panelCharacter (b : Byte) : Byte := if 0x20 ≤ b.toNat && b.toNat ≤ 0x7E then b else 0x20

/-- PANEL_TEXT: a panel, and two characters or the clear indication (R174, R184). -/
def readPanelText (l : Payload) : Option (Nat × ConsolePair) :=
  match l with
  | [panel] => some (panel.toNat, .clearText)
  | [panel, a, b] => some (panel.toNat, .text (panelCharacter a) (panelCharacter b))
  | _ => none

/-! ## Numbers that name configured items -/

/-- A zone number that names a configured zone. -/
def State.zoneNamed (s : State) (n : Nat) : Option (Zone × ZoneRec) :=
  if h : n < 8 then (s.zones[n]).map ((⟨n, h⟩ : Zone), ·) else none

/-- A door number that names a configured door. -/
def State.doorNamed (s : State) (n : Nat) : Option (Door × DoorRec) :=
  if h : n < 16 then (s.doors[n]).map ((⟨n, h⟩ : Door), ·) else none

/-- A line number that names a configured line. -/
def State.lineNamed (s : State) (n : Nat) : Option (Line × LineRec) :=
  if h : n < 64 then (s.lines[n]).map ((⟨n, h⟩ : Line), ·) else none

/-- A panel number that names a panel in service (R169). -/
def State.panelNamed (s : State) (n : Nat) : Option (Zone × PanelRec) :=
  if h : n < 8 then (s.link.panels[n]).map ((⟨n, h⟩ : Zone), ·) else none

end Sys2Proof.Machine
end

