-- ==== Sys2Proof/Machine/Encode.lean ====
section
/-! DEFINITION. The encoding of fields (R190): named values by their position, records, and the notice records of R187.
Where R190 gives a field no encoding, notes/assumptions/25.md, 26.md, 47.md to 49.md and 56.md name the one taken. -/

namespace Sys2Proof.Machine

/-! ## Named values by position -/

/-- R190: line classes. -/
def classCode : LineClass → Byte
  | .short => 0
  | .normal => 1
  | .active => 2
  | .openCircuit => 3

/-- R190: line roles. -/
def roleCode : LineRole → Byte
  | .doorContact _ => 0
  | .egressHandle _ => 1
  | .abortStation _ => 2
  | .alarmButton _ => 3
  | .valveFeedback _ => 4
  | .unused => 5

/-- R6: a role's target number. -/
def roleTarget : LineRole → Option Nat
  | .doorContact d => some d.val
  | .egressHandle d => some d.val
  | .abortStation z => some z.val
  | .alarmButton z => some z.val
  | .valveFeedback o => some o.val
  | .unused => none

/-- R12, R13: a role and its target; no target for UNUSED. -/
def roleField (r : LineRole) : List Byte := roleCode r :: optField num1 (roleTarget r)

/-- R25. -/
def lockFeedbackCode : LockFeedback → Byte
  | .thrown => 0
  | .retracted => 1

/-- R19. -/
def failureCode : PollFailure → Byte
  | .missing => 0
  | .truncated => 1
  | .late => 2
  | .bad => 3

/-- R26: ONLINE, OFFLINE. -/
def presenceCode (online : Bool) : Byte := if online then 0 else 1

/-- Section 2.5. -/
def lockCode : Lock → Byte
  | .locked => 0
  | .unlocked => 1

/-- Section 2.5. -/
def indicatorCode : Indicator → Byte
  | .off => 0
  | .red => 1
  | .green => 2
  | .amber => 3

/-- A drive's lock, indicator and sounder parts. -/
def driveField (d : Drive) : List Byte := [lockCode d.lock, indicatorCode d.indicator, if d.chirp then 1 else 0]

/-- R48. -/
def conditionCode : EntryCondition → Byte
  | .any => 0
  | .never => 1
  | .work => 2
  | .after => 3
  | .empty => 4
  | .peopled => 5
  | .quiet => 6
  | .agent => 7
  | .responder => 8

/-- R32. -/
def pinRuleCode : PinRule → Byte
  | .never => 0
  | .afterHours => 1
  | .always => 2

/-- Section 3.2: SECURE is 0 and FAULT is 6. -/
def doorStateCode : DoorState → Byte
  | .secure => 0
  | .unlocked => 1
  | .opened => 2
  | .heldOpen => 3
  | .forced => 4
  | .offline => 5
  | .fault => 6

/-- R34. -/
def grantKindCode : GrantKind → Byte
  | .entry => 0
  | .exit => 1
  | .command => 2
  | .response => 3

/-- R32. -/
def openingKindCode : OpeningKind → Byte
  | .granted => 0
  | .egress => 1
  | .afterWithdrawal => 2
  | .foundOpen => 3

/-- R68. -/
def denialCode : DenialReason → Byte
  | .doorFault => 0
  | .unknownCredential => 1
  | .expired => 2
  | .badPin => 3
  | .zoneBarred => 4
  | .notPermitted => 5
  | .condition => 6
  | .passback => 7
  | .zoneFull => 8
  | .interlock => 9
  | .samePerson => 10
  | .doorBusy => 11
  | .checkinRefused => 12
  | .pairTimeout => 13

/-- R68: ENTRY_READ, EXIT_READ, CHECKIN. R68 lists these three as the reader of ACCESS_DENIED, and R27 lists them behind NONE; R190 does not
say which list counts, and the model numbers them by R68's, 0 to 2 (DESIGN CHOICE, notes/assumptions/56.md). -/
def readerCode : Reader → Byte
  | .entryRead => 0
  | .exitRead => 1
  | .checkin => 2

/-- R40. -/
def withdrawCode : WithdrawCause → Byte
  | .zoneBarred => 0
  | .doorFault => 1
  | .superseded => 2
  | .personDeleted => 3

/-- R49. -/
def doorCauseCode : DoorCause → Byte
  | .grant => 0
  | .windowExpired => 1
  | .grantedOpening => 2
  | .egress => 3
  | .forced => 4
  | .afterWithdrawal => 5
  | .heldOpen => 6
  | .closed => 7
  | .withdrawn => 8
  | .moduleOffline => 9
  | .moduleOnline => 10
  | .contactFault => 11
  | .contactRestored => 12
  | .firstClassified => 13

/-- R91. -/
def occCauseCode : OccCause → Byte
  | .entry => 0
  | .exit => 1
  | .moved => 2
  | .egress => 3
  | .forced => 4
  | .commandOpening => 5
  | .responseOpening => 6
  | .afterWithdrawal => 7
  | .sweep => 8
  | .forceExit => 9
  | .checkIn => 10
  | .personDeleted => 11

/-- Section 6.2. -/
def zoneStateCode : ZoneState → Byte
  | .isolated => 0
  | .guarded => 1
  | .occupiedHold => 2
  | .countdown => 3
  | .held => 4
  | .discharge => 5
  | .discharged => 6

/-- R117. -/
def zoneCauseCode : ZoneCause → Byte
  | .arm => 0
  | .isolate => 1
  | .entryHoldCleared => 2
  | .releaseAuto => 3
  | .releaseManual => 4
  | .manualUpgrade => 5
  | .cancel => 6
  | .occupied => 7
  | .unoccupied => 8
  | .hold => 9
  | .holdReleased => 10
  | .countdownEnd => 11
  | .dischargeEnd => 12
  | .ventComplete => 13

/-- R95. -/
def releaseKindCode : ReleaseKind → Byte
  | .auto => 0
  | .manual => 1

/-- R64. -/
def modeCode : Mode → Byte
  | .working => 0
  | .after => 1

/-- R94. -/
def bankCode : Bank → Byte
  | .bankA => 0
  | .bankB => 1

/-- R136: a container's bank, UNUSED last. -/
def containerBankCode : Option Bank → Byte
  | some k => bankCode k
  | none => 2

/-- R147. -/
def bankStateCode : BankState → Byte
  | .available => 0
  | .degraded => 1
  | .empty => 2

/-- R121. -/
def pathFaultCode : PathFault → Byte
  | .onCheckFail => 0
  | .offCheckFail => 1
  | .noCurrent => 2
  | .coilOpen => 3
  | .coilShort => 4
  | .currentAtRest => 5

/-- R121: ON, OFF. -/
def driveCodeOf (on : Bool) : Byte := if on then 0 else 1

/-- R121. -/
def checkCode : CheckKind → Byte
  | .onCheck => 0
  | .offCheck => 1

/-- R132: PASSED, FAILED, and in the same way PASS, FAIL. -/
def passedCode (passed : Bool) : Byte := if passed then 0 else 1

/-- R146. -/
def containerStateCode : ContainerState → Byte
  | .unknown => 0
  | .stale => 1
  | .sensorFault => 2
  | .low => 3
  | .normal => 4
  | .high => 5

/-- R143. -/
def levelCode : Level → Byte
  | .low => 0
  | .normal => 1
  | .high => 2

/-- R139 to R141. No list of the manual orders the reasons; they are numbered as those rules name them (DESIGN CHOICE,
notes/assumptions/47.md). -/
def discardCode : DiscardReason → Byte
  | .calJump => 0
  | .nibbleError => 1
  | .checkError => 2

/-- R155. -/
def alarmKindCode : AlarmKind → Byte
  | .duressPin => 0
  | .pendantDuress => 1
  | .manDown => 2
  | .alarmButton => 3
  | .missedCheckin => 4
  | .loneOccupant => 5

/-- R190: an alarm source. -/
def sourceField : AlarmSource → List Byte
  | .person p => 0 :: num2 p
  | .line l => 1 :: num1 l.val
  | .pendant id => 2 :: num3 id

/-- R155: RAISED, ACKNOWLEDGED. -/
def alarmStateCode (acknowledged : Bool) : Byte := if acknowledged then 1 else 0

/-- R162. -/
def alarmChangeCode : AlarmChange → Byte
  | .repeated => 0
  | .acknowledged => 1
  | .conditionGone => 2
  | .cleared => 3
  | .replaced => 4

/-- R152. -/
def pendantKindCode : PendantKind → Byte
  | .pendantDuress => 0
  | .manDown => 1
  | .checkIn => 2
  | .batteryLow => 3

/-- R150. -/
def pendantRxCode : PendantRx → Byte
  | .awaitingLength => 0
  | .receiving _ _ => 1
  | .skipping => 2

/-- R150. No list of the manual orders the reasons; they are numbered in the order in which the table of R150 names them (DESIGN CHOICE,
notes/assumptions/47.md). -/
def pendantDiscardCode : PendantDiscard → Byte
  | .serialError => 0
  | .badLength => 1
  | .cutShort => 2

/-- R170: a display state in an answer, by its position in the table of R170. -/
def displayCode : Display → Byte
  | .discharge => 0
  | .gasPresent => 1
  | .countdown => 2
  | .hold => 3
  | .alarm => 4
  | .checkinDue => 5
  | .entryBarred => 6
  | .clear => 7

/-- R200. -/
def resetKindCode : ResetKind → Byte
  | .powerOn => 0
  | .resetLine => 1

/-- R191. -/
def statusByte : Status → Byte
  | .ok => 0x00
  | .busy => 0x01
  | .notPermitted => 0x02
  | .notReady => 0x03
  | .badFormat => 0x04
  | .notFound => 0x05
  | .wrongState => 0x06
  | .interlock => 0x07
  | .tooLate => 0x08
  | .full => 0x09
  | .duplicate => 0x0A
  | .noAgent => 0x0B
  | .stillActive => 0x0C
  | .notAcknowledged => 0x0D
  | .unknownRequest => 0x0E
  | .zoneFull => 0x0F

/-! ## Records -/

/-- One byte that is a code. -/
def one (b : Byte) : List Byte := [b]

/-- R190: a set of numbers below 16 as a 2-byte mask. -/
def set2 {n : Nat} (l : List (Fin n)) : List Byte := num2 (maskOf (l.map (·.val)))

/-- R190: a set of line numbers as an 8-byte mask. -/
def lineSet (l : List Line) : List Byte := num8 (maskOf (l.map (·.val)))

/-- R190: a date in three bytes. -/
def dateField (d : Date) : List Byte := [byteOf d.year, byteOf d.month, byteOf d.day]

/-- R190: a date and time of day in six bytes. -/
def dateTimeField (t : DateTime) : List Byte := dateField t.date ++ [byteOf t.hour, byteOf t.minute, byteOf t.second]

/-- A zone number. -/
def zoneField (z : Zone) : List Byte := num1 z.val

/-- A person with the duress mark; on the Suppression port the mark is left out (R50, R92). -/
def markedPerson (marks : Bool) (g : GrantPerson) : List Byte := num2 g.person ++ if marks then flag1 g.duress else []

/-- The kind and marked persons of a grant. -/
def grantMarked (g : Grant) : List Byte := grantKindCode g.kind :: listField (markedPerson true) g.persons

/-- The kind and persons of a grant, as DOOR_STATE gives them (R49). -/
def grantPlain (g : Grant) : List Byte := grantKindCode g.kind :: listField (markedPerson false) g.persons

/-- R200: the four load flags, each a mark. -/
def loadFlagsField (f : LoadFlags) : List Byte :=
  flag1 f.absent ++ flag1 f.incomplete ++ flag1 f.unknownRecord ++ flag1 f.clamped

/-- R130: zone or bank of an output, a number or a named value (R190: A is 8 and B is 9). -/
def outputOwner (o : Output) : List Byte := num1 o.val

/-- The alarm records of a hold-source set: their numbers, and on the Suppression port their count alone (R117, R119). The numbers stand in
the order in which the records joined (DESIGN CHOICE, notes/assumptions/45.md). -/
def holdAlarmsField (port : Port) (l : List Nat) : List Byte :=
  match port with
  | .suppression => num1 l.length
  | .access | .console => listField num1 l

/-- R142: an average in kPa with the hold mark. -/
def averageField (x : Nat × Bool) : List Byte := num2 x.1 ++ flag1 x.2

/-! ## Notices -/

/-- R190: the kind byte of a notice. -/
def NoticeBody.kindCode : NoticeBody → Byte
  | .accessGranted .. => 0
  | .accessDenied .. => 1
  | .accessWithdrawn .. => 2
  | .pairingStarted .. => 3
  | .doorState .. => 4
  | .exitMismatch .. => 5
  | .exitUnlisted .. => 6
  | .occupancyChange .. => 7
  | .zoneState .. => 8
  | .bankState .. => 9
  | .containerState .. => 10
  | .releasePathFault .. => 11
  | .testResult .. => 12
  | .alarmRaised .. => 13
  | .alarmChanged .. => 14
  | .alarmNotRecorded .. => 15
  | .batteryLow .. => 16
  | .moduleState .. => 17
  | .lineFault .. => 18
  | .scheduleSwapped => 19
  | .startupDone .. => 20
  | .resync .. => 21

/-- The fields of a notice as a port's master receives them, in the order of the owning rule's table. The fault of LINE_FAULT (R12) and the
condition of an alarm record (R155, R162) are `present` as 1 and `gone` as 0 (DESIGN CHOICE, notes/assumptions/48.md). The duress mark of
ACCESS_DENIED (R68, R45) is one byte that is always there, 0 where no duress PIN was recognised (DESIGN CHOICE, notes/assumptions/25.md). -/
def NoticeBody.fields (port : Port) : NoticeBody → List Byte
  | .accessGranted d g => num1 d.val ++ grantMarked g ++ num1 g.places ++ num4 g.expiry
  | .accessDenied d reader credential person reason duress =>
    num1 d.val ++ one (readerCode reader) ++ num4 credential ++ optField num2 person ++ one (denialCode reason) ++ flag1 duress
  | .accessWithdrawn d cause grant first =>
    num1 d.val ++ one (withdrawCode cause) ++ optField grantMarked grant ++ optField (markedPerson true) first
  | .pairingStarted d first expiry => num1 d.val ++ markedPerson true first ++ num4 expiry
  | .doorState d state previous cause grant opening =>
    num1 d.val ++ [doorStateCode state, doorStateCode previous, doorCauseCode cause] ++ optField grantPlain grant
      ++ optField (one ∘ openingKindCode) opening
  | .exitMismatch d person inside removedFrom => num1 d.val ++ num2 person ++ zoneField inside ++ zoneField removedFrom
  | .exitUnlisted d person => num1 d.val ++ num2 person
  | .occupancyChange z cause persons count uncertain load =>
    zoneField z ++ one (occCauseCode cause) ++ listField num2 persons ++ num1 count ++ flag1 uncertain ++ num1 load
  | .zoneState z state previous cause kind delay remaining hold lines alarms load count uncertain =>
    zoneField z ++ [zoneStateCode state, zoneStateCode previous, zoneCauseCode cause]
      ++ optField (one ∘ releaseKindCode) kind ++ optField num2 delay ++ optField num2 remaining ++ flag1 hold
      ++ lineSet lines ++ holdAlarmsField port alarms ++ num1 load ++ num1 count ++ flag1 uncertain
  | .bankState bank state previous healthy required inService =>
    [bankCode bank, bankStateCode state, bankStateCode previous] ++ num1 healthy ++ num1 required ++ flag1 inService
  | .containerState c bank state previous average kept status =>
    num1 c.val ++ [containerBankCode bank, containerStateCode state, containerStateCode previous]
      ++ optField averageField average ++ num1 kept ++ optField num1 status
  | .releasePathFault o fault previous drive feedback edge =>
    num1 o.val ++ outputOwner o ++ optField (one ∘ pathFaultCode) fault ++ optField (one ∘ pathFaultCode) previous
      ++ one (driveCodeOf drive) ++ optField (one ∘ classCode) feedback ++ optField num4 edge
  | .testResult z onPassed offPassed noFeedback =>
    zoneField z ++ [passedCode (onPassed && offPassed), passedCode onPassed, passedCode offPassed]
      ++ optField one (if noFeedback then some 0 else none)
  | .alarmRaised number kind source zone raised condition personZone =>
    num1 number ++ one (alarmKindCode kind) ++ sourceField source ++ optField zoneField zone ++ num4 raised ++ flag1 condition
      ++ optField zoneField personZone
  | .alarmChanged number kind source zone change acknowledged condition lastSeen personZone =>
    num1 number ++ one (alarmKindCode kind) ++ sourceField source ++ optField zoneField zone
      ++ [alarmChangeCode change, alarmStateCode acknowledged] ++ flag1 condition ++ num4 lastSeen
      ++ optField zoneField personZone
  | .alarmNotRecorded kind source zone time personZone =>
    one (alarmKindCode kind) ++ sourceField source ++ optField zoneField zone ++ num4 time ++ optField zoneField personZone
  | .batteryLow pendant person => num3 pendant ++ optField num2 person
  | .moduleState m d online tamper failure =>
    num1 (m.val + 1) ++ num1 d.val ++ one (presenceCode online) ++ optField flag1 tamper
      ++ optField (one ∘ failureCode) failure
  | .lineFault l role new previous present =>
    num1 l.val ++ roleField role ++ one (classCode new) ++ optField (one ∘ classCode) previous ++ flag1 present
  | .scheduleSwapped => []
  | .startupDone reset flags bytesRead taken zones doors containers tod =>
    one (resetKindCode reset) ++ loadFlagsField flags ++ num2 bytesRead ++ num2 taken ++ set2 zones ++ set2 doors
      ++ set2 containers ++ optField dateTimeField tod
  | .resync overflow lost => one (if overflow then 1 else 0) ++ num1 lost

/-- R190: a notice record: kind, length of the whole record, stamp, time-of-day, fields. -/
def Notice.encode (port : Port) (n : Notice) : List Byte :=
  let rest := num4 n.stamp ++ optField dateTimeField n.tod ++ n.body.fields port
  n.body.kindCode :: byteOf (rest.length + 2) :: rest

end Sys2Proof.Machine
end

