-- ==== Sys2Proof/Machine/PortOps.lean ====
section
/-! DEFINITION. The master ports: the receive assembly (R180), breaks (R181), taking and answering requests (R182 to R184). -/

namespace Sys2Proof.Machine

/-! ## Receiving -/

/-- R180, R191: the start byte of a frame. -/
def startByte : Byte := 0xC3

/-- R180: a length byte in range. -/
def frameLengthValid (n : Nat) : Bool := 2 ≤ n && n ≤ 250

/-- R180: a byte without framing error that advances the assembly; in HUNT any other byte than the start byte is dropped. -/
def Assembly.byte (a : Assembly) (b : Byte) : Assembly :=
  match a with
  | .hunt => if b = startByte then .length else .hunt
  | .length => if frameLengthValid b.toNat then .body b.toNat [] else .length
  | .body n bytes => if n ≤ bytes.length + 1 then .check n (bytes ++ [b]) none else .body n (bytes ++ [b])
  | .check n bytes none => .check n bytes (some b)
  | .check n bytes (some first) => .check n bytes (some first)

/-- R180: the CRC-16 of the length byte through the last payload byte agrees with the two received bytes. -/
def frameCrcHolds (n : Nat) (bytes : List Byte) (first second : Byte) : Bool :=
  crcBytes (crc16 (byteOf n :: bytes)) == [first, second]

/-- A request frame: kind, tag and payload. -/
structure Frame where
  kind : Byte
  tag : Byte
  payload : List Byte
  deriving DecidableEq, Repr

/-- R180, R182: the frame that ends with byte `b` as its second CRC byte, where its CRC agrees. -/
def Assembly.frame (a : Assembly) (b : Byte) : Option Frame :=
  match a with
  | .check n (kind :: tag :: payload) (some first) =>
    if frameCrcHolds n (kind :: tag :: payload) first b then some { kind := kind, tag := tag, payload := payload } else none
  | _ => none

/-- R182: the frame is one to be answered: kind below 0x80, with the waiting slot free. -/
def PortRec.frameTaken (r : PortRec) (b : Byte) : Option Frame :=
  (r.rx.frame b).filter fun f => f.kind.toNat < 128 && r.waiting.isNone

/-- R180, R182: byte `b` discards the frame being gathered: a framing error in LENGTH, BODY or CHECK, a length out of range, a CRC that
disagrees, a kind of 0x80 or above, a full waiting slot. -/
def PortRec.discards (r : PortRec) (b : Byte) (framingError : Bool) : Bool :=
  match r.rx with
  | .hunt => false
  | .length => framingError || !frameLengthValid b.toNat
  | .body _ _ => framingError
  | .check _ _ none => framingError
  | .check _ _ (some _) => framingError || (r.frameTaken b).isNone

/-- The ports take no byte while the reset input is asserted (R189), nor between a break and the line's return (R181). -/
def State.portHears (s : State) (p : Port) : Bool :=
  s.loader.phase != .resetHeld && !(s.ports[portIndex p]).lineLow

/-! ## Answers -/

/-- R183: how many content bytes a segment holds. -/
def segmentContent : Nat := 246

/-- R183, R191: one segment of an answer. -/
def segmentFrame (kind tag : Byte) (status : Status) (index : Nat) (last : Bool) (content : List Byte) : List Byte :=
  let segment := byteOf (index % 8 + if last then 128 else 0)
  let covered := byteOf (content.length + 4) :: (kind + 0x80) :: tag :: statusByte status :: segment :: content
  startByte :: (covered ++ crcBytes (crc16 covered))

/-- R183: how many segments some content takes: at least one. -/
def segmentCount (content : List Byte) : Nat := max 1 ((content.length + segmentContent - 1) / segmentContent)

/-- R183: an answer as its segments. -/
def composeAnswer (f : Frame) (status : Status) (content : List Byte) : Answer :=
  (List.range (segmentCount content)).map fun i =>
    segmentFrame f.kind f.tag status i (i + 1 = segmentCount content) ((content.drop (i * segmentContent)).take segmentContent)

/-- R183: a composed answer is sent at once, or waits in the slot while an earlier one is being sent. -/
def PortRec.send (r : PortRec) (a : Answer) : PortRec :=
  if r.tx.isNone then { r with tx := some a } else { r with waiting := some a }

/-! ## Requests -/

/-- What deciding a request comes to: the state after it, its status and its answer's content. -/
structure Reply where
  state : State
  status : Status
  content : List Byte

/-- A request that changes nothing, with a status alone. -/
def State.reply (s : State) (status : Status) : Reply := { state := s, status := status, content := [] }

/-- An accepted request that changes nothing. -/
def State.replyWith (s : State) (content : List Byte) : Reply := { state := s, status := .ok, content := content }

/-- An owning rule's decision on a request, given the port it came from and its payload. -/
abbrev Decide := State → Port → List Byte → Reply

/-- R184: which ports have the right to a request. -/
inductive Rights where
  | all
  | only (p : Port)
  deriving DecidableEq, Repr

/-- R184: a port has the right. -/
def Rights.allow : Rights → Port → Bool
  | .all, _ => true
  | .only p, q => p = q

/-- R182: the checks before the owning rule: NOT_READY before STARTUP_DONE for every request but READ_STATUS, then NOT_PERMITTED. -/
def State.checkRequest (s : State) (p : Port) (early : Bool) (rights : Rights) (decide : Decide) (payload : List Byte) : Reply :=
  if !s.isRunning && !early then s.reply .notReady
  else if !rights.allow p then s.reply .notPermitted
  else decide s p payload

/-- R182, R183: a frame ends: the assembly hunts, the request is decided, and its answer is composed and sent or put into the slot. -/
def State.answerFrame (s : State) (p : Port) (f : Frame) (decide : State → Reply) : State :=
  let r := decide (s.updPort p fun x => { x with rx := .hunt })
  r.state.updPort p (·.send (composeAnswer f r.status r.content))

/-- R182: the request of kind `code` whose frame ends at port `p` with byte `b` is taken; where no such frame ends there, nothing
happens. -/
def State.takeRequest (s : State) (p : Port) (b : Byte) (code : Byte) (early : Bool) (rights : Rights) (decide : Decide) : State :=
  if !s.portHears p then s
  else
    match (s.ports[portIndex p]).frameTaken b with
    | none => s
    | some f => if f.kind = code then s.answerFrame p f fun t => t.checkRequest p early rights decide f.payload else s

/-- R184: the kind codes of the request set. -/
def requestCodes : List Byte :=
  [0x01, 0x02, 0x03, 0x04, 0x05, 0x06, 0x07, 0x08, 0x10, 0x11, 0x12, 0x13, 0x14, 0x15, 0x16, 0x17, 0x18, 0x20, 0x21, 0x22,
    0x23, 0x24, 0x25, 0x26, 0x30, 0x31, 0x32, 0x33, 0x34, 0x35]

/-! ## The commands of the line -/

/-- MASTER_PORT_BYTE_RECEIVED (R180). -/
def execMasterPortByteReceived (p : Port) (b : Byte) (s : State) : Host.Outcome State Fault Refusal :=
  .next (if s.portHears p then s.updPort p fun r => { r with rx := r.rx.byte b } else s)

/-- FRAME_DISCARDED (R180, R182). -/
def execFrameDiscarded (p : Port) (b : Byte) (framingError : Bool) (s : State) : Host.Outcome State Fault Refusal :=
  .next
    (if s.portHears p && (s.ports[portIndex p]).discards b framingError then s.updPort p fun r => { r with rx := .hunt }
    else s)

/-- RECEIVE_GAP_TIMEOUT (R180): the frame being gathered is discarded. -/
def execReceiveGapTimeout (p : Port) (s : State) : Host.Outcome State Fault Refusal :=
  .next (s.updPort p fun r => { r with rx := .hunt })

/-- UNKNOWN_REQUEST (R182). -/
def execUnknownRequest (p : Port) (b : Byte) (s : State) : Host.Outcome State Fault Refusal :=
  if !s.portHears p then .next s
  else
    match (s.ports[portIndex p]).frameTaken b with
    | none => .next s
    | some f => .next (if f.kind ∈ requestCodes then s else s.answerFrame p f fun t => t.reply .unknownRequest)

/-- ANSWER_TRANSMISSION_END (R183): the waiting answer, if any, begins. -/
def execAnswerTransmissionEnd (p : Port) (s : State) : Host.Outcome State Fault Refusal :=
  .next (s.updPort p fun r => if r.tx.isSome then { r with tx := r.waiting, waiting := none } else r)

/-- R181: a port is restarted; before STARTUP_DONE no RESYNC is stored. -/
def PortRec.restart (r : PortRec) (running : Bool) (resync : Nat → Notice) : PortRec :=
  { rx := .hunt, lineLow := true, tx := none, waiting := none,
    queue := if running then [resync r.queue.length] else [] }

/-- PORT_RESTART (R181): one restart for each break. -/
def execPortRestart (p : Port) (s : State) : Host.Outcome State Fault Refusal :=
  .next
    (if s.portHears p then s.updPort p (·.restart s.isRunning fun lost => s.stampNotice (.resync false lost))
    else s)

/-- RECEIVE_LINE_RETURNED_HIGH (R181). -/
def execReceiveLineReturnedHigh (p : Port) (s : State) : Host.Outcome State Fault Refusal :=
  .next (s.updPort p fun r => { r with lineLow := false })

end Sys2Proof.Machine
end

