-- ==== Sys2Proof/Machine/AccessRequests.lean ====
section
/-! DEFINITION. The Access port's requests: persons (R52 to R54, R56), groups (R57), schedules and holidays (R61, R62), the time (R196),
DOOR_PULSE (R76). -/

namespace Sys2Proof.Machine

/-! ## Persons -/

/-- R52: what refuses a WRITE_PERSON, the first case that applies. -/
def State.personRefusal (s : State) (index : Nat) (r : PersonRec) : Option Status :=
  if 1023 < index || !personRecordValid r then some .badFormat
  else if (s.personAt index).isNone && (s.occupancy.entryOf index).any (·.deleted) then some .wrongState
  else if s.personnel.table.any fun x => x.1 != index && x.2.credential = r.credential then some .duplicate
  else if s.personnel.table.any fun x => x.1 != index && r.pendant.isSome && x.2.pendant = r.pendant then some .duplicate
  else none

/-- R53: a changed lone-permitted flag of a person with an entry re-tests the lone condition of the entry's zone. -/
def State.retestPerson (s : State) (index : Nat) (old : Option PersonRec) (new : PersonRec) : State :=
  match s.occupancy.entryOf index, old with
  | some e, some o => if o.lonePermitted = new.lonePermitted then s else s.retestLone e.zone
  | _, _ => s

/-- R52, R53: an accepted write. -/
def State.writePerson (s : State) (index : Nat) (r : PersonRec) : State :=
  { s with personnel := { s.personnel with table := writeIndex s.personnel.table index r } }.retestPerson index
    (s.personAt index) r

/-- R52. -/
def decideWritePerson : Decide := fun s _ payload =>
  match readPersonRecord payload with
  | none => s.reply .badFormat
  | some (index, r) =>
    match s.personRefusal index r with
    | some status => s.reply status
    | none => (s.writePerson index r).reply .ok

/-- WRITE_PERSON (R52, R53). -/
def execWritePerson (p : Port) (b : Byte) (s : State) : Host.Outcome State Fault Refusal :=
  .next (s.takeRequest p b 0x10 false (.only .access) decideWritePerson)

/-- R54: the doors whose pairing record's first person is an index. The manual gives them no order; they are taken in increasing number
(DESIGN CHOICE, notes/assumptions/42.md). -/
def State.doorsPairing (s : State) (index : Nat) : List Door :=
  (List.finRange 16).filter fun d => (s.doors[d]).any fun r => r.pairing.any (·.first.person = index)

/-- R54: an accepted deletion: the record, the person's entry, the pairing records, in the order of R54's bullets. The rule does not order
their notices expressly; the entry's OCCUPANCY_CHANGE so stands before the ACCESS_WITHDRAWN of each pairing record (DESIGN CHOICE,
notes/assumptions/59.md). -/
def State.deletePerson (s : State) (index : Nat) : State :=
  let t := { s with personnel := { s.personnel with table := eraseIndex s.personnel.table index } }.markDeleted index
  t.forEach (t.doorsPairing index) fun d u => (u.withdrawPairing d .personDeleted).refreshDrive d

/-- R54. -/
def decideDeletePerson : Decide := fun s _ payload =>
  match readIndex payload with
  | none => s.reply .badFormat
  | some index => if (s.personAt index).isNone then s.reply .notFound else (s.deletePerson index).reply .ok

/-- DELETE_PERSON (R54). -/
def execDeletePerson (p : Port) (b : Byte) (s : State) : Host.Outcome State Fault Refusal :=
  .next (s.takeRequest p b 0x11 false (.only .access) decideDeletePerson)

/-- R56: a record's fields, of the PIN its presence alone, and the zone of the person's entry. -/
def State.personFields (s : State) (index : Nat) (r : PersonRec) : List Byte :=
  num4 r.credential ++ flag1 r.pin.isSome ++ optField num3 r.pendant ++ num2 (maskOf r.groups)
    ++ optField dateField r.validFrom ++ optField dateField r.validTo ++ flag1 r.lonePermitted ++ flag1 r.responder
    ++ optField zoneField (s.personZone index)

/-- R56. -/
def decideReadPerson : Decide := fun s _ payload =>
  match readIndex payload with
  | none => s.reply .badFormat
  | some index =>
    match s.personAt index with
    | none => s.reply .notFound
    | some r => s.replyWith (s.personFields index r)

/-- READ_PERSON (R56). -/
def execReadPerson (p : Port) (b : Byte) (s : State) : Host.Outcome State Fault Refusal :=
  .next (s.takeRequest p b 0x12 false (.only .access) decideReadPerson)

/-! ## Groups and schedules -/

/-- R57. -/
def decideWriteGroup : Decide := fun s _ payload =>
  match readGroup payload with
  | none => s.reply .badFormat
  | some (group, permissions) =>
    { s with personnel := { s.personnel with groups := s.personnel.groups.put group permissions } }.reply .ok

/-- WRITE_GROUP (R57). -/
def execWriteGroup (p : Port) (b : Byte) (s : State) : Host.Outcome State Fault Refusal :=
  .next (s.takeRequest p b 0x13 false (.only .access) decideWriteGroup)

/-- The staged set is changed. -/
def State.stage (s : State) (f : ScheduleSet → ScheduleSet) : State :=
  { s with schedules := { s.schedules with staged := f s.schedules.staged } }

/-- R61. -/
def decideStageSchedule : Decide := fun s _ payload =>
  match readSchedule payload with
  | none => s.reply .badFormat
  | some (n, lists) =>
    if s.schedules.ready then s.reply .busy
    else (s.stage fun x => { x with schedules := x.schedules.put n lists }).reply .ok

/-- STAGE_SCHEDULE (R61). -/
def execStageSchedule (p : Port) (b : Byte) (s : State) : Host.Outcome State Fault Refusal :=
  .next (s.takeRequest p b 0x14 false (.only .access) decideStageSchedule)

/-- R61. -/
def decideStageHolidays : Decide := fun s _ payload =>
  match readHolidays payload with
  | none => s.reply .badFormat
  | some dates =>
    if 32 < dates.length then s.reply .full
    else if s.schedules.ready then s.reply .busy
    else (s.stage fun x => { x with holidays := dates }).reply .ok

/-- STAGE_HOLIDAYS (R61). -/
def execStageHolidays (p : Port) (b : Byte) (s : State) : Host.Outcome State Fault Refusal :=
  .next (s.takeRequest p b 0x15 false (.only .access) decideStageHolidays)

/-- R62. -/
def decideCommitSchedules : Decide := fun s _ payload =>
  match readNothing payload with
  | none => s.reply .badFormat
  | some () => { s with schedules := { s.schedules with ready := true } }.reply .ok

/-- COMMIT_SCHEDULES (R62). -/
def execCommitSchedules (p : Port) (b : Byte) (s : State) : Host.Outcome State Fault Refusal :=
  .next (s.takeRequest p b 0x16 false (.only .access) decideCommitSchedules)

/-! ## The time -/

/-- R196: the time-of-day is set, its millisecond count starts again, and every mode is evaluated. -/
def State.setTime (s : State) (t : DateTime) : State :=
  { s with time := { s.time with tod := some t, todMs := 0 } }.evaluateModes

/-- R196. -/
def decideSetTime : Decide := fun s _ payload =>
  match readDateTime payload with
  | none => s.reply .badFormat
  | some t => (s.setTime t).reply .ok

/-- SET_TIME (R196). -/
def execSetTime (p : Port) (b : Byte) (s : State) : Host.Outcome State Fault Refusal :=
  .next (s.takeRequest p b 0x17 false (.only .access) decideSetTime)

/-! ## DOOR_PULSE -/

/-- R184: the reason field of a refused DOOR_PULSE, in the list DOOR_FAULT, DOOR_BUSY, ZONE_BARRED, CONDITION, NO_ALARM. -/
inductive RefusalReason where
  | doorFault
  | doorBusy
  | zoneBarred
  | condition
  | noAlarm
  deriving DecidableEq, Repr

/-- R184: a reason by its position. -/
def reasonCode : RefusalReason → Byte
  | .doorFault => 0
  | .doorBusy => 1
  | .zoneBarred => 2
  | .condition => 3
  | .noAlarm => 4

/-- WRONG_STATE with its reason field. -/
def State.replyReason (s : State) (reason : RefusalReason) : Reply :=
  { state := s, status := .wrongState, content := [reasonCode reason] }

/-- R76, R166: an installation's outcome as an answer. -/
def installReply (x : State × Option DenialReason) : Reply :=
  match x.2 with
  | none => x.1.reply .ok
  | some .doorFault => x.1.replyReason .doorFault
  | some .zoneBarred => x.1.replyReason .zoneBarred
  | some .interlock => x.1.reply .interlock
  | some _ => x.1.replyReason .doorBusy

/-- R76: steps 1, 5, 7 and 10 of R69, and the installation of a COMMAND grant. -/
def State.pulseDoor (s : State) (d : Door) (r : DoorRec) : Reply :=
  if r.state.faulty then s.replyReason .doorFault
  else if s.bars r.cfg.inside then s.replyReason .zoneBarred
  else if !s.entryCondition r.cfg [] then s.replyReason .condition
  else if !s.partnerSecure r.cfg then s.reply .interlock
  else installReply (s.offerGrant d r .command [] 0)

/-- R76. -/
def decideDoorPulse : Decide := fun s _ payload =>
  match readNumber payload with
  | none => s.reply .badFormat
  | some n =>
    match s.doorNamed n with
    | none => s.reply .notFound
    | some (d, r) => s.pulseDoor d r

/-- DOOR_PULSE (R76). -/
def execDoorPulse (p : Port) (b : Byte) (s : State) : Host.Outcome State Fault Refusal :=
  .next (s.takeRequest p b 0x18 false (.only .access) decideDoorPulse)

end Sys2Proof.Machine
end

