-- ==== Sys2Proof/Machine/DoorEvents.lean ====
section
/-! DEFINITION. What the Door Controller does with reports: contact and handle reports (R37 to R39, R41 to R44), a module's
presence and lock feedback (R25, R41, R43). -/

namespace Sys2Proof.Machine

/-- R8: the reported class of a door's egress-handle line. -/
def State.handleClass (s : State) (r : DoorRec) : Option LineClass :=
  (r.handleLine.bind fun l => s.lines[l]).bind fun x => x.reported

/-- R38: an opening reported at `stamp` is an egress opening by the handle: its line is ACTIVE, or became ACTIVE no more than
1000 ms before; a handle line in fault or unclassified does not count (R8). -/
def State.handleExcuses (s : State) (r : DoorRec) (stamp : Nat) : Bool :=
  match s.handleClass r with
  | some .active => true
  | some .normal => r.handleActive.any fun t => stamp ≤ t + 1000
  | _ => false

/-! ## Openings and closings -/

/-- R78: the commit releases a grant's places; where it makes no entries, here. -/
def State.releaseUnused (s : State) (z : Zone) (g : Grant) : State :=
  match g.kind, g.persons with
  | .entry, _ => s
  | .response, _ :: _ => s
  | _, _ => s.releasePlaces z g.places

/-- R37: an opening in UNLOCKED: OPEN under the grant, the drive, DOOR_STATE, and then the commit. -/
def State.grantedOpening (s : State) (d : Door) (r : DoorRec) (stamp : Nat) : State :=
  let t := s.updDoor d fun x =>
    { x with state := .opened, openingKind := some .granted, openSince := some stamp, grant := none }
  let t := (t.refreshDrive d).notifyDoor d r.state .grantedOpening r.grant
  match r.grant with
  | none => t
  | some g => (t.commitGrant d r.cfg g).releaseUnused r.cfg.inside g

/-- R38: an opening in SECURE by the handle. -/
def State.egressOpening (s : State) (d : Door) (r : DoorRec) (stamp : Nat) : State :=
  let t := s.updDoor d fun x => { x with state := .opened, openingKind := some .egress, openSince := some stamp }
  ((t.refreshDrive d).unidentifiedExit r.cfg).notifyDoor d r.state .egress none

/-- R39: an opening in SECURE with neither grant nor handle. -/
def State.forcedOpening (s : State) (d : Door) (r : DoorRec) (stamp : Nat) : State :=
  let t := s.updDoor d fun x => { x with state := .forced, openSince := some stamp }
  ((t.refreshDrive d).forcedPassage r.cfg).notifyDoor d r.state .forced none

/-- R41: an opening in SECURE while the door has a withdrawn-window end. -/
def State.openingAfterWithdrawal (s : State) (d : Door) (r : DoorRec) (stamp : Nat) : State :=
  let t := s.updDoor d fun x =>
    { x with state := .opened, openingKind := some .afterWithdrawal, openSince := some stamp, withdrawnEnd := none }
  ((t.refreshDrive d).entryAfterWithdrawal r.cfg).notifyDoor d r.state .afterWithdrawal none

/-- R38, R39, R41: an opening in SECURE. -/
def State.secureOpening (s : State) (d : Door) (r : DoorRec) (stamp : Nat) : State :=
  if r.withdrawnEnd.isSome then s.openingAfterWithdrawal d r stamp
  else if s.handleExcuses r stamp then s.egressOpening d r stamp
  else s.forcedOpening d r stamp

/-- R43: an opening of an OFFLINE door; the door stays OFFLINE. -/
def State.offlineOpening (s : State) (d : Door) (r : DoorRec) (stamp : Nat) : State :=
  if s.handleExcuses r stamp then (s.unidentifiedExit r.cfg).notifyDoor d .offline .egress none
  else (s.forcedPassage r.cfg).notifyDoor d .offline .forced none

/-- R42: a closing makes an open door SECURE. -/
def State.doorCloses (s : State) (d : Door) (r : DoorRec) : State :=
  let t := s.updDoor d fun x => { x with state := .secure, openingKind := none, openSince := none }
  (t.refreshDrive d).notifyDoor d r.state .closed none

/-! ## OFFLINE and FAULT -/

/-- R33, R43, R44: a door that can be read takes the state its contact position gives: SECURE when closed, OPEN found open. -/
def DoorRec.atContact (r : DoorRec) (opened : Bool) (now : Nat) : DoorRec :=
  if opened then { r with state := .opened, openingKind := some .foundOpen, openSince := some now }
  else { r with state := .secure, openingKind := none, openSince := none }

/-- R43: the module assigned to a door is ONLINE. -/
def State.doorModuleOnline (s : State) (r : DoorRec) : Bool :=
  match r.module with
  | none => false
  | some m => (s.bus.modules[m]).any (·.online)

/-- R33, R43: a door leaves OFFLINE, with cause MODULE_ONLINE, or FIRST_CLASSIFIED at its first leaving since reset. -/
def State.leaveOffline (s : State) (d : Door) (r : DoorRec) (opened : Bool) : State :=
  let cause := if r.leftOffline then DoorCause.moduleOnline else DoorCause.firstClassified
  let t := s.updDoor d fun x => { x.atContact opened s.nowMs with leftOffline := true }
  (t.refreshDrive d).notifyDoor d r.state cause none

/-- R43, R44: a door becomes OFFLINE or FAULT: its grant, pairing record, withdrawn-window end, opening kind and open-since time are
removed. -/
def State.doorLost (s : State) (d : Door) (r : DoorRec) (state : DoorState) (cause : DoorCause) : State :=
  let t := (s.withdrawGrant d .doorFault).withdrawPairing d .doorFault
  let t := t.updDoor d fun x =>
    { x with
      state := state, withdrawnEnd := none, openingKind := none, openSince := none,
      leftOffline := x.leftOffline || r.state == .offline }
  (t.refreshDrive d).notifyDoor d r.state cause none

/-- R44: the contact line leaves the fault classes. A door found ACTIVE counts as a forced opening, wherever it goes. Its second DOOR_STATE
notice, with cause FORCED, gives FAULT as the previous state once more (DESIGN CHOICE, notes/assumptions/43.md). -/
def State.contactRestored (s : State) (d : Door) (r : DoorRec) (opened : Bool) : State :=
  let t := s.updDoor d fun x =>
    if s.doorModuleOnline r then x.atContact opened s.nowMs else { x with state := .offline }
  let t := t.refreshDrive d
  if opened then
    ((t.forcedPassage r.cfg).notifyDoor d r.state .contactRestored none).notifyDoor d r.state .forced none
  else t.notifyDoor d r.state .contactRestored none

/-! ## Reports of the lines -/

/-- R7: the contact line's reported change from `previous` to `new`, handed to the door. -/
def State.contactReport (s : State) (d : Door) (previous : Option LineClass) (new : LineClass) (stamp : Nat) : State :=
  match s.doors[d] with
  | none => s
  | some r =>
    if new.isFault then if r.state = .fault then s else s.doorLost d r .fault .contactFault
    else
      let opened := new == .active
      let t := s.updDoor d fun x => { x with contactOpen := some opened }
      match r.state with
      | .fault => t.contactRestored d r opened
      | .offline =>
        if previous.isNone then if s.doorModuleOnline r then t.leaveOffline d r opened else t
        else if opened then t.offlineOpening d r stamp
        else t
      | .secure => if opened then t.secureOpening d r stamp else t
      | .unlocked => if opened then t.grantedOpening d r stamp else t
      | .opened => if opened then t else t.doorCloses d r
      | .heldOpen => if opened then t else t.doorCloses d r
      | .forced => if opened then t else t.doorCloses d r

/-- R8: the egress-handle line's reported change, handed to the door: the time of a change into ACTIVE is kept. -/
def State.handleReport (s : State) (d : Door) (new : LineClass) (stamp : Nat) : State :=
  if new = .active then s.updDoor d fun r => { r with handleActive := some stamp } else s

/-! ## Reports of the door bus -/

/-- R43: a door's module becomes OFFLINE. -/
def State.doorModuleOffline (s : State) (d : Door) : State :=
  match s.doors[d] with
  | none => s
  | some r =>
    match r.state with
    | .offline => s
    | .fault => s
    | .secure | .unlocked | .opened | .heldOpen | .forced => s.doorLost d r .offline .moduleOffline

/-- R43: a door's module becomes ONLINE: a door in OFFLINE whose contact line is classified leaves it. -/
def State.doorModuleBack (s : State) (d : Door) : State :=
  match s.doors[d] with
  | none => s
  | some r =>
    match r.state, r.contactOpen with
    | .offline, some opened => s.leaveOffline d r opened
    | _, _ => s

/-- R25, R41: lock feedback handed to the Door Controller; THROWN removes the withdrawn-window end. -/
def State.lockFeedbackReport (s : State) (d : Door) (f : LockFeedback) : State :=
  match f with
  | .thrown => s.updDoor d fun r => { r with withdrawnEnd := none }
  | .retracted => s

end Sys2Proof.Machine
end

