-- ==== Sys2Proof/Machine/BusEvents.lean ====
section
/-! DEFINITION. The door bus's commands: the bytes of a POLL answer, its judgement and handling (R17 to R19, R22 to R29), the end of a
DRIVE (R21), the end of an idle (R20). -/

namespace Sys2Proof.Machine

/-! ## The answer -/

/-- R27, R192: reader event kinds in range; NONE hands nothing over. -/
inductive ReaderEvent where
  | none
  | read (reader : Reader)
  deriving DecidableEq, Repr

/-- The fields of a good POLL answer (R192). -/
structure PollAnswer where
  tamper : Bool
  lockFeedback : LockFeedback
  freshStart : Bool
  event : ReaderEvent
  toggle : Bool
  credential : Nat
  pin : KeyedPin
  deriving DecidableEq, Repr

/-- R192: the reader event kind of a status byte; absent when out of range. -/
def readerEventOf (status : Byte) : Option ReaderEvent :=
  match status.toNat / 16 % 8 with
  | 0 => some .none
  | 1 => some (.read .entryRead)
  | 2 => some (.read .exitRead)
  | 3 => some (.read .checkin)
  | _ => none

/-- R192: the six digit positions of three bytes, the first in the high half of the first byte. -/
def digitPositions (l : List Byte) : List Nat := l.flatMap fun b => [b.toNat / 16, b.toNat % 16]

/-- R192: the fields of eight answer bytes; absent when the event kind is out of range. -/
def readAnswer (l : List Byte) : Option PollAnswer :=
  match l with
  | status :: rest =>
    (readerEventOf status).map fun event =>
      { tamper := status.getLsbD 0,
        lockFeedback := if status.getLsbD 1 then .thrown else .retracted,
        freshStart := status.getLsbD 2,
        event := event,
        toggle := status.getLsbD 7,
        credential := numberOf (rest.take 4),
        pin := readPin (digitPositions (rest.drop 4)) }
  | [] => none

/-- R18, R19: the judgement of nine bytes: the fields of a good answer, or none for BAD. -/
def judgeAnswer (m : Module) (kind : Byte) (received : List Byte) (bad : Bool) (check : Byte) : Option PollAnswer :=
  if bad then none
  else if !checkHolds (moduleAddress m :: kind :: (received ++ [check])) then none
  else readAnswer received

/-! ## A failed exchange (R22) -/

/-- R26: a MODULE_STATE notice of the module as it stands. -/
def State.notifyModule (s : State) (m : Module) (failure : Option PollFailure) : State :=
  match s.bus.modules[m] with
  | none => s
  | some r => s.notify (.moduleState m r.door r.online r.tamper failure)

/-- R22: the third failure in a row makes a module OFFLINE. -/
def State.moduleOffline (s : State) (m : Module) (r : ModuleRec) (failure : PollFailure) : State :=
  let t := { s with bus := { s.bus with queue := s.bus.queue.filter (·.1 != m) } }
  let t := t.updModule m fun x => { x with online := false, failures := 3, tamper := none, lockFeedback := none }
  (t.doorModuleOffline r.door).notifyModule m (some failure)

/-- R22: a failed POLL exchange of a module is counted. -/
def State.countFailure (s : State) (m : Module) (failure : PollFailure) : State :=
  match s.bus.modules[m] with
  | none => s
  | some r =>
    if r.online && 3 ≤ r.failures + 1 then s.moduleOffline m r failure
    else s.updModule m fun x => { x with failures := min 3 (x.failures + 1) }

/-! ## A good answer (R23 to R29) -/

/-- R29, step 1: presence. -/
def State.answerPresence (s : State) (m : Module) (r : ModuleRec) : State :=
  let t := s.updModule m fun x => { x with online := true, failures := 0 }
  if r.online then t else t.doorModuleBack r.door

/-- R29, step 2: tamper and MODULE_STATE; one notice carries a change of presence and of tamper. -/
def State.answerTamper (s : State) (m : Module) (r : ModuleRec) (a : PollAnswer) : State :=
  let t := s.updModule m fun x => { x with tamper := some a.tamper }
  if r.online && r.tamper = some a.tamper then t else t.notifyModule m none

/-- R29, step 3: lock feedback that differs from what is recorded is recorded and handed over. -/
def State.answerLockFeedback (s : State) (m : Module) (r : ModuleRec) (a : PollAnswer) : State :=
  if r.lockFeedback = some a.lockFeedback then s
  else (s.updModule m fun x => { x with lockFeedback := some a.lockFeedback }).lockFeedbackReport r.door a.lockFeedback

/-- R23: the recovery drive of a module: its door's current lock and indicator, sounder OFF. -/
def State.recoveryDrive (s : State) (m : Module) (d : Door) : State :=
  match s.doors[d] with
  | none => s
  | some x => s.handDrive (some m) { s.doorDrive x with chirp := false }

/-- R29, step 4: the recovery drive of a module that came back or shows a fresh start. -/
def State.answerRecovery (s : State) (m : Module) (r : ModuleRec) (a : PollAnswer) : State :=
  if !r.online || a.freshStart then s.recoveryDrive m r.door else s

/-- R28: the event of a good answer is taken, given the module as it stood before. -/
def eventTaken (r : ModuleRec) (a : PollAnswer) : Bool :=
  r.online && !a.freshStart && r.toggle.any (· != a.toggle)

/-- R28: the toggle of a good answer is copied, whether its event is taken or it is adopted; an equal one changes nothing. R29: a
taken event other than NONE is handed to the Access Decision Unit. -/
def State.answerEvent (s : State) (m : Module) (r : ModuleRec) (a : PollAnswer) : State :=
  let t := s.updModule m fun x => { x with toggle := some a.toggle }
  if eventTaken r a then
    match a.event with
    | .none => t
    | .read reader => t.present r.door { reader := reader, credential := a.credential, pin := a.pin }
  else t

/-- R29: a good answer of a module is handled. -/
def State.goodAnswer (s : State) (m : Module) (a : PollAnswer) : State :=
  match s.bus.modules[m] with
  | none => s
  | some r =>
    ((((s.answerPresence m r).answerTamper m r a).answerLockFeedback m r a).answerRecovery m r a).answerEvent m r a

/-! ## The commands -/

/-- A byte joins the bytes received in the POLL exchange on the bus, up to the eight before the ninth (R17). -/
def Bus.receive (u : Bus) (b : Byte) (framingError : Bool) : Bus :=
  match u.tx with
  | .poll m kind received bad =>
    if received.length < 8 then { u with tx := .poll m kind (received ++ [b]) (bad || framingError) } else u
  | .idle => u
  | .drive .. => u

/-- R17: POLL_ANSWER_BYTE_RECEIVED. A byte that arrives outside the answer window, after its exchange has ended, is discarded and joins no
later exchange, though the header of the next one may be on the bus by then. -/
def execPollAnswerByteReceived (b : Byte) (arrival : ByteArrival) (s : State) : Host.Outcome State Fault Refusal :=
  match arrival with
  | .inWindow framingError => .next { s with bus := s.bus.receive b framingError }
  | .outsideWindow => .next s

/-- R17, R19: the end of a POLL exchange whose ninth byte has been received. -/
def State.endPoll (s : State) (m : Module) (answer : Option PollAnswer) : State :=
  match answer with
  | some a => (s.goodAnswer m a).busFree
  | none => (s.countFailure m .bad).busFree

/-- POLL_ANSWER_RECEIVED (R17, R19). -/
def execPollAnswerReceived (b : Byte) (framingError : Bool) (s : State) : Host.Outcome State Fault Refusal :=
  match s.bus.tx with
  | .poll m kind received bad =>
    if received.length = 8 then .next (s.endPoll m (judgeAnswer m kind received (bad || framingError) b)) else .next s
  | .idle => .next s
  | .drive .. => .next s

/-- R19: the name of the failure of an exchange whose window has ended. -/
def windowFailure (received : Nat) (ninthBegun : Bool) : PollFailure :=
  if received = 0 then .missing else if received = 8 && ninthBegun then .late else .truncated

/-- POLL_WINDOW_EXPIRY (R17, R19). -/
def execPollWindowExpiry (ninthBegun : Bool) (s : State) : Host.Outcome State Fault Refusal :=
  match s.bus.tx with
  | .poll m _ received _ => .next (s.countFailure m (windowFailure received.length ninthBegun)).busFree
  | .idle => .next s
  | .drive .. => .next s

/-- DRIVE_END (R21): the check byte of a DRIVE has been sent and the bus is free. -/
def execDriveEnd (s : State) : Host.Outcome State Fault Refusal :=
  match s.bus.tx with
  | .drive .. => .next s.busFree
  | .idle => .next s
  | .poll .. => .next s

/-- MODULE_RETRY_DUE (R20): an idle bus starts a POLL of the first eligible module, once module `m` is eligible. The first POLL
after a load begins so too (R197, notes/assumptions/13.md). -/
def execModuleRetryDue (m : Module) (s : State) : Host.Outcome State Fault Refusal :=
  .next (if s.isRunning && (s.bus.modules[m]).any (pollEligible s.nowMs) then s.chooseNext else s)

end Sys2Proof.Machine
end

