-- ==== Sys2Proof/Machine/ConsoleRequests.lean ====
section
/-! DEFINITION. The Console port's requests: ACK_ALARM (R163), CLEAR_ALARM (R164), SWEEP_CONFIRM (R84), FORCE_EXIT (R85), RESPONSE_ENTRY
(R166, R77), PANEL_TEXT (R174). -/

namespace Sys2Proof.Machine

/-! ## Alarms -/

/-- The record that holds an alarm number. -/
def Alarms.numbered (a : Alarms) (n : Nat) : Option AlarmRec := a.records.find? (·.number = n)

/-- R163: the answer carries the record's state and condition as they stand after the request; the condition is 1 for present and 0 for gone
(DESIGN CHOICE, notes/assumptions/48.md). -/
def ackReply (s : State) (n : Nat) : Reply :=
  { state := s, status := .ok,
    content :=
      match s.alarms.numbered n with
      | none => []
      | some r => alarmStateCode r.acknowledged :: flag1 r.condition }

/-- R163. -/
def decideAckAlarm : Decide := fun s _ payload =>
  match readNumber payload with
  | none => s.reply .badFormat
  | some n =>
    match s.alarms.numbered n with
    | none => s.reply .notFound
    | some r => ackReply (if r.acknowledged then s else s.acknowledgeAlarm r) n

/-- ACK_ALARM (R163). -/
def execAckAlarm (p : Port) (b : Byte) (s : State) : Host.Outcome State Fault Refusal :=
  .next (s.takeRequest p b 0x30 false (.only .console) decideAckAlarm)

/-- R164: the cases of CLEAR_ALARM on a record. -/
def State.clearRecord (s : State) (r : AlarmRec) : Reply :=
  if !r.acknowledged then s.reply .notAcknowledged
  else if r.condition then s.reply .stillActive
  else (s.clearAlarm r).reply .ok

/-- R164. -/
def decideClearAlarm : Decide := fun s _ payload =>
  match readNumber payload with
  | none => s.reply .badFormat
  | some n =>
    match s.alarms.numbered n with
    | none => s.reply .notFound
    | some r => s.clearRecord r

/-- CLEAR_ALARM (R164). -/
def execClearAlarm (p : Port) (b : Byte) (s : State) : Host.Outcome State Fault Refusal :=
  .next (s.takeRequest p b 0x31 false (.only .console) decideClearAlarm)

/-! ## Sweeps and forced exits -/

/-- R84: the list is none a sweep of the zone may carry. -/
def sweepListBad (r : ZoneRec) (persons : List Nat) : Bool :=
  16 < persons.length || persons.any (1023 < ·) || !decide persons.Nodup || r.cfg.limit < persons.length

/-- R84: a listed index holds a record, or is held by an entry marked deleted. -/
def State.indexKnown (s : State) (p : Nat) : Bool := (s.personAt p).isSome || (s.occupancy.entryOf p).any (·.deleted)

/-- R84: entries and reserved places over all zones as they would stand after the sweep. -/
def State.totalAfterSweep (s : State) (z : Zone) (persons : List Nat) : Nat :=
  (s.occupancy.entries.filter fun e => e.zone != z && e.person ∉ persons).length + persons.length
    + s.occupancy.reserved.toList.sum

/-- R84: what refuses a sweep of a configured zone, the first case that applies. -/
def State.sweepRefusal (s : State) (z : Zone) (r : ZoneRec) (persons : List Nat) : Option Status :=
  if sweepListBad r persons then some .badFormat
  else if persons.any fun p => !s.indexKnown p then some .notFound
  else if r.state = .discharge then some .wrongState
  else if r.cfg.limit < persons.length + s.occupancy.reserved[z] || 64 < s.totalAfterSweep z persons then some .zoneFull
  else none

/-- R84. -/
def decideSweepConfirm : Decide := fun s _ payload =>
  match readSweep payload with
  | none => s.reply .badFormat
  | some (n, persons) =>
    match s.zoneNamed n with
    | none => s.reply .notFound
    | some (z, r) =>
      match s.sweepRefusal z r persons with
      | some status => s.reply status
      | none => (s.sweep z persons).reply .ok

/-- SWEEP_CONFIRM (R84). -/
def execSweepConfirm (p : Port) (b : Byte) (s : State) : Host.Outcome State Fault Refusal :=
  .next (s.takeRequest p b 0x32 false (.only .console) decideSweepConfirm)

/-- R85; no index above 1023 has an entry. -/
def decideForceExit : Decide := fun s _ payload =>
  match readIndex payload with
  | none => s.reply .badFormat
  | some index =>
    match s.occupancy.entryOf index with
    | none => s.reply .notFound
    | some e => if 1023 < index then s.reply .notFound else (s.forceOut e).reply .ok

/-- FORCE_EXIT (R85). -/
def execForceExit (p : Port) (b : Byte) (s : State) : Host.Outcome State Fault Refusal :=
  .next (s.takeRequest p b 0x33 false (.only .console) decideForceExit)

/-! ## RESPONSE_ENTRY -/

/-- R166: the zone states a response may enter: ISOLATED with its entry hold clear, GUARDED, OCCUPIED_HOLD. -/
def responseMayEnter (r : ZoneRec) : Bool :=
  match r.state with
  | .isolated => !r.entryHold
  | .guarded | .occupiedHold => true
  | .countdown | .held | .discharge | .discharged => false

/-- R77: the grant of a response: a named person without duress mark and one place, or nobody and none. -/
def State.offerResponse (s : State) (d : Door) (r : DoorRec) (person : Option Person) : Reply :=
  match person with
  | none => installReply (s.offerGrant d r .response [] 0)
  | some p => installReply (s.offerGrant d r .response [{ person := p, duress := false }] 1)

/-- R166: the cases of RESPONSE_ENTRY at a configured door. -/
def State.respond (s : State) (d : Door) (r : DoorRec) (person : Option Person) : Reply :=
  if person.any fun p => (s.personAt p).isNone then s.reply .notFound
  else if (s.alarms.inZone r.cfg.inside).isEmpty then s.replyReason .noAlarm
  else if !(s.zones[r.cfg.inside]).any responseMayEnter then s.replyReason .zoneBarred
  else if r.state.faulty then s.replyReason .doorFault
  else if r.state != .secure then s.replyReason .doorBusy
  else if !s.partnerSecure r.cfg then s.reply .interlock
  else if person.isSome && !s.placesFree r.cfg.inside 1 then s.reply .zoneFull
  else s.offerResponse d r person

/-- R166. -/
def decideResponseEntry : Decide := fun s _ payload =>
  match readResponse payload with
  | none => s.reply .badFormat
  | some (n, person) =>
    match s.doorNamed n with
    | none => s.reply .notFound
    | some (d, r) => s.respond d r person

/-- RESPONSE_ENTRY (R166, R77). -/
def execResponseEntry (p : Port) (b : Byte) (s : State) : Host.Outcome State Fault Refusal :=
  .next (s.takeRequest p b 0x34 false (.only .console) decideResponseEntry)

/-! ## PANEL_TEXT -/

/-- R174. -/
def decidePanelText : Decide := fun s _ payload =>
  match readPanelText payload with
  | none => s.reply .badFormat
  | some (n, pair) =>
    match s.panelNamed n with
    | none => s.reply .notFound
    | some (z, r) =>
      if r.buffer.isSome then s.reply .busy else (s.updPanel z fun x => { x with buffer := some pair }).reply .ok

/-- PANEL_TEXT (R174). -/
def execPanelText (p : Port) (b : Byte) (s : State) : Host.Outcome State Fault Refusal :=
  .next (s.takeRequest p b 0x35 false (.only .console) decidePanelText)

end Sys2Proof.Machine
end

