-- ==== Sys2Proof/Machine/ContainerEvents.lean ====
section
/-! DEFINITION. The Container Monitor: CONTAINER_PULSE and STALE_EXPIRY (R137 to R147). -/

namespace Sys2Proof.Machine

/-! ## Decoding -/

/-- R137: where a measure saturates. -/
def pulseLimit : Nat := 1048575

/-- R138: a pulse is taken as a calibration. -/
def calibrationAccepted (nominal pulse : Nat) : Bool := 4 * nominal ≤ 5 * pulse && 5 * pulse ≤ 6 * nominal

/-- R139: a calibration moves too far from the last one. -/
def calibrationJumps (previous : Option Nat) (c : Nat) : Bool :=
  previous.any fun p => p < (max c p - min c p) * 64

/-- R141: a telegram is discarded: the reason and the time, in milliseconds since reset (DESIGN CHOICE, notes/assumptions/53.md), are recorded
and the decoder is HUNTING. -/
def ContainerRec.discard (r : ContainerRec) (reason : DiscardReason) (now : Nat) : ContainerRec :=
  { r with decoder := .hunting, lastDiscard := some (reason, now) }

/-- R138, R139: a pulse is examined in HUNTING. -/
def ContainerRec.hunt (r : ContainerRec) (nominal pulse now : Nat) : ContainerRec :=
  if !calibrationAccepted nominal pulse then { r with decoder := .hunting }
  else if calibrationJumps r.prevCalibration pulse then
    { r.discard .calJump now with prevCalibration := some pulse }
  else { r with decoder := .collecting pulse [], prevCalibration := some pulse }

/-- R140: the nibble value of a pulse against a calibration; none outside 0 to 15. -/
def nibbleOf (calibration pulse : Nat) : Option Nat :=
  let u := (pulse * 112 + calibration) / (2 * calibration)
  if 12 ≤ u && u ≤ 27 then some (u - 12) else none

/-- R143: the level found for an average from the level before. -/
def levelOf (c : ContainerCfg) (before : Option Level) (a : Nat) : Level :=
  match before with
  | some .low => if a < c.low + c.hysteresis then .low else if c.high < a then .high else .normal
  | some .high => if c.high < a + c.hysteresis then .high else if a < c.low then .low else .normal
  | some .normal => if a < c.low then .low else if c.high < a then .high else .normal
  | none => if a < c.low then .low else if c.high < a then .high else .normal

/-- R142: the readings after one more; a held set is removed first, and of four the oldest. -/
def ContainerRec.joined (r : ContainerRec) (reading : Nat) : List Nat :=
  let kept := if r.holdMark then [] else r.readings
  (if 4 ≤ kept.length then kept.drop 1 else kept) ++ [reading]

/-- R142, R143: a reading joins: marks, average and level. -/
def ContainerRec.addReading (r : ContainerRec) (reading : Nat) : ContainerRec :=
  let before := if r.holdMark then none else r.level
  let x := { r with readings := r.joined reading, holdMark := false, sensorFault := false }
  { x with level := x.average.map (levelOf r.cfg before) }

/-- R145: a sensor-fault telegram. -/
def ContainerRec.addFault (r : ContainerRec) : ContainerRec := { r with sensorFault := true, holdMark := true }

/-- R141, R144: a valid telegram. -/
def ContainerRec.validTelegram (r : ContainerRec) (status reading now : Nat) : ContainerRec :=
  let x := { r with staleExpiry := now + 500, stale := false, lastValid := some now, lastStatus := some status }
  if status < 8 then x.addReading reading else x.addFault

/-- R141: a completed telegram of five nibbles is judged, and the decoder is HUNTING. -/
def ContainerRec.complete (r : ContainerRec) (s d2 d1 d0 k now : Nat) : ContainerRec :=
  if k = 15 - (s + d2 + d1 + d0) % 16 then
    { r with decoder := .hunting }.validTelegram s (d2 * 256 + d1 * 16 + d0) now
  else r.discard .checkError now

/-- R140: a pulse is examined in COLLECTING. -/
def ContainerRec.collect (r : ContainerRec) (nominal calibration : Nat) (nibbles : List Nat) (pulse now : Nat) : ContainerRec :=
  match nibbleOf calibration pulse with
  | none => (r.discard .nibbleError now).hunt nominal pulse now
  | some v =>
    match nibbles with
    | [s, d2, d1, d0] => r.complete s d2 d1 d0 v now
    | _ => { r with decoder := .collecting calibration (nibbles ++ [v]) }

/-- R137: a falling edge; the first gives no pulse. -/
def ContainerRec.edge (r : ContainerRec) (nominal cycles now : Nat) : ContainerRec :=
  if !r.edgeSeen then { r with edgeSeen := true }
  else
    let pulse := min pulseLimit cycles
    match r.decoder with
    | .hunting => r.hunt nominal pulse now
    | .collecting c nibbles => r.collect nominal c nibbles pulse now

/-! ## States -/

/-- R146: the state the marks and the level give. -/
def ContainerRec.foundState (r : ContainerRec) : ContainerState :=
  if r.stale then .stale
  else if r.sensorFault then .sensorFault
  else
    match r.level with
    | none => .unknown
    | some .low => .low
    | some .normal => .normal
    | some .high => .high

/-- R147: the state a bank's healthy containers give. -/
def bankStateFor (healthy required : Nat) : BankState :=
  if healthy = 0 then .empty else if required ≤ healthy then .available else .degraded

/-- R147, R116: a bank's state is found afresh; a change is reported and recorded in every zone of the bank. -/
def State.refreshBank (s : State) (bank : Bank) : State :=
  let k := s.banks[bankIndex bank]
  let n := s.healthyCount bank
  let new := bankStateFor n k.cfg.required
  if new = k.state then s
  else
    let t := (s.updBank bank fun x => { x with state := new }).notify
      (.bankState bank new k.state n k.cfg.required (s.bankInService bank))
    t.forEach (List.finRange 8) fun z u =>
      u.updZone z fun r => if r.cfg.bank = bank then { r with bankState := new } else r

/-- R146: a CONTAINER_STATE notice; the average is given in kPa. -/
def containerBody (c : Container) (r : ContainerRec) (previous : ContainerState) : NoticeBody :=
  .containerState c r.cfg.bank r.state previous (r.average.map fun a => (a * 10, r.holdMark)) r.readings.length r.lastStatus

/-- R146: a container takes what an event made of it, and its state is found afresh; a change is reported, and then the bank's state
is found afresh. -/
def State.settleContainer (s : State) (c : Container) (previous : ContainerState) (r : ContainerRec) : State :=
  let x := { r with state := r.foundState }
  let t := s.updContainer c fun _ => x
  if x.state = previous then t
  else
    let u := t.notify (containerBody c x previous)
    match x.cfg.bank with
    | none => u
    | some bank => u.refreshBank bank

/-! ## The commands -/

/-- CONTAINER_PULSE (R137); the line of a container that is not configured is not decoded. -/
def execContainerPulse (c : Container) (cycles : Nat) (s : State) : Host.Outcome State Fault Refusal :=
  match s.containers.table[c] with
  | none => .next s
  | some r => .next (s.settleContainer c r.state (r.edge s.containers.nominal cycles s.nowMs))

/-- R144: the stale expiry is reached: the container is stale, its readings held, its sensor-fault mark cleared (R145). -/
def ContainerRec.expire (r : ContainerRec) : ContainerRec := { r with stale := true, holdMark := true, sensorFault := false }

/-- R144: the stale expiry of a container that is not stale yet has been reached. -/
def ContainerRec.staleDue (r : ContainerRec) (now : Nat) : Bool := !r.stale && r.staleExpiry ≤ now

/-- STALE_EXPIRY (R144). -/
def execStaleExpiry (c : Container) (s : State) : Host.Outcome State Fault Refusal :=
  match s.containers.table[c] with
  | none => .next s
  | some r => .next (if r.staleDue s.nowMs then s.settleContainer c r.state r.expire else s)

end Sys2Proof.Machine
end

