-- ==== Sys2Proof/Machine/DoorTimers.lean ====
section
/-! DEFINITION. The times a door record waits for: the unlock window (R36), the withdrawn-window end (R41), the held-open limit (R42),
the pairing window (R45), the denial display (R46). Each command acts once its time has been reached. -/

namespace Sys2Proof.Machine

/-- R36: the grant of a door in UNLOCKED lapses unused. -/
def State.lapseGrant (s : State) (d : Door) (r : DoorRec) (g : Grant) : State :=
  let t := s.updDoor d fun x => { x with grant := none, state := .secure }
  let t := t.releasePlaces r.cfg.inside g.places
  (t.refreshDrive d).notifyDoor d r.state .windowExpired (some g)

/-- UNLOCK_WINDOW_EXPIRY (R36). -/
def execUnlockWindowExpiry (d : Door) (s : State) : Host.Outcome State Fault Refusal :=
  match s.doors[d] with
  | none => .next s
  | some r =>
    match r.grant with
    | none => .next s
    | some g => .next (if r.state = .unlocked && g.expiry ≤ s.nowMs then s.lapseGrant d r g else s)

/-- WITHDRAWN_WINDOW_END (R41). -/
def execWithdrawnWindowEnd (d : Door) (s : State) : Host.Outcome State Fault Refusal :=
  .next (s.updDoor d fun r => { r with withdrawnEnd := r.withdrawnEnd.filter (s.nowMs < ·) })

/-- R42: an OPEN door's held-open limit has passed since its open-since time. -/
def DoorRec.heldLongEnough (r : DoorRec) (now : Nat) : Bool :=
  r.state == .opened && r.openSince.any fun t => t + r.cfg.heldOpenLimit * 1000 ≤ now

/-- HELD_OPEN_LIMIT (R42). -/
def execHeldOpenLimit (d : Door) (s : State) : Host.Outcome State Fault Refusal :=
  match s.doors[d] with
  | none => .next s
  | some r =>
    .next
      (if r.heldLongEnough s.nowMs then
        ((s.updDoor d fun x => { x with state := .heldOpen }).refreshDrive d).notifyDoor d r.state .heldOpen none
      else s)

/-- R45: a pairing record expires: ACCESS_DENIED with reason PAIR_TIMEOUT for its first person, and the denial display. -/
def State.expirePairing (s : State) (d : Door) (p : Pairing) : State :=
  let credential := ((s.personAt p.first.person).map (·.credential)).getD 0
  let t := s.updDoor d fun x => { x with pairing := none }
  (t.notify (.accessDenied d .entryRead credential (some p.first.person) .pairTimeout p.first.duress)).startDenial d

/-- PAIRING_EXPIRY (R45). -/
def execPairingExpiry (d : Door) (s : State) : Host.Outcome State Fault Refusal :=
  match (s.doors[d]).bind (·.pairing) with
  | none => .next s
  | some p => .next (if p.expiry ≤ s.nowMs then s.expirePairing d p else s)

/-- R46: a denial display whose end has been reached. -/
def DoorRec.denialOver (r : DoorRec) (now : Nat) : Bool := r.denialEnd.any (· ≤ now)

/-- DENIAL_DISPLAY_END (R46, R47). -/
def execDenialDisplayEnd (d : Door) (s : State) : Host.Outcome State Fault Refusal :=
  match s.doors[d] with
  | none => .next s
  | some r => .next (if r.denialOver s.nowMs then (s.updDoor d fun x => { x with denialEnd := none }).refreshDrive d else s)

end Sys2Proof.Machine
end

