-- ==== Sys2Proof/Machine/LineScan.lean ====
section
/-! DEFINITION. LINE_SCAN: measurement and classes (R1 to R3), debounce (R4), and the handing over of a reported change
(R5, R7 to R12). -/

namespace Sys2Proof.Machine

/-- R3: the hysteresis, in codes. -/
def hysteresisCodes : Nat := 4

/-- R2: the plain class of a code. -/
def LineCfg.plainClass (c : LineCfg) (code : Nat) : LineClass :=
  if code < c.t1 then .short
  else if code < c.t2 then .normal
  else if code < c.t3 then .active
  else .openCircuit

/-- R2: a class's lower threshold; SHORT has none. -/
def LineCfg.lower (c : LineCfg) : LineClass → Option Nat
  | .short => none
  | .normal => some c.t1
  | .active => some c.t2
  | .openCircuit => some c.t3

/-- R2: a class's upper threshold; OPEN_CIRCUIT has none. -/
def LineCfg.upper (c : LineCfg) : LineClass → Option Nat
  | .short => some c.t1
  | .normal => some c.t2
  | .active => some c.t3
  | .openCircuit => none

/-- R3: a class is kept while the code is below its upper threshold plus 4 and not below its lower threshold minus 4. -/
def LineCfg.keeps (c : LineCfg) (k : LineClass) (code : Nat) : Bool :=
  ((c.upper k).all fun t => code < t + hysteresisCodes) && ((c.lower k).all fun t => t ≤ code + hysteresisCodes)

/-- R3: the measured class of a scan, from the measured class before it. -/
def LineCfg.measure (c : LineCfg) (before : Option LineClass) (code : Nat) : LineClass :=
  match before with
  | none => c.plainClass code
  | some k => if c.keeps k code then k else c.plainClass code

/-- R4: the debounce count N of a role (section 1.3). -/
def LineRole.debounce : LineRole → Nat
  | .doorContact _ => 3
  | .egressHandle _ => 2
  | .abortStation _ => 5
  | .alarmButton _ => 5
  | .valveFeedback _ => 3
  | .unused => 3

/-- R4: the debounce advances by one scan whose measured class is `k`. -/
def LineRec.debounced (r : LineRec) (k : LineClass) : LineRec :=
  if r.reported = some k then { r with candidate := none, count := 0 }
  else
    let n := if r.candidate = some k then r.count + 1 else 1
    if r.cfg.role.debounce ≤ n then { r with reported := some k, candidate := none, count := 0 }
    else { r with candidate := some k, count := n }

/-- R1, R3, R4: a scan of the line gives `code` at the time `now`. -/
def LineRec.scanned (r : LineRec) (code : Byte) (now : Nat) : LineRec :=
  let k := r.cfg.measure r.measured code.toNat
  { r with code := some code, measured := some k, lastScan := some now }.debounced k

/-- R1: a line is measured every tenth tick: from ten ticks after its last measurement on it is due again (DEDUCED,
notes/assumptions/30.md). -/
def LineRec.scanDue (r : LineRec) (now : Nat) : Bool := r.lastScan.all fun t => t + 10 ≤ now

/-- R12: a reported change on a line whose role is not VALVE_FEEDBACK gives LINE_FAULT when either class is a fault class. -/
def lineFaultDue (role : LineRole) (previous : Option LineClass) (new : LineClass) : Bool :=
  match role with
  | .valveFeedback _ => false
  | _ => new.isFault || previous.any (·.isFault)

/-- R5, R12: the LINE_FAULT notice of a reported change, where it gives one. -/
def State.notifyLineFault (s : State) (l : Line) (role : LineRole) (previous : Option LineClass) (new : LineClass) : State :=
  if lineFaultDue role previous new then s.notify (.lineFault l role new previous new.isFault) else s

/-- R9: an abort station's change, handed to the Release Controller. -/
def State.abortReport (s : State) (z : Zone) (l : Line) (previous : Option LineClass) (new : LineClass) : State :=
  if new = .active then s.joinHoldLine z l
  else if previous = some .active then s.leaveHoldLine z l
  else s

/-- R10: an alarm button's change, handed to the Staff Alarm Unit. -/
def State.buttonReport (s : State) (z : Zone) (l : Line) (previous : Option LineClass) (new : LineClass) : State :=
  if new = .active then s.raiseAlarm .alarmButton (.line l) (some z)
  else if previous = some .active then s.conditionGone .alarmButton (.line l)
  else s

/-- R5, R6: a reported change goes to the block its role names; to nobody for UNUSED and for a target door or zone that is not
configured. -/
def State.handReport (s : State) (l : Line) (role : LineRole) (previous : Option LineClass) (new : LineClass) (stamp : Nat) :
    State :=
  match role with
  | .doorContact d => s.contactReport d previous new stamp
  | .egressHandle d => s.handleReport d new stamp
  | .abortStation z => if (s.zones[z]).isSome then s.abortReport z l previous new else s
  | .alarmButton z => if (s.zones[z]).isSome then s.buttonReport z l previous new else s
  | .valveFeedback o => s.feedbackReport o new
  | .unused => s

/-- R5: a scan that has changed the reported class from `previous` hands the change over. -/
def State.reportScan (s : State) (l : Line) (r : LineRec) (previous : Option LineClass) (stamp : Nat) : State :=
  match r.reported with
  | none => s
  | some new =>
    if previous = some new then s
    else (s.notifyLineFault l r.cfg.role previous new).handReport l r.cfg.role previous new stamp

/-- R1, R5: line `l` is measured. -/
def State.scanLine (s : State) (l : Line) (r : LineRec) (code : Byte) : State :=
  let x := r.scanned code s.nowMs
  (s.updLine l fun _ => x).reportScan l x r.reported s.nowMs

/-- LINE_SCAN (R1). A line that is not configured, or that was measured fewer than ten ticks ago, is not measured. -/
def execLineScan (l : Line) (code : Byte) (s : State) : Host.Outcome State Fault Refusal :=
  match s.lines[l] with
  | none => .next s
  | some r => .next (if s.isRunning && r.scanDue s.nowMs then s.scanLine l r code else s)

end Sys2Proof.Machine
end

