-- ==== Sys2Proof/Machine/OccupancyTimers.lean ====
section
/-! DEFINITION. The times of the Occupancy Unit: an entry's warning time and check-in deadline (R88), a zone's lone-occupant timer
(R89). -/

namespace Sys2Proof.Machine

/-- CHECKIN_WARNING_TIME (R88): the warning of the entry's zone is recomputed once 60 s before the deadline are reached. -/
def execCheckinWarningTime (person : Person) (s : State) : Host.Outcome State Fault Refusal :=
  match s.occupancy.entryOf person with
  | none => .next s
  | some e => .next (if e.deadline.any (· ≤ s.nowSec + 60) then s.refreshWarning e.zone else s)

/-- R88: an entry's deadline is reached: MISSED_CHECKIN is raised, and the deadline moves on by one period. -/
def State.missCheckin (s : State) (e : Entry) : State :=
  let t := s.raiseAlarm .missedCheckin (.person e.person) (some e.zone)
  let t := t.updOccupancy (·.updEntry e.person fun x => { x with deadline := some (s.nowSec + s.checkinPeriod e.zone) })
  t.refreshWarning e.zone

/-- CHECKIN_DEADLINE (R88). -/
def execCheckinDeadline (person : Person) (s : State) : Host.Outcome State Fault Refusal :=
  match s.occupancy.entryOf person with
  | none => .next s
  | some e => .next (if e.deadline.any (· ≤ s.nowSec) then s.missCheckin e else s)

/-- LONE_TIMER_EXPIRY (R89): the timer becomes expired and LONE_OCCUPANT is raised. -/
def execLoneTimerExpiry (z : Zone) (s : State) : Host.Outcome State Fault Refusal :=
  match s.occupancy.lone[z] with
  | .running p expiry =>
    .next
      (if expiry ≤ s.nowSec then (s.setLone z (.expired p)).raiseAlarm .loneOccupant (.person p) (some z)
      else s)
  | .notRunning => .next s
  | .expired _ => .next s

end Sys2Proof.Machine
end

