-- ==== Sys2Proof/Machine/PendantEvents.lean ====
section
/-! DEFINITION. The pendant line: its receiver (R150), the matching of telegrams (R151 to R153) and their handling (R154, R158,
R165). -/

namespace Sys2Proof.Machine

/-! ## Matching -/

/-- R153: the covered bytes of a telegram, in increasing position. -/
def coveredBytes (mask : BitVec 32) (telegram : List Byte) : List Byte :=
  (telegram.zipIdx.filter fun x => mask.getLsbD x.2).map (·.1)

/-- R153: one slot is tried: the kind and the pendant id where it matches. -/
def Pattern.tryMatch (p : Pattern) (telegram : List Byte) : Option (PendantKind × Nat) :=
  let covered := coveredBytes p.mask telegram
  if covered.isEmpty then none
  else if crc16 covered != p.crc then none
  else if telegram.length < p.offset + 3 then none
  else some (p.kind, numberOf ((telegram.drop p.offset).take 3))

/-- R153: the first slot to match decides. -/
def Alarms.matchTelegram (a : Alarms) (telegram : List Byte) : Option (PendantKind × Nat) :=
  (List.finRange 4).findSome? fun i => (a.slots[i]).tryMatch telegram

/-! ## Handling -/

/-- R154: the source of a pendant alarm: the person when known, else the pendant id. -/
def pendantSource (id : Nat) : Option Person → AlarmSource
  | some p => .person p
  | none => .pendant id

/-- R154, R158, R165: a matched telegram is handled by its kind. -/
def State.handleTelegram (s : State) (kind : PendantKind) (id : Nat) : State :=
  let person := s.byPendant id
  let source := pendantSource id person
  match kind with
  | .pendantDuress => s.raiseAlarm .pendantDuress source (person.bind s.personZone)
  | .manDown => s.raiseAlarm .manDown source (person.bind s.personZone)
  | .checkIn =>
    match person with
    | none => s
    | some p => s.checkIn p
  | .batteryLow => s.notify (.batteryLow id person)

/-- R151: a complete telegram. -/
def State.takeTelegram (s : State) (telegram : List Byte) : State :=
  match s.alarms.matchTelegram telegram with
  | none => s
  | some x => s.handleTelegram x.1 x.2

/-! ## The receiver -/

/-- R150: a discard with its reason and time, in milliseconds since reset (DESIGN CHOICE, notes/assumptions/53.md). -/
def Alarms.discard (a : Alarms) (reason : PendantDiscard) (now : Nat) (rx : PendantRx) : Alarms :=
  { a with rx := rx, lastDiscard := some (reason, now) }

/-- R150: a length in range. -/
def pendantLengthValid (n : Nat) : Bool := 8 ≤ n && n ≤ 32

/-- R150: a good byte that completes no telegram. -/
def Alarms.byte (a : Alarms) (b : Byte) : Alarms :=
  match a.rx with
  | .awaitingLength => if pendantLengthValid b.toNat then { a with rx := .receiving b.toNat [] } else a
  | .receiving n bytes => if bytes.length + 1 < n then { a with rx := .receiving n (bytes ++ [b]) } else a
  | .skipping => a

/-- PENDANT_LINE_BYTE_RECEIVED (R150). -/
def execPendantLineByteReceived (b : Byte) (s : State) : Host.Outcome State Fault Refusal :=
  .next (if s.isRunning then s.updAlarms (·.byte b) else s)

/-- PENDANT_TELEGRAM (R150, R151): the byte that makes the stored count reach the length. -/
def execPendantTelegram (b : Byte) (s : State) : Host.Outcome State Fault Refusal :=
  match s.alarms.rx with
  | .receiving n bytes =>
    .next
      (if bytes.length + 1 = n then
        (s.updAlarms fun a => { a with rx := .awaitingLength }).takeTelegram (bytes ++ [b])
      else s)
  | .awaitingLength => .next s
  | .skipping => .next s

/-- R150: a byte with a framing error, or a length byte out of range. -/
def Alarms.badByte (a : Alarms) (b : Byte) (framingError : Bool) (now : Nat) : Alarms :=
  match a.rx with
  | .awaitingLength =>
    if framingError then a.discard .serialError now .skipping
    else if pendantLengthValid b.toNat then a
    else a.discard .badLength now .skipping
  | .receiving _ _ => if framingError then a.discard .serialError now .skipping else a
  | .skipping => a

/-- PENDANT_BYTE_ERROR (R150). -/
def execPendantByteError (b : Byte) (framingError : Bool) (s : State) : Host.Outcome State Fault Refusal :=
  .next (if s.isRunning then s.updAlarms (·.badByte b framingError s.nowMs) else s)

/-- R150: a gap reaches 5 ms. -/
def Alarms.gap (a : Alarms) (now : Nat) : Alarms :=
  match a.rx with
  | .awaitingLength => a
  | .receiving _ _ => a.discard .cutShort now .awaitingLength
  | .skipping => { a with rx := .awaitingLength }

/-- PENDANT_GAP_TIMEOUT (R150). -/
def execPendantGapTimeout (s : State) : Host.Outcome State Fault Refusal :=
  .next (if s.isRunning then s.updAlarms (·.gap s.nowMs) else s)

end Sys2Proof.Machine
end

