-- ==== Sys2Proof/Machine/ReadRequests.lean ====
section
/-! DEFINITION. The requests every port may make: READ_STATUS (R185), READ_ZONE (R119, R134, R178), READ_DOOR (R50, R30), READ_OCCUPANCY
(R92), READ_ALARMS (R167), READ_BANKS (R148), READ_LINE (R13), FETCH_NOTICES (R188). -/

namespace Sys2Proof.Machine

/-- A read request that names one item by its number: BAD_FORMAT, NOT_FOUND, or OK with the item's fields. -/
def State.readItem {α : Type} (s : State) (payload : List Byte) (find : Nat → Option α) (content : α → List Byte) : Reply :=
  match readNumber payload with
  | none => s.reply .badFormat
  | some n =>
    match find n with
    | none => s.reply .notFound
    | some x => s.replyWith (content x)

/-- A read request without arguments: BAD_FORMAT, or OK with its fields. -/
def State.readAll (s : State) (payload : List Byte) (content : List Byte) : Reply :=
  match readNothing payload with
  | none => s.reply .badFormat
  | some () => s.replyWith content

/-! ## READ_STATUS -/

/-- R133, R185: a trouble condition by its position in R133's table, with its item. -/
def troubleField : Trouble → List Byte
  | .pathFault o => [0, byteOf o.val]
  | .abortLine l => [1, byteOf l.val]
  | .container c => [2, byteOf c.val]
  | .bank bank => [3, bankCode bank]
  | .configuration => [4]
  | .module m => [5, byteOf (m.val + 1)]
  | .notRecorded => [6]

/-- R199: a cadence step: its kind, then its value, which is 0 for END (notes/assumptions/26.md). -/
def stepField : CadenceStep → List Byte
  | .on n => 0 :: num1 n
  | .off n => 1 :: num1 n
  | .repeatBlock k => 2 :: num1 k
  | .endBlock => [3, 0]

/-- R178, R185: a cadence as validated: its step list, its tone, and whether it is the built-in default. -/
def cadenceField (c : Cadence) : List Byte := listField stepField c.steps ++ num1 c.tone ++ flag1 c.isDefault

/-- R185: what READ_STATUS gives once STARTUP_DONE has been queued. The trouble output's level is 1 for asserted (DESIGN CHOICE,
notes/assumptions/48.md). -/
def State.statusWhenRunning (s : State) (p : Port) : List Byte :=
  loadFlagsField s.loader.flags ++ flag1 s.troubleOutput ++ listField troubleField s.troubles ++ flag1 s.schedules.ready
    ++ flag1 s.link.quiet ++ s.link.cadences.toList.flatMap cadenceField ++ num1 (s.ports[portIndex p]).queue.length

/-- R185: what READ_STATUS gives. -/
def State.statusFields (s : State) (p : Port) : List Byte :=
  flag1 s.isRunning ++ num4 s.nowSec ++ optField dateTimeField s.time.tod
    ++ if s.isRunning then s.statusWhenRunning p else []

/-- R185. -/
def decideReadStatus : Decide := fun s p payload => s.readAll payload (s.statusFields p)

/-- READ_STATUS (R185), the one request decided before STARTUP_DONE. -/
def execReadStatus (p : Port) (b : Byte) (s : State) : Host.Outcome State Fault Refusal :=
  .next (s.takeRequest p b 0x01 true .all decideReadStatus)

/-! ## READ_ZONE -/

/-- R94, R190: a zone's configuration; a working-hours schedule of none is 16. -/
def ZoneCfg.fields (c : ZoneCfg) : List Byte :=
  one (bankCode c.bank) ++ num2 c.baseDelay ++ c.knots.toList.flatMap num2 ++ num1 c.uncertainLoad ++ num2 c.holdTime
    ++ num1 c.checkinPeriod ++ num1 c.limit ++ flag1 c.twoPerson ++ num2 c.loneGrace ++ num1 c.sweepWeight
    ++ num1 ((c.schedule.map (·.val)).getD 16)

/-- R91: a summary. -/
def Summary.fields (m : Summary) : List Byte := num1 m.count ++ flag1 m.uncertain ++ num1 m.reserved ++ num1 m.load

/-- R95: the items of a zone record; alarm records by their count alone on the Suppression port (R119). -/
def ZoneRec.fields (r : ZoneRec) (p : Port) : List Byte :=
  one (zoneStateCode r.state) ++ optField (one ∘ releaseKindCode) r.kind ++ optField num2 r.delay ++ optField num2 r.remaining
    ++ optField num4 r.dischargeStart ++ flag1 r.entryHold ++ lineSet r.holdLines ++ holdAlarmsField p r.holdAlarms
    ++ r.summary.fields ++ one (bankStateCode r.bankState) ++ flag1 r.selectorFault ++ flag1 r.mainFault

/-- R134: an output's fields; absent for one not in service. A feedback line that does not exist and a pending check of none are given by a
presence byte (DESIGN CHOICE, notes/assumptions/49.md). -/
def OutputRec.fields (r : OutputRec) : List Byte :=
  optField
    (fun x : OutputRec =>
      one (driveCodeOf x.drive) ++ optField (fun l : Line => num1 l.val) x.feedbackLine ++ optField (one ∘ classCode) x.feedback
        ++ optField (fun c : Check => one (checkCode c.kind) ++ num4 c.expiry) x.check
        ++ optField (one ∘ pathFaultCode) x.fault ++ flag1 x.feedbackLine.isNone)
    (if r.inService then some r else none)

/-- R174: a waiting console pair, as its code and value bytes. -/
def pairField : ConsolePair → List Byte
  | .text a b => [0x03, a, b]
  | .clearText => [0x04, 0, 0]

/-- R173, R178: a running cadence: which one, its position, slots left, and repeat stack from the bottom. -/
def runField (x : Fin 4 × CadenceRun) : List Byte :=
  num1 x.1.val ++ num1 x.2.position ++ num1 x.2.left
    ++ listField (fun e : Nat × Nat => num1 e.1 ++ num1 e.2) x.2.stack.reverse

/-- R178: a panel's fields. The last STATE pair stands as its display state, numbered from 0 by its place in R170 as in an answer and not as
on the link, and its seconds, without the code byte of the pair; the waiting console pair stands with its code (DESIGN CHOICE,
notes/assumptions/26.md). -/
def PanelRec.fields (r : PanelRec) : List Byte :=
  one (displayCode r.display) ++ num1 r.seconds
    ++ optField (fun x : Display × Nat => one (displayCode x.1) ++ num1 x.2) r.lastSent ++ num1 r.count ++ flag1 r.offOwed
    ++ optField runField (r.run.bind fun run => (cadenceOf r.display).map (·, run)) ++ optField pairField r.buffer

/-- R119, R134, R178: what READ_ZONE gives. -/
def State.zoneFields (s : State) (p : Port) (x : Zone × ZoneRec) : List Byte :=
  x.2.cfg.fields ++ x.2.fields p ++ one (modeCode s.schedules.modes[x.1]) ++ flag1 (s.valves.tests[x.1]).isSome
    ++ optField (fun t : TestRec => num4 t.start) s.valves.tests[x.1] ++ (s.valves.outputs[selectorOf x.1]).fields
    ++ ((s.link.panels[x.1]).map (·.fields)).getD []

/-- R119. -/
def decideReadZone : Decide := fun s p payload => s.readItem payload s.zoneNamed (s.zoneFields p)

/-- READ_ZONE (R119, R134, R178). -/
def execReadZone (p : Port) (b : Byte) (s : State) : Host.Outcome State Fault Refusal :=
  .next (s.takeRequest p b 0x02 false .all decideReadZone)

/-! ## READ_DOOR -/

/-- R32, R190: a door's configuration; an outside zone of none is 8, a partner of none is 16. -/
def DoorCfg.fields (c : DoorCfg) : List Byte :=
  zoneField c.inside ++ num1 ((c.outside.map (·.val)).getD 8) ++ num1 (c.module.val + 1)
    ++ num1 ((c.partner.map (·.val)).getD 16) ++ num1 c.weight ++ one (conditionCode c.condition) ++ num1 c.unlockWindow
    ++ num2 c.heldOpenLimit ++ num1 c.pairingWindow ++ one (pinRuleCode c.pinRule)

/-- R50: a grant record; duress marks only where they are shown. -/
def grantRecordField (marks : Bool) (g : Grant) : List Byte :=
  grantKindCode g.kind :: (listField (markedPerson marks) g.persons ++ num4 g.expiry ++ num1 g.places)

/-- R50: a pairing record; duress marks only where they are shown (notes/assumptions/33.md). -/
def pairingField (marks : Bool) (x : Pairing) : List Byte := markedPerson marks x.first ++ num4 x.expiry

/-- R50: the ports to which duress marks are shown. -/
def showsMarks : Port → Bool
  | .access | .console => true
  | .suppression => false

/-- R50: the door fields. The settled partner stands in its place of R32, the settled lines behind the configuration, each with a presence
byte (DESIGN CHOICE, notes/assumptions/49.md). The contact position is 1 for open and 0 for closed (DESIGN CHOICE,
notes/assumptions/48.md). -/
def DoorRec.fields (r : DoorRec) (p : Port) : List Byte :=
  r.cfg.fields ++ optField (fun l : Line => num1 l.val) r.contactLine ++ optField (fun l : Line => num1 l.val) r.handleLine
    ++ one (doorStateCode r.state) ++ optField (one ∘ openingKindCode) r.openingKind ++ optField num4 r.openSince
    ++ optField (grantRecordField (showsMarks p)) r.grant ++ optField (pairingField (showsMarks p)) r.pairing
    ++ optField num4 r.withdrawnEnd ++ optField flag1 r.contactOpen ++ flag1 r.denialEnd.isSome ++ optField driveField r.lastDrive

/-- R30: the module fields. -/
def ModuleRec.fields (r : ModuleRec) (m : Module) (waiting : Option Drive) : List Byte :=
  num1 (m.val + 1) ++ one (presenceCode r.online) ++ num1 r.failures ++ optField flag1 r.tamper
    ++ optField (one ∘ lockFeedbackCode) r.lockFeedback ++ optField flag1 r.toggle ++ optField driveField waiting

/-- R30: the pending drive of a module. -/
def Bus.pendingDrive (u : Bus) (m : Module) : Option Drive := (u.queue.find? (·.1 = m)).map (·.2)

/-- R50, R30: what READ_DOOR gives; no module fields for a door without a module. -/
def State.doorFields (s : State) (p : Port) (x : Door × DoorRec) : List Byte :=
  x.2.fields p
    ++ optField (fun f : List Byte => f)
      (x.2.module.bind fun m => (s.bus.modules[m]).map fun r => r.fields m (s.bus.pendingDrive m))

/-- R50. -/
def decideReadDoor : Decide := fun s p payload => s.readItem payload s.doorNamed (s.doorFields p)

/-- READ_DOOR (R50, R30). -/
def execReadDoor (p : Port) (b : Byte) (s : State) : Host.Outcome State Fault Refusal :=
  .next (s.takeRequest p b 0x03 false .all decideReadDoor)

/-! ## READ_OCCUPANCY -/

/-- R89: a lone-occupant timer's state by its position, with its person and expiry where present. -/
def loneField : LoneTimer → List Byte
  | .notRunning => 0 :: (optField num2 none ++ optField num4 none)
  | .running p expiry => 1 :: (optField num2 (some p) ++ optField num4 (some expiry))
  | .expired p => 2 :: (optField num2 (some p) ++ optField num4 none)

/-- R79: an occupancy entry; the duress mark only where it is shown (R92). -/
def entryField (marks : Bool) (e : Entry) : List Byte :=
  num2 e.person ++ zoneField e.zone ++ optField (fun d : Door => num1 d.val) e.door ++ num4 e.time ++ num1 e.weight
    ++ optField num2 e.partner ++ optField num4 e.deadline ++ (if marks then flag1 e.duress else []) ++ flag1 e.deleted

/-- R92: what READ_OCCUPANCY gives. -/
def State.occupancyFields (s : State) (p : Port) (x : Zone × ZoneRec) : List Byte :=
  (s.summaryOf x.1).fields ++ flag1 s.occupancy.warning[x.1] ++ loneField s.occupancy.lone[x.1]
    ++ listField (entryField (showsMarks p)) (s.occupancy.entriesIn x.1)

/-- R92. -/
def decideReadOccupancy : Decide := fun s p payload => s.readItem payload s.zoneNamed (s.occupancyFields p)

/-- READ_OCCUPANCY (R92). -/
def execReadOccupancy (p : Port) (b : Byte) (s : State) : Host.Outcome State Fault Refusal :=
  .next (s.takeRequest p b 0x04 false .all decideReadOccupancy)

/-! ## READ_ALARMS -/

/-- R155: an alarm record; its condition is 1 for present and 0 for gone (DESIGN CHOICE, notes/assumptions/48.md). -/
def alarmField (r : AlarmRec) : List Byte :=
  num1 r.number ++ one (alarmKindCode r.kind) ++ sourceField r.source ++ optField zoneField r.zone ++ num4 r.raised
    ++ num4 r.lastSeen ++ one (alarmStateCode r.acknowledged) ++ flag1 r.condition

/-- R152, R167: a pattern slot. -/
def patternField (x : Pattern) : List Byte :=
  num4 x.mask.toNat ++ num2 x.crc.toNat ++ one (pendantKindCode x.kind) ++ num1 x.offset ++ flag1 (x.mask = 0)

/-- R167: the alarms on the Console and Access ports. -/
def Alarms.fields (a : Alarms) : List Byte :=
  listField alarmField a.records ++ num1 a.nextNumber ++ flag1 a.notRecorded ++ a.slots.toList.flatMap patternField
    ++ one (pendantRxCode a.rx)
    ++ optField (fun x : PendantDiscard × Nat => one (pendantDiscardCode x.1) ++ num4 x.2) a.lastDiscard

/-- R167: the alarms on the Suppression port: for each configured zone its number, its records and those that hold. -/
def State.alarmCounts (s : State) : List Byte :=
  listField
      (fun z : Zone =>
        zoneField z ++ num1 (s.alarms.inZone z).length ++ num1 ((s.alarms.inZone z).filter (·.holds)).length)
      s.configuredZones
    ++ flag1 s.alarms.notRecorded

/-- R167: what READ_ALARMS gives. -/
def State.alarmFields (s : State) : Port → List Byte
  | .access | .console => s.alarms.fields
  | .suppression => s.alarmCounts

/-- R167. -/
def decideReadAlarms : Decide := fun s p payload => s.readAll payload (s.alarmFields p)

/-- READ_ALARMS (R167). -/
def execReadAlarms (p : Port) (b : Byte) (s : State) : Host.Outcome State Fault Refusal :=
  .next (s.takeRequest p b 0x05 false .all decideReadAlarms)

/-! ## READ_BANKS -/

/-- R148: a bank with its main valve. -/
def State.bankFields (s : State) (bank : Bank) : List Byte :=
  let k := s.banks[bankIndex bank]
  one (bankStateCode k.state) ++ num1 (s.healthyCount bank) ++ num1 k.cfg.required ++ flag1 (s.bankInService bank)
    ++ (s.valves.outputs[mainValveOf bank]).fields ++ set2 k.discharging ++ optField num4 k.minOnEnd

/-- R148: a container. The hold mark stands with the average, and is left out with it (DESIGN CHOICE, notes/assumptions/47.md). -/
def containerField (x : Container × ContainerRec) : List Byte :=
  num1 x.1.val ++ one (containerBankCode x.2.cfg.bank) ++ num2 x.2.cfg.low ++ num2 x.2.cfg.high ++ num1 x.2.cfg.hysteresis
    ++ one (containerStateCode x.2.state) ++ listField (fun a => num2 (a * 10)) x.2.readings
    ++ optField averageField (x.2.average.map fun a => (a * 10, x.2.holdMark)) ++ optField (one ∘ levelCode) x.2.level
    ++ optField num1 x.2.lastStatus ++ optField num2 x.2.prevCalibration ++ optField num4 x.2.lastValid ++ num4 x.2.staleExpiry
    ++ optField (fun d : DiscardReason × Nat => one (discardCode d.1) ++ num4 d.2) x.2.lastDiscard

/-- R148: what READ_BANKS gives. N stands behind the banks and before the containers (DESIGN CHOICE, notes/assumptions/47.md). -/
def State.banksFields (s : State) : List Byte :=
  allBanks.flatMap s.bankFields ++ num2 s.containers.nominal ++ listField containerField s.containers.configured

/-- R148. -/
def decideReadBanks : Decide := fun s _ payload => s.readAll payload s.banksFields

/-- READ_BANKS (R148, R134). -/
def execReadBanks (p : Port) (b : Byte) (s : State) : Host.Outcome State Fault Refusal :=
  .next (s.takeRequest p b 0x06 false .all decideReadBanks)

/-! ## READ_LINE -/

/-- R13: what READ_LINE gives. -/
def lineFields (x : Line × LineRec) : List Byte :=
  num1 x.1.val ++ roleField x.2.cfg.role ++ num1 x.2.cfg.t1 ++ num1 x.2.cfg.t2 ++ num1 x.2.cfg.t3 ++ optField one x.2.code
    ++ optField (one ∘ classCode) x.2.measured ++ optField (one ∘ classCode) x.2.reported
    ++ optField (fun k : LineClass => one (classCode k) ++ num1 x.2.count) x.2.candidate

/-- R13. -/
def decideReadLine : Decide := fun s _ payload => s.readItem payload s.lineNamed lineFields

/-- READ_LINE (R13). -/
def execReadLine (p : Port) (b : Byte) (s : State) : Host.Outcome State Fault Refusal :=
  .next (s.takeRequest p b 0x07 false .all decideReadLine)

/-! ## FETCH_NOTICES -/

/-- R188: how many notices from the front of a queue are taken: at most `room` of them, filling at most `space` bytes. -/
def noticesTaken (p : Port) : Nat → Nat → List Notice → Nat
  | 0, _, _ => 0
  | _ + 1, _, [] => 0
  | room + 1, space, n :: rest =>
    if (n.encode p).length ≤ space then noticesTaken p room (space - (n.encode p).length) rest + 1 else 0

/-- R188: at most eight notices, in one segment behind their count. -/
def fetchCount (p : Port) (queue : List Notice) : Nat := noticesTaken p 8 (segmentContent - 1) queue

/-- R188. -/
def decideFetchNotices : Decide := fun s p payload =>
  match readNothing payload with
  | none => s.reply .badFormat
  | some () =>
    let queue := (s.ports[portIndex p]).queue
    let n := fetchCount p queue
    { state := s.updPort p fun r => { r with queue := r.queue.drop n }, status := .ok,
      content := listField (·.encode p) (queue.take n) }

/-- FETCH_NOTICES (R188). -/
def execFetchNotices (p : Port) (b : Byte) (s : State) : Host.Outcome State Fault Refusal :=
  .next (s.takeRequest p b 0x08 false .all decideFetchNotices)

end Sys2Proof.Machine
end

