-- ==== Sys2Proof/Machine/SlotEvents.lean ====
section
/-! DEFINITION. SLOT_BOUNDARY: the slot stream and quiet mode of the warning-panel link (R169, R172, R176, R177). -/

namespace Sys2Proof.Machine

/-- R176: the boundaries from one REFRESH to the next. -/
def refreshInterval : Nat := 100

/-- R176: the link becomes QUIET, and the boundary carries REFRESH. -/
def State.fallQuiet (s : State) : State :=
  { s with link := { s.link with quiet := true, sinceRefresh := 0, frame := some refreshFrame } }

/-- R176: a boundary in QUIET at which every panel is idle. -/
def State.quietBoundary (s : State) : State :=
  if refreshInterval ≤ s.link.sinceRefresh + 1 then
    { s with link := { s.link with sinceRefresh := 0, frame := some refreshFrame } }
  else { s with link := { s.link with sinceRefresh := s.link.sinceRefresh + 1, frame := none } }

/-- R177: the link returns to SERVICE with the slot of P0. -/
def State.returnToService (s : State) : State := { s with link := { s.link with quiet := false } }.serveSlot 0

/-- R169, R176, R177: a boundary of the slot clock. -/
def State.takeBoundary (s : State) : State :=
  if s.link.quiet then if s.link.allIdle then s.quietBoundary else s.returnToService
  else if s.link.allIdle then s.fallQuiet
  else s.serveSlot s.link.nextSlot

/-- SLOT_BOUNDARY (R169): once the time of the next boundary has come. -/
def execSlotBoundary (s : State) : Host.Outcome State Fault Refusal :=
  .next
    (if s.isRunning && s.link.nextBoundary ≤ s.nowMs then
      { s with link := { s.link with nextBoundary := s.link.nextBoundary + 50 } }.takeBoundary
    else s)

end Sys2Proof.Machine
end

