-- ==== Sys2Proof/Config.lean ====
section
/-! DEFINITION. What the manual leaves open: the free values, constants with no body, of which nothing can be proved. -/

namespace Sys2Proof

/-- Where a configuration record would extend beyond address 4095 (R198), the manual does not say how many of its bytes
the loader has read when it ends the load; STARTUP_DONE reports that count (R200).
DESIGN CHOICE: a FREE VALUE of the record's address and length byte (notes/assumptions/8.md). -/
opaque Config.overrunBytesRead (addr length : Nat) : Nat

/-- A load may end between two carries of the accumulator (R194), and no command of the table says how many cycles of the reference clock
have passed by then since the latest carry.
DESIGN CHOICE: a FREE VALUE for each load that ends, by its number (notes/assumptions/4.md). -/
opaque Config.cyclesBeforeLoadEnd (load : Nat) : Nat

end Sys2Proof
end

