-- ==== Sys2Proof/Machine/Loader.lean ====
section
/-! DEFINITION. The configuration memory's records (R198, R199): what one record of bytes comes to, and the fields of each kind. -/

namespace Sys2Proof.Machine

/-! ## Reading fields -/

/-- The data bytes of a record not yet read, and whether a field has been clamped. -/
structure Fields where
  rest : List Byte
  clamped : Bool
  deriving DecidableEq, Repr

/-- The next field of `size` bytes; none when the data end before its last byte, and then nothing is left
(notes/assumptions/9.md). -/
def Fields.next (f : Fields) (size : Nat) : Option Nat × Fields :=
  if f.rest.length < size then (none, { f with rest := [] })
  else (some (numberOf (f.rest.take size)), { f with rest := f.rest.drop size })

/-- A number clamped to a range, and whether that changed it (R199). -/
def clampTo (low high n : Nat) : Nat × Bool := (max low (min high n), n < low || high < n)

/-- The next field, clamped to its range; its default when missing. -/
def Fields.number (f : Fields) (size low high dflt : Nat) : Nat × Fields :=
  match f.next size with
  | (none, g) => (dflt, g)
  | (some n, g) => ((clampTo low high n).1, { g with clamped := g.clamped || (clampTo low high n).2 })

/-- The next field, clamped to its range, for a field that has no default: none when missing. -/
def Fields.required (f : Fields) (size low high : Nat) : Option (Nat × Fields) :=
  match f.next size with
  | (none, _) => none
  | (some n, g) => some ((clampTo low high n).1, { g with clamped := g.clamped || (clampTo low high n).2 })

/-- R199: data bytes beyond the last field are ignored, and flagged. -/
def Fields.finish (f : Fields) : Bool := f.clamped || !f.rest.isEmpty

/-- A record's data before any field has been read. -/
def Fields.start (data : List Byte) : Fields := { rest := data, clamped := false }

/-! ## The kinds of record -/

/-- The last item of a number's range as a member of `Fin`. -/
def finOf (n : Nat) (k : Nat) [NeZero n] : Fin n := Fin.ofNat n k

/-- A number below the limit, or none at the limit (R190). -/
def numberOrNone (n : Nat) (k : Nat) [NeZero n] : Option (Fin n) := if k < n then some (Fin.ofNat n k) else none

/-- R199: TIMEBASE, with the range of R194. -/
def readTimebase (data : List Byte) : Nat × Bool :=
  let (f, x) := (Fields.start data).number 4 4000000 50000000 25000000
  (f, x.finish)

/-- R199: the highest target of a role: a door, a zone or an output; a target of UNUSED is disregarded. -/
def targetLimit (role : Nat) : Nat :=
  match role with
  | 0 | 1 => 15
  | 2 | 3 => 7
  | 4 => 9
  | _ => 255

/-- R6: a role with its target. -/
def roleOf (role target : Nat) : LineRole :=
  match role with
  | 0 => .doorContact (finOf 16 target)
  | 1 => .egressHandle (finOf 16 target)
  | 2 => .abortStation (finOf 8 target)
  | 3 => .alarmButton (finOf 8 target)
  | 4 => .valveFeedback (finOf 10 target)
  | _ => .unused

/-- R2: three thresholds may be taken. -/
def thresholdsValid (t1 t2 t3 : Nat) : Bool :=
  1 ≤ t1 && t1 ≤ 254 && 1 ≤ t2 && t2 ≤ 254 && 1 ≤ t3 && t3 ≤ 254 && t1 < t2 && t2 < t3

/-- R2, R199: LINE. A missing threshold takes its default before the three are judged (notes/assumptions/10.md). -/
def readLineRecord (data : List Byte) : Option (LineCfg × Bool) := do
  let (role, f) ← (Fields.start data).required 1 0 5
  let (target, f) ← f.required 1 0 (targetLimit role)
  let (t1, f) := f.number 1 0 255 20
  let (t2, f) := f.number 1 0 255 100
  let (t3, f) := f.number 1 0 255 180
  if thresholdsValid t1 t2 t3 then
    return ({ role := roleOf role target, t1 := t1, t2 := t2, t3 := t3 }, f.finish)
  else return ({ role := roleOf role target, t1 := 20, t2 := 100, t3 := 180 }, true)

/-- R32: entry conditions by position. -/
def conditionOf : Nat → EntryCondition
  | 0 => .any
  | 1 => .never
  | 2 => .work
  | 3 => .after
  | 4 => .empty
  | 5 => .peopled
  | 6 => .quiet
  | 7 => .agent
  | _ => .responder

/-- R32: PIN rules by position. -/
def pinRuleOf : Nat → PinRule
  | 0 => .never
  | 1 => .afterHours
  | _ => .always

/-- R32, R199: DOOR. -/
def readDoorRecord (data : List Byte) : Option (DoorCfg × Bool) := do
  let (inside, f) ← (Fields.start data).required 1 0 7
  let (outside, f) := f.number 1 0 8 8
  let (module, f) ← f.required 1 1 16
  let (partner, f) := f.number 1 0 16 16
  let (weight, f) := f.number 1 0 15 1
  let (condition, f) := f.number 1 0 8 0
  let (unlock, f) := f.number 1 3 30 8
  let (held, f) := f.number 2 10 600 45
  let (pairing, f) := f.number 1 5 60 20
  let (pin, f) := f.number 1 0 2 0
  pure
    ({ inside := finOf 8 inside, outside := numberOrNone 8 outside, module := finOf 16 (module - 1),
       partner := numberOrNone 16 partner, weight := weight, condition := conditionOf condition, unlockWindow := unlock,
       heldOpenLimit := held, pairingWindow := pairing, pinRule := pinRuleOf pin }, f.finish)

/-- R94: banks by position. -/
def bankOfNumber : Nat → Bank
  | 0 => .bankA
  | _ => .bankB

/-- R94, R199: ZONE. The two-person mark is read as a number from 0 to 1: a byte above 1 is clamped to 1, the mark set, and flagged (DESIGN
CHOICE, notes/assumptions/25.md and 60.md). -/
def readZoneRecord (data : List Byte) : ZoneCfg × Bool :=
  let (bank, f) := (Fields.start data).number 1 0 1 0
  let (base, f) := f.number 2 0 1200 300
  let (y1, f) := f.number 2 0 1200 60
  let (y2, f) := f.number 2 0 1200 120
  let (y3, f) := f.number 2 0 1200 180
  let (y4, f) := f.number 2 0 1200 240
  let (y5, f) := f.number 2 0 1200 300
  let (y6, f) := f.number 2 0 1200 360
  let (y7, f) := f.number 2 0 1200 420
  let (u, f) := f.number 1 0 255 64
  let (h, f) := f.number 2 30 300 60
  let (checkin, f) := f.number 1 5 60 30
  let (limit, f) := f.number 1 1 16 4
  let (two, f) := f.number 1 0 1 0
  let (lone, f) := f.number 2 30 600 120
  let (sweep, f) := f.number 1 0 15 4
  let (sched, f) := f.number 1 0 16 16
  ({ bank := bankOfNumber bank, baseDelay := base, knots := #v[y1, y2, y3, y4, y5, y6, y7], uncertainLoad := u,
     holdTime := h, checkinPeriod := checkin, limit := limit, twoPerson := two = 1, loneGrace := lone, sweepWeight := sweep,
     schedule := numberOrNone 16 sched }, f.finish)

/-- R199: BANK, with the ranges of R121 and R136. -/
def readBankRecord (data : List Byte) : BankCfg × Bool :=
  let (tMin, f) := (Fields.start data).number 2 60 600 180
  let (required, f) := f.number 1 1 8 1
  ({ tMin := tMin, required := required }, f.finish)

/-- R136, R199: CONTAINER; a low threshold not below the high one gives both defaults. -/
def readContainerRecord (data : List Byte) : ContainerCfg × Bool :=
  let (bank, f) := (Fields.start data).number 1 0 2 2
  let (low, f) := f.number 2 0 4095 400
  let (high, f) := f.number 2 0 4095 600
  let (hysteresis, f) := f.number 1 0 255 10
  let assigned := if bank = 2 then none else some (bankOfNumber bank)
  if low < high then ({ bank := assigned, low := low, high := high, hysteresis := hysteresis }, f.finish)
  else ({ bank := assigned, low := 400, high := 600, hysteresis := hysteresis }, true)

/-- R152: pendant telegram kinds by position. -/
def pendantKindOf : Nat → PendantKind
  | 0 => .pendantDuress
  | 1 => .manDown
  | 2 => .checkIn
  | _ => .batteryLow

/-- R152, R199: PATTERN; every field is required. -/
def readPatternRecord (data : List Byte) : Option (Pattern × Bool) := do
  let (mask, f) ← (Fields.start data).required 4 0 4294967295
  let (crc, f) ← f.required 2 0 65535
  let (kind, f) ← f.required 1 0 3
  let (offset, f) ← f.required 1 0 29
  pure
    ({ mask := BitVec.ofNat 32 mask, crc := BitVec.ofNat 16 crc, kind := pendantKindOf kind, offset := offset }, f.finish)

/-- R175, R199: one cadence step: its kind byte and its value byte. -/
def readStep (f : Fields) : Option (CadenceStep × Fields) := do
  let (kind, f) ← f.required 1 0 3
  match kind with
  | 0 => let (n, f) ← f.required 1 1 15; return (.on n, f)
  | 1 => let (n, f) ← f.required 1 1 15; return (.off n, f)
  | 2 => let (k, f) ← f.required 1 2 15; return (.repeatBlock k, f)
  | _ => let (_, f) ← f.required 1 0 255; return (.endBlock, f)

/-- R199: a number of steps one after the other. -/
def readSteps : Nat → Fields → Option (List CadenceStep × Fields)
  | 0, f => some ([], f)
  | n + 1, f => do
    let (x, f) ← readStep f
    let (rest, f) ← readSteps n f
    return (x :: rest, f)

/-- R175, R199: CADENCE; tone and step list are required. -/
def readCadenceRecord (data : List Byte) : Option (Cadence × Bool) := do
  let (tone, f) ← (Fields.start data).required 1 1 15
  let (count, f) ← f.required 1 0 255
  let (steps, f) ← readSteps count f
  return ({ tone := tone, steps := steps, isDefault := false }, f.finish)

/-! ## Taking a record -/

/-- R198: a kind above 0x08, or an index outside the kind's range. -/
def recordKnown (kind index : Nat) : Bool :=
  match kind with
  | 1 => index = 0
  | 2 => index < 64
  | 3 => index < 16
  | 4 => index < 8
  | 5 => index < 2
  | 6 => index < 8
  | 7 => index < 4
  | 8 => index < 4
  | _ => false

/-- R199: a known record is stored, replacing an earlier one of its kind and index; none when a field without a default is missing. The
mark says a field was clamped or bytes stood beyond the last field. -/
def Records.store (r : Records) (kind index : Nat) (data : List Byte) : Option (Records × Bool) :=
  match kind with
  | 1 => let (x, c) := readTimebase data; some ({ r with fRef := some x }, c)
  | 2 => (readLineRecord data).map fun x => ({ r with lines := r.lines.put (finOf 64 index) (some x.1) }, x.2)
  | 3 => (readDoorRecord data).map fun x => ({ r with doors := r.doors.put (finOf 16 index) (some x.1) }, x.2)
  | 4 => let x := readZoneRecord data; some ({ r with zones := r.zones.put (finOf 8 index) (some x.1) }, x.2)
  | 5 => let x := readBankRecord data; some ({ r with banks := r.banks.put (finOf 2 index) (some x.1) }, x.2)
  | 6 => let x := readContainerRecord data; some ({ r with containers := r.containers.put (finOf 8 index) (some x.1) }, x.2)
  | 7 => (readPatternRecord data).map fun x => ({ r with patterns := r.patterns.put (finOf 4 index) (some x.1) }, x.2)
  | 8 => (readCadenceRecord data).map fun x => ({ r with cadences := r.cadences.put (finOf 4 index) (some x.1) }, x.2)
  | _ => none

/-- R198, R199: what becomes of a whole record whose check holds. A record that is skipped for want of a later field sets
CONFIG_UNKNOWN_RECORD alone, though an earlier field of it would have been clamped (DESIGN CHOICE, notes/assumptions/57.md). -/
def Loader.take (l : Loader) (kind index : Nat) (data : List Byte) : Loader :=
  match if recordKnown kind index then l.records.store kind index data else none with
  | none => { l with flags := { l.flags with unknownRecord := true } }
  | some (r, clamped) =>
    { l with
      records := r, recordsTaken := l.recordsTaken + 1,
      flags := { l.flags with clamped := l.flags.clamped || clamped } }

/-- R198: the load ends with CONFIG_INCOMPLETE after `read` bytes in all. -/
def Loader.incomplete (l : Loader) (read : Nat) : Loader :=
  { l with bytesRead := read, flags := { l.flags with incomplete := true } }

/-- R200: the bytes read, in all, when a record would extend beyond address 4095: at least its first byte, at most the whole memory;
within that the manual leaves the count open, and it is free (notes/assumptions/8.md). -/
def overrunRead (address length : Nat) : Nat := address + 1 + Config.overrunBytesRead address length % (4096 - address)

/-- R198: a record other than STOP, of which the memory answers `bytes`, is read. The mark says that loading ends with it. -/
def Loader.readRecord (l : Loader) (bytes : List Byte) : Loader × Bool :=
  match bytes with
  | kind :: index :: length :: body =>
    let size := length.toNat + 4
    if bytes.length < size then
      if l.address + bytes.length < 4096 then (l.incomplete (l.address + bytes.length), true)
      else (l.incomplete (overrunRead l.address length.toNat), true)
    else if 60 < length.toNat || !checkHolds (bytes.take size) then (l.incomplete (l.address + size), true)
    else
      let x := l.take kind.toNat index.toNat (body.take length.toNat)
      ({ x with address := l.address + size, bytesRead := l.address + size }, l.address + size = 4096)
  | _ =>
    if l.address + bytes.length < 4096 then (l.incomplete (l.address + bytes.length), true)
    else (l.incomplete (overrunRead l.address 0), true)

/-- R198: the next record, of which the memory answers `bytes` up to its end or its silence. The mark says that loading ends. -/
def Loader.read (l : Loader) (bytes : List Byte) : Loader × Bool :=
  match bytes.take (4096 - l.address) with
  | [] =>
    if l.address = 0 then ({ l with flags := { l.flags with absent := true } }, true)
    else (l.incomplete l.address, true)
  | kind :: rest =>
    if kind = 0 then ({ l with address := l.address + 1, bytesRead := l.address + 1 }, true)
    else l.readRecord (kind :: rest)

end Sys2Proof.Machine
end

