-- ==== Sys2Proof/Machine/Startup.lean ====
section
/-! DEFINITION. Resets (R197) and the end of loading: what each block settles (R6, R15, R32, R121, R136, R175), the values each
configured item starts with, and STARTUP_DONE (R200). -/

namespace Sys2Proof.Machine

/-! ## Cross-checks -/

/-- R32: a door whose zones are configured and differ stays configured. -/
def Records.doorStands (r : Records) (c : DoorCfg) : Bool :=
  (r.zones[c.inside]).isSome
    && (match c.outside with
        | none => true
        | some z => (r.zones[z]).isSome && z != c.inside)

/-- R32: the zones are settled first. -/
def Records.settleDoors (r : Records) : Records :=
  { r with doors := r.doors.map fun x => x.filter r.doorStands }

/-- R6: how many lines of a role with one target there may be; none where no limit stands. A door or zone that is not configured has
no lines to count (notes/assumptions/12.md). -/
def Records.roleLimit (r : Records) : LineRole → Option Nat
  | .doorContact d => if (r.doors[d]).isSome then some 1 else none
  | .egressHandle d => if (r.doors[d]).isSome then some 1 else none
  | .abortStation z => if (r.zones[z]).isSome then some 8 else none
  | .valveFeedback _ => some 1
  | .alarmButton _ => none
  | .unused => none

/-- R6: line `l` keeps its role while fewer lower-numbered lines than the limit have it. Lower lines of the same role beyond the limit
are UNUSED by then, which cannot free a place. -/
def Records.keepsRole (r : Records) (l : Line) (c : LineCfg) : Bool :=
  match r.roleLimit c.role with
  | none => true
  | some n => ((List.finRange 64).filter fun k => k < l && (r.lines[k]).any (·.role = c.role)).length < n

/-- R6: the configuration of a line once the roles are settled. -/
def Records.settledLine (r : Records) (l : Line) : Option LineCfg :=
  (r.lines[l]).map fun c => if r.keepsRole l c then c else { c with role := .unused }

/-- The lines with a role settled for a target. -/
def Records.lineWith (r : Records) (role : LineRole) : Option Line :=
  (List.finRange 64).find? fun l => (r.settledLine l).any (·.role = role)

/-- R15: a door's module, unless a lower-numbered configured door names the same address. -/
def Records.settledModule (r : Records) (d : Door) (c : DoorCfg) : Option Module :=
  if (List.finRange 16).any fun e => e < d && (r.doors[e]).any (·.module = c.module) then none else some c.module

/-- R32: a partner is kept when it is configured, another door, and names this door. -/
def Records.settledPartner (r : Records) (d : Door) (c : DoorCfg) : Option Door :=
  c.partner.filter fun p => p != d && (r.doors[p]).any (·.partner = some d)

/-- R121: an output is in service: a selector with its zone, a main valve with a zone of its bank. -/
def Records.outputServes (r : Records) (o : Output) : Bool :=
  match selectorZone o with
  | some z => (r.zones[z]).isSome
  | none => (List.finRange 8).any fun z => (r.zones[z]).any fun c => mainValveBank o = some c.bank

/-- The BANK record of a bank, or its default. -/
def Records.bankCfg (r : Records) (bank : Bank) : BankCfg := (r.banks[bankIndex bank]).getD .default

/-- R136: the configured containers of a bank. -/
def Records.assigned (r : Records) (bank : Bank) : Nat :=
  ((List.finRange 8).filter fun c => (r.containers[c]).any (·.bank = some bank)).length

/-- R136: a bank's R_b exceeds its containers. -/
def Records.requiredTooHigh (r : Records) (bank : Bank) : Bool :=
  0 < r.assigned bank && r.assigned bank < (r.bankCfg bank).required

/-- R136: a bank's configuration with R_b settled. -/
def Records.settledBank (r : Records) (bank : Bank) : BankCfg :=
  if r.requiredTooHigh bank then { r.bankCfg bank with required := r.assigned bank } else r.bankCfg bank

/-- R175: the list read once in order, from a number of open blocks. -/
def blocksClose : List CadenceStep → Nat → Bool
  | [], opened => opened = 0
  | .on _ :: rest, opened => blocksClose rest opened
  | .off _ :: rest, opened => blocksClose rest opened
  | .repeatBlock _ :: rest, opened => opened < 3 && blocksClose rest (opened + 1)
  | .endBlock :: rest, opened => 0 < opened && blocksClose rest (opened - 1)

/-- ON and OFF are the timed steps. -/
def CadenceStep.timed : CadenceStep → Bool
  | .on _ | .off _ => true
  | .repeatBlock _ | .endBlock => false

/-- R175: a cadence passes validation. -/
def Cadence.validates (c : Cadence) : Bool := c.steps.length ≤ 16 && blocksClose c.steps 0 && c.steps.any (·.timed)

/-- R175: a cadence as validated. -/
def Records.settledCadence (r : Records) (i : Fin 4) : Cadence :=
  match r.cadences[i] with
  | some c => if c.validates then c else .builtIn i.val
  | none => .builtIn i.val

/-- R199: a cross-check at the end of loading sets CONFIG_CLAMPED: `before` are the records as taken, `r` those whose doors are
settled. -/
def crossChecksFail (before r : Records) : Bool :=
  ((List.finRange 16).any fun d => (before.doors[d]).isSome && (r.doors[d]).isNone)
  || ((List.finRange 64).any fun l => (r.lines[l]).any fun c => !r.keepsRole l c)
  || ((List.finRange 16).any fun d => (r.doors[d]).any fun c =>
      (r.settledModule d c).isNone || r.settledPartner d c != c.partner || (r.lineWith (.doorContact d)).isNone)
  || ((List.finRange 10).any fun o => r.outputServes o && (r.lineWith (.valveFeedback o)).isNone)
  || (allBanks.any r.requiredTooHigh)
  || ((List.finRange 4).any fun i => (r.cadences[i]).any fun c => !c.validates)

/-! ## What each configured item starts with -/

/-- R14: a line that has not been scanned. -/
def LineRec.fresh (c : LineCfg) : LineRec :=
  { cfg := c, code := none, measured := none, reported := none, candidate := none, count := 0, lastScan := none }

/-- R31: an assigned module after reset. -/
def ModuleRec.fresh (d : Door) : ModuleRec :=
  { door := d, online := false, failures := 0, toggle := none, tamper := none, lockFeedback := none, lastPoll := none }

/-- R33: a door after reset: OFFLINE, or FAULT without a contact line. -/
def DoorRec.fresh (c : DoorCfg) (contact handle : Option Line) (module : Option Module) : DoorRec :=
  { cfg := c, contactLine := contact, handleLine := handle, module := module,
    state := if contact.isSome then .offline else .fault,
    grant := none, pairing := none, openingKind := none, withdrawnEnd := none, openSince := none, handleActive := none,
    denialEnd := none, contactOpen := none, lastDrive := none, chirpOwed := false, leftOffline := false }

/-- R93, R120: a zone after reset: ISOLATED, entry hold set, uncertain. -/
def ZoneRec.fresh (c : ZoneCfg) : ZoneRec :=
  { cfg := c, state := .isolated, kind := none, delay := none, remaining := none, dischargeStart := none, entryHold := true,
    holdLines := [], holdAlarms := [],
    summary := { count := 0, uncertain := true, reserved := 0, load := c.uncertainLoad },
    bankState := .empty, selectorFault := false, mainFault := false }

/-- R149: a container when decoding begins. -/
def ContainerRec.fresh (c : ContainerCfg) (now : Nat) : ContainerRec :=
  { cfg := c, edgeSeen := false, decoder := .hunting, prevCalibration := none, readings := [], holdMark := false,
    sensorFault := false, stale := false, level := none, staleExpiry := now + 500, lastValid := none, lastStatus := none,
    lastDiscard := none, state := .unknown }

/-- R179: a panel in service after reset. -/
def PanelRec.fresh : PanelRec :=
  { display := .entryBarred, seconds := 0, lastSent := none, count := 0, offOwed := true, run := none, buffer := none }

/-- R194: K for a reference frequency. -/
def incrementFor (f : Nat) : Nat := (4294967296 * 1000 + f / 2) / f

/-- R194: how many cycles have added the old K, since the accumulator had its value, when a load ends. No tick has come in them, so the
accumulator has not passed 2^32; within that bound the number is a free value (DESIGN CHOICE, notes/assumptions/4.md). -/
def Timebase.oldCycles (t : Timebase) : Nat :=
  Config.cyclesBeforeLoadEnd t.loadsEnded % ((4294967295 - t.acc.toNat) / t.k + 1)

/-- R194: a load ends: the cycles up to here have added the K held until now, and from here on K is that of the loaded f_ref. -/
def Timebase.endLoad (t : Timebase) (f : Nat) : Timebase :=
  { t with
    acc := BitVec.ofNat 32 (t.acc.toNat + t.oldCycles * t.k), k := incrementFor f, fRef := f, loadsEnded := t.loadsEnded + 1 }

/-- R136: N for a reference frequency, rounded with halves upward. -/
def nominalFor (f : Nat) : Nat := (f * 168 + 500000) / 1000000

/-! ## The end of loading -/

/-- R121: the outputs as settled. -/
def Records.outputs (r : Records) : Tab OutputRec 10 :=
  Vector.ofFn fun o =>
    { OutputRec.cleared with
      inService := r.outputServes o,
      feedbackLine := if r.outputServes o then r.lineWith (.valveFeedback o) else none }

/-- R32: the doors as settled. -/
def Records.doorRecs (r : Records) : Tab (Option DoorRec) 16 :=
  Vector.ofFn fun d =>
    (r.doors[d]).map fun c =>
      DoorRec.fresh { c with partner := r.settledPartner d c } (r.lineWith (.doorContact d)) (r.lineWith (.egressHandle d))
        (r.settledModule d c)

/-- R15: the door a module is assigned to, the lowest that names its address. -/
def Records.moduleRecs (r : Records) : Tab (Option ModuleRec) 16 :=
  Vector.ofFn fun m =>
    ((List.finRange 16).find? fun d => (r.doors[d]).any (·.module = m)).map ModuleRec.fresh

/-- The blocks take up their settled configuration; `r` has its doors settled. -/
def State.configured (s : State) (r : Records) : State :=
  let f := r.fRef.getD 25000000
  { s with
    time := s.time.endLoad f,
    lines := Vector.ofFn fun l => (r.settledLine l).map LineRec.fresh,
    bus := { s.bus with modules := r.moduleRecs },
    doors := r.doorRecs,
    occupancy := { s.occupancy with uncertain := r.zones.map (·.isSome) },
    zones := r.zones.map fun x => x.map ZoneRec.fresh,
    valves := { s.valves with outputs := r.outputs },
    banks := #v[{ BankRec.cleared with cfg := r.settledBank .bankA }, { BankRec.cleared with cfg := r.settledBank .bankB }],
    containers :=
      { table := r.containers.map fun x => x.map fun c => ContainerRec.fresh c s.nowMs, nominal := nominalFor f },
    alarms := { s.alarms with slots := r.patterns.map fun x => x.getD .disabled },
    link :=
      { s.link with
        nextBoundary := s.nowMs + 50,
        cadences := Vector.ofFn r.settledCadence,
        panels := r.zones.map fun x => x.map fun _ => PanelRec.fresh } }

/-- The numbers of the items a table holds. -/
def presentIn {α : Type} {n : Nat} (t : Tab (Option α) n) : List (Fin n) := (List.finRange n).filter fun i => (t[i]).isSome

/-- R200: STARTUP_DONE. -/
def State.startupDone (s : State) : State :=
  s.notify (.startupDone s.loader.resetKind s.loader.flags s.loader.bytesRead s.loader.recordsTaken (presentIn s.zones)
    (presentIn s.doors) (presentIn s.containers.table) s.time.tod)

/-- R197: loading ends: the flags are fixed, every block is settled, the first drives are computed (R47), STARTUP_DONE is queued, and
the blocks take up their work. -/
def State.endLoading (s : State) (l : Loader) : State :=
  let r := l.records.settleDoors
  let flags := { l.flags with clamped := l.flags.clamped || crossChecksFail l.records r }
  let t := { s with loader := { l with phase := .running, flags := flags, records := .empty } }
  let t := t.configured r
  let t := t.forEach (presentIn t.doors) fun d u => u.refreshDrive d
  t.startupDone

/-! ## The commands -/

/-- CONFIG_RECORD_READ (R198): one record is read while loading runs. -/
def execConfigRecordRead (bytes : List Byte) (s : State) : Host.Outcome State Fault Refusal :=
  match s.loader.phase with
  | .loading =>
    let x := s.loader.read bytes
    .next (if x.2 then s.endLoading x.1 else { s with loader := x.1 })
  | .resetHeld => .next s
  | .running => .next s

/-- POWER_ON_RESET (R197). The commands that wait, and the model's count of loads, are not the controller's state. The load begins at once, also where the RESET line was
asserted, and its release then changes nothing (DESIGN CHOICE, notes/assumptions/52.md). -/
def execPowerOnReset (s : State) : Host.Outcome State Fault Refusal :=
  .next (.cleared { Timebase.powerOn with loadsEnded := s.time.loadsEnded } (.start .loading .powerOn) s.pending)

/-- R194, R195: a RESET line reset leaves the accumulator, K and the time-of-day running; the counts since reset start again. -/
def Timebase.resetLine (t : Timebase) : Timebase := { t with ms := 0, sec := 0, dsDue := 0, secDue := 0 }

/-- RESET_LINE_ASSERT (R197). -/
def execResetLineAssert (s : State) : Host.Outcome State Fault Refusal :=
  .next (.cleared s.time.resetLine (.start .resetHeld .resetLine) s.pending)

/-- RESET_LINE_RELEASE (R197): the reset ends and a load begins from address 0. -/
def execResetLineRelease (s : State) : Host.Outcome State Fault Refusal :=
  match s.loader.phase with
  | .resetHeld => .next { s with loader := .start .loading .resetLine }
  | .loading => .next s
  | .running => .next s

end Sys2Proof.Machine
end

