-- ==== Sys2Proof/Machine/TimebaseEvents.lean ====
section
/-! DEFINITION. The ticks of the Timebase (R194), the decisecond tick's countdowns (R112), the second of the time-of-day (R195). -/

namespace Sys2Proof.Machine

/-- R194: the accumulator at its next carry, from a value and an increment: K is added until the sum passes 2^32, and the low 32 bits
are kept. Within the range of f_ref K is never 0. -/
def nextCarry (acc : BitVec 32) (k : Nat) : BitVec 32 :=
  if k = 0 then acc
  else
    let cycles := (4294967296 - acc.toNat + k - 1) / k
    BitVec.ofNat 32 (acc.toNat + cycles * k)

/-- R194: the counts since reset after one more millisecond; every 100th makes a decisecond tick due, every 1000th a second tick. -/
def Timebase.countMs (t : Timebase) : Timebase :=
  let ms := t.ms + 1
  { t with
    ms := ms,
    dsDue := if ms % 100 = 0 then t.dsDue + 1 else t.dsDue,
    secDue := if ms % 1000 = 0 then t.secDue + 1 else t.secDue }

/-- R195: the millisecond-within-second count is advanced while the time-of-day is set. -/
def Timebase.countTod (t : Timebase) : Timebase := if t.tod.isSome then { t with todMs := t.todMs + 1 } else t

/-- R194, R195: one millisecond tick. The cycles since the latest carry, or since the end of a load after it (`Timebase.endLoad`), have added K.
The counts since reset start at the end of a reset, so while the reset input is asserted only the accumulator and the time-of-day run. -/
def Timebase.tick (t : Timebase) (resetHeld : Bool) : Timebase :=
  let t := { t with acc := nextCarry t.acc t.k }
  (if resetHeld then t else t.countMs).countTod

/-- MILLISECOND_TICK (R194). -/
def execMillisecondTick (s : State) : Host.Outcome State Fault Refusal :=
  .next { s with time := s.time.tick (s.loader.phase == .resetHeld) }

/-- R112: a decisecond tick lowers the R of every zone in COUNTDOWN. -/
def State.tickCountdowns (s : State) : State := s.forEach s.configuredZones fun z t => t.tickZone z

/-- DECISECOND_TICK (R112, R194): one decisecond tick that has come due. -/
def execDecisecondTick (s : State) : Host.Outcome State Fault Refusal :=
  .next
    (if s.time.dsDue = 0 then s
    else { s with time := { s.time with dsDue := s.time.dsDue - 1 } }.tickCountdowns)

/-- SECOND_TICK (R194): one second tick that has come due. -/
def execSecondTick (s : State) : Host.Outcome State Fault Refusal :=
  .next
    (if s.time.secDue = 0 then s
    else { s with time := { s.time with secDue := s.time.secDue - 1, sec := s.time.sec + 1 } })

/-- TIME_OF_DAY_SECOND (R195): the millisecond-within-second count has reached 1000. -/
def execTimeOfDaySecond (s : State) : Host.Outcome State Fault Refusal :=
  match s.time.tod with
  | none => .next s
  | some t => .next (if 1000 ≤ s.time.todMs then s.advanceSecond t else s)

end Sys2Proof.Machine
end

