-- ==== Sys2Proof/Machine/ZoneRequests.lean ====
section
/-! DEFINITION. The Suppression port's requests on a zone: R97 to R104 and TEST_RELEASE (R131). -/

namespace Sys2Proof.Machine

/-- R97: a zone's own rule: the state after the request and its status. -/
abbrev ZoneRule := State → Zone → ZoneRec → State × Status

/-- R97: the answer of a decided request: its status, then the zone's state and entry hold as they stand after it. -/
def zoneReply (z : Zone) (x : State × Status) : Reply :=
  { state := x.1, status := x.2,
    content :=
      match x.1.zones[z] with
      | none => []
      | some r => zoneStateCode r.state :: flag1 r.entryHold }

/-- R97: a request on the zone a number names. NOT_FOUND is answered with the status alone (DESIGN CHOICE, notes/assumptions/44.md). -/
def State.onZone (s : State) (n : Nat) (rule : ZoneRule) : Reply :=
  match s.zoneNamed n with
  | none => s.reply .notFound
  | some (z, r) => zoneReply z (rule s z r)

/-- R97: a request that carries one zone number. BAD_FORMAT is answered with the status alone (DESIGN CHOICE, notes/assumptions/44.md). -/
def decideZone (rule : ZoneRule) : Decide := fun s _ payload =>
  match readNumber payload with
  | none => s.reply .badFormat
  | some n => s.onZone n rule

/-! ## The rules -/

/-- R98. -/
def armZone : ZoneRule := fun s z r =>
  match r.state with
  | .isolated =>
    if r.bankState = .empty then (s, .noAgent)
    else if (s.valves.tests[z]).isSome then (s, .busy)
    else (s.changeZone z .arm fun x => { x with state := .guarded, entryHold := false }, .ok)
  | .guarded => (s, .ok)
  | .occupiedHold | .countdown | .held | .discharge | .discharged => (s, .wrongState)

/-- R99. -/
def isolateZone : ZoneRule := fun s z r =>
  match r.state with
  | .guarded | .occupiedHold | .countdown | .held => (s.changeZone z .isolate (·.withoutRelease .isolated), .ok)
  | .isolated => (s, .ok)
  | .discharge => (s, .tooLate)
  | .discharged => (s, .wrongState)

/-- R100. -/
def clearEntryHold : ZoneRule := fun s z r =>
  match r.state with
  | .isolated =>
    if r.entryHold then (s.changeZone z .entryHoldCleared fun x => { x with entryHold := false }, .ok) else (s, .ok)
  | .guarded | .occupiedHold | .countdown | .held | .discharge | .discharged => (s, .wrongState)

/-- R101. -/
def ventZone : ZoneRule := fun s z r =>
  match r.state with
  | .discharged =>
    (s.changeZone z .ventComplete fun x => { x with state := .isolated, dischargeStart := none, entryHold := false }, .ok)
  | .isolated | .guarded | .occupiedHold | .countdown | .held | .discharge => (s, .wrongState)

/-- R102. -/
def releaseAuto : ZoneRule := fun s z r =>
  match r.state with
  | .guarded =>
    if r.summary.occupied then
      (s.changeZone z .releaseAuto fun x => { x with state := .occupiedHold, kind := some .auto }, .ok)
    else (s.startCountdown z .auto .releaseAuto, .ok)
  | .occupiedHold | .countdown | .held | .discharge => (s, .ok)
  | .isolated | .discharged => (s, .wrongState)

/-- R103. -/
def releaseManual : ZoneRule := fun s z r =>
  match r.state with
  | .guarded | .occupiedHold => (s.startCountdown z .manual .releaseManual, .ok)
  | .countdown | .held =>
    if r.kind = some .auto then (s.changeZone z .manualUpgrade fun x => { x with kind := some .manual }, .ok) else (s, .ok)
  | .discharge => (s, .ok)
  | .isolated | .discharged => (s, .wrongState)

/-- R104. -/
def cancelZone : ZoneRule := fun s z r =>
  match r.state with
  | .occupiedHold | .countdown | .held => (s.changeZone z .cancel (·.withoutRelease .guarded), .ok)
  | .guarded | .isolated => (s, .ok)
  | .discharge | .discharged => (s, .tooLate)

/-! ## The commands -/

/-- ARM_ZONE (R97, R98). -/
def execArmZone (p : Port) (b : Byte) (s : State) : Host.Outcome State Fault Refusal :=
  .next (s.takeRequest p b 0x20 false (.only .suppression) (decideZone armZone))

/-- ISOLATE_ZONE (R97, R99). -/
def execIsolateZone (p : Port) (b : Byte) (s : State) : Host.Outcome State Fault Refusal :=
  .next (s.takeRequest p b 0x21 false (.only .suppression) (decideZone isolateZone))

/-- CLEAR_ENTRY_HOLD (R97, R100). -/
def execClearEntryHold (p : Port) (b : Byte) (s : State) : Host.Outcome State Fault Refusal :=
  .next (s.takeRequest p b 0x22 false (.only .suppression) (decideZone clearEntryHold))

/-- R97, R102, R103: RELEASE_REQUEST carries a zone and a kind. BAD_FORMAT is answered with the status alone, a bad kind beside a configured
zone too (DESIGN CHOICE, notes/assumptions/44.md). -/
def decideRelease : Decide := fun s _ payload =>
  match readRelease payload with
  | none => s.reply .badFormat
  | some (n, .auto) => s.onZone n releaseAuto
  | some (n, .manual) => s.onZone n releaseManual

/-- RELEASE_REQUEST (R97, R102, R103). -/
def execReleaseRequest (p : Port) (b : Byte) (s : State) : Host.Outcome State Fault Refusal :=
  .next (s.takeRequest p b 0x23 false (.only .suppression) decideRelease)

/-- CANCEL_RELEASE (R97, R104). -/
def execCancelRelease (p : Port) (b : Byte) (s : State) : Host.Outcome State Fault Refusal :=
  .next (s.takeRequest p b 0x24 false (.only .suppression) (decideZone cancelZone))

/-- VENT_COMPLETE (R97, R101). -/
def execVentComplete (p : Port) (b : Byte) (s : State) : Host.Outcome State Fault Refusal :=
  .next (s.takeRequest p b 0x25 false (.only .suppression) (decideZone ventZone))

/-- R131: the cases of TEST_RELEASE on a configured zone. -/
def State.testZone (s : State) (z : Zone) (r : ZoneRec) : Reply :=
  if (s.valves.tests[z]).isSome then s.reply .busy
  else if r.state != .isolated then s.reply .wrongState
  else if (s.valves.outputs[mainValveOf r.cfg.bank]).drive then s.reply .busy
  else (s.beginTest z).reply .ok

/-- R131. -/
def decideTestRelease : Decide := fun s _ payload =>
  match readNumber payload with
  | none => s.reply .badFormat
  | some n =>
    match s.zoneNamed n with
    | none => s.reply .notFound
    | some (z, r) => s.testZone z r

/-- TEST_RELEASE (R131). -/
def execTestRelease (p : Port) (b : Byte) (s : State) : Host.Outcome State Fault Refusal :=
  .next (s.takeRequest p b 0x26 false (.only .suppression) decideTestRelease)

end Sys2Proof.Machine
end

