-- ==== Sys2Proof/Machine/ZoneTimers.lean ====
section
/-! DEFINITION. The times of zones and valves: the end of a countdown and of a discharge (R112, R115), a bank's minimum-on end (R124),
the expiry of checks (R126, R127), the end of a test's first stage (R132). -/

namespace Sys2Proof.Machine

/-- R112: a decisecond tick that is due makes the R of a zone in COUNTDOWN zero. -/
def ZoneRec.countdownOver (r : ZoneRec) (tickDue : Bool) : Bool :=
  r.state == .countdown && r.remaining.any fun n => n = 0 || (n = 1 && tickDue)

/-- COUNTDOWN_END (R112, R115): the part of a due decisecond tick that makes this zone's R zero; DECISECOND_TICK does the same for
every zone the tick finds so (notes/assumptions/6.md). -/
def execCountdownEnd (z : Zone) (s : State) : Host.Outcome State Fault Refusal :=
  .next (if (s.zones[z]).any (·.countdownOver (0 < s.time.dsDue)) then s.enterDischarge z else s)

/-- R115: H × 1000 ms have passed since the discharge start of a zone in DISCHARGE. -/
def ZoneRec.dischargeOver (r : ZoneRec) (now : Nat) : Bool :=
  r.state == .discharge && r.dischargeStart.any fun t => t + r.cfg.holdTime * 1000 ≤ now

/-- DISCHARGE_END (R115). -/
def execDischargeEnd (z : Zone) (s : State) : Host.Outcome State Fault Refusal :=
  .next (if (s.zones[z]).any (·.dischargeOver s.nowMs) then s.leaveDischarge z else s)

/-- MINIMUM_ON_END (R124): the end is removed, and with no zone of the bank discharging the main valve is switched OFF. -/
def execMinimumOnEnd (bank : Bank) (s : State) : Host.Outcome State Fault Refusal :=
  .next
    (if (s.banks[bankIndex bank]).minOnEnd.any (· ≤ s.nowMs) then
      (s.updBank bank fun k => { k with minOnEnd := none }).settleMainValve bank
    else s)

/-- R126, R127: a pending check of a kind has reached its expiry. -/
def State.checkOverdue (s : State) (o : Output) (kind : CheckKind) : Option Check :=
  (s.valves.outputs[o]).check.filter fun c => c.kind = kind && c.expiry ≤ s.nowMs

/-- ON_CHECK_EXPIRY (R126). -/
def execOnCheckExpiry (o : Output) (s : State) : Host.Outcome State Fault Refusal :=
  match s.checkOverdue o .onCheck with
  | none => .next s
  | some c => .next (s.failCheck o c)

/-- OFF_CHECK_EXPIRY (R127). -/
def execOffCheckExpiry (o : Output) (s : State) : Host.Outcome State Fault Refusal :=
  match s.checkOverdue o .offCheck with
  | none => .next s
  | some c => .next (s.failCheck o c)

/-- R132: a test release's first stage is over. -/
def TestRec.stageOver (t : TestRec) (now : Nat) : Bool :=
  match t.stage with
  | .first _ => t.start + testStageTime ≤ now
  | .second _ => false

/-- TEST_STAGE_END (R132). -/
def execTestStageEnd (z : Zone) (s : State) : Host.Outcome State Fault Refusal :=
  .next (if (s.valves.tests[z]).any (·.stageOver s.nowMs) then s.testSecondStage z else s)

end Sys2Proof.Machine
end

