-- ==== Sys2Proof/Machine/Dispatch.lean ====
section
/-! DEFINITION. One arm per command: the call of its meaning. -/

namespace Sys2Proof.Machine

/-- The effect of a command on everything but the queue. -/
def exec (i : Instr) (s : State) : Host.Outcome State Fault Refusal :=
  match i with
  | .powerOnReset => Sys2Proof.Machine.execPowerOnReset s
  | .resetLineAssert => Sys2Proof.Machine.execResetLineAssert s
  | .resetLineRelease => Sys2Proof.Machine.execResetLineRelease s
  | .configRecordRead bytes => Sys2Proof.Machine.execConfigRecordRead bytes s
  | .millisecondTick => Sys2Proof.Machine.execMillisecondTick s
  | .decisecondTick => Sys2Proof.Machine.execDecisecondTick s
  | .secondTick => Sys2Proof.Machine.execSecondTick s
  | .timeOfDaySecond => Sys2Proof.Machine.execTimeOfDaySecond s
  | .lineScan l code => Sys2Proof.Machine.execLineScan l code s
  | .pollAnswerReceived b framingError => Sys2Proof.Machine.execPollAnswerReceived b framingError s
  | .pollWindowExpiry ninthBegun => Sys2Proof.Machine.execPollWindowExpiry ninthBegun s
  | .driveEnd => Sys2Proof.Machine.execDriveEnd s
  | .moduleRetryDue m => Sys2Proof.Machine.execModuleRetryDue m s
  | .unlockWindowExpiry d => Sys2Proof.Machine.execUnlockWindowExpiry d s
  | .withdrawnWindowEnd d => Sys2Proof.Machine.execWithdrawnWindowEnd d s
  | .heldOpenLimit d => Sys2Proof.Machine.execHeldOpenLimit d s
  | .pairingExpiry d => Sys2Proof.Machine.execPairingExpiry d s
  | .denialDisplayEnd d => Sys2Proof.Machine.execDenialDisplayEnd d s
  | .checkinWarningTime person => Sys2Proof.Machine.execCheckinWarningTime person s
  | .checkinDeadline person => Sys2Proof.Machine.execCheckinDeadline person s
  | .loneTimerExpiry z => Sys2Proof.Machine.execLoneTimerExpiry z s
  | .countdownEnd z => Sys2Proof.Machine.execCountdownEnd z s
  | .dischargeEnd z => Sys2Proof.Machine.execDischargeEnd z s
  | .minimumOnEnd bank => Sys2Proof.Machine.execMinimumOnEnd bank s
  | .onCheckExpiry o => Sys2Proof.Machine.execOnCheckExpiry o s
  | .offCheckExpiry o => Sys2Proof.Machine.execOffCheckExpiry o s
  | .testStageEnd z => Sys2Proof.Machine.execTestStageEnd z s
  | .containerPulse c cycles => Sys2Proof.Machine.execContainerPulse c cycles s
  | .staleExpiry c => Sys2Proof.Machine.execStaleExpiry c s
  | .pendantTelegram b => Sys2Proof.Machine.execPendantTelegram b s
  | .pendantByteError b framingError => Sys2Proof.Machine.execPendantByteError b framingError s
  | .pendantGapTimeout => Sys2Proof.Machine.execPendantGapTimeout s
  | .slotBoundary => Sys2Proof.Machine.execSlotBoundary s
  | .receiveGapTimeout p => Sys2Proof.Machine.execReceiveGapTimeout p s
  | .frameDiscarded p b framingError => Sys2Proof.Machine.execFrameDiscarded p b framingError s
  | .unknownRequest p b => Sys2Proof.Machine.execUnknownRequest p b s
  | .answerTransmissionEnd p => Sys2Proof.Machine.execAnswerTransmissionEnd p s
  | .portRestart p => Sys2Proof.Machine.execPortRestart p s
  | .readStatus p b => Sys2Proof.Machine.execReadStatus p b s
  | .readZone p b => Sys2Proof.Machine.execReadZone p b s
  | .readDoor p b => Sys2Proof.Machine.execReadDoor p b s
  | .readOccupancy p b => Sys2Proof.Machine.execReadOccupancy p b s
  | .readAlarms p b => Sys2Proof.Machine.execReadAlarms p b s
  | .readBanks p b => Sys2Proof.Machine.execReadBanks p b s
  | .readLine p b => Sys2Proof.Machine.execReadLine p b s
  | .fetchNotices p b => Sys2Proof.Machine.execFetchNotices p b s
  | .writePerson p b => Sys2Proof.Machine.execWritePerson p b s
  | .deletePerson p b => Sys2Proof.Machine.execDeletePerson p b s
  | .readPerson p b => Sys2Proof.Machine.execReadPerson p b s
  | .writeGroup p b => Sys2Proof.Machine.execWriteGroup p b s
  | .stageSchedule p b => Sys2Proof.Machine.execStageSchedule p b s
  | .stageHolidays p b => Sys2Proof.Machine.execStageHolidays p b s
  | .commitSchedules p b => Sys2Proof.Machine.execCommitSchedules p b s
  | .setTime p b => Sys2Proof.Machine.execSetTime p b s
  | .doorPulse p b => Sys2Proof.Machine.execDoorPulse p b s
  | .armZone p b => Sys2Proof.Machine.execArmZone p b s
  | .isolateZone p b => Sys2Proof.Machine.execIsolateZone p b s
  | .clearEntryHold p b => Sys2Proof.Machine.execClearEntryHold p b s
  | .releaseRequest p b => Sys2Proof.Machine.execReleaseRequest p b s
  | .cancelRelease p b => Sys2Proof.Machine.execCancelRelease p b s
  | .ventComplete p b => Sys2Proof.Machine.execVentComplete p b s
  | .testRelease p b => Sys2Proof.Machine.execTestRelease p b s
  | .ackAlarm p b => Sys2Proof.Machine.execAckAlarm p b s
  | .clearAlarm p b => Sys2Proof.Machine.execClearAlarm p b s
  | .sweepConfirm p b => Sys2Proof.Machine.execSweepConfirm p b s
  | .forceExit p b => Sys2Proof.Machine.execForceExit p b s
  | .responseEntry p b => Sys2Proof.Machine.execResponseEntry p b s
  | .panelText p b => Sys2Proof.Machine.execPanelText p b s
  | .masterPortByteReceived p b => Sys2Proof.Machine.execMasterPortByteReceived p b s
  | .pendantLineByteReceived b => Sys2Proof.Machine.execPendantLineByteReceived b s
  | .pollAnswerByteReceived b arrival => Sys2Proof.Machine.execPollAnswerByteReceived b arrival s
  | .receiveLineReturnedHigh p => Sys2Proof.Machine.execReceiveLineReturnedHigh p s

end Sys2Proof.Machine
end

