-- ==== Sys2Proof/Safety.lean ====
section
/-! DEFINITION. The terms the statements are written in: what a command's next state may differ in, which notices it queues, how a
request is met and answered, and the invariants every step keeps. -/

namespace Sys2Proof.Machine

/-- A command gives a next state, and that state has a property. -/
def Completes (o : Host.Outcome State Fault Refusal) (P : State → Prop) : Prop := ∃ t, o = .next t ∧ P t

/-! ## Notices -/

/-- A port's record after some notices made in state `s` have joined its queue, those that go to the port `q` (R187), in their
order, each by R186. -/
def PortRec.gains (r : PortRec) (s : State) (q : Port) (bodies : List NoticeBody) : PortRec :=
  (bodies.filter fun b => q ∈ b.ports).foldl (fun x b => x.enqueue (s.stampNotice b)) r

/-- From `s` to `t` the ports change by the queuing of some notices and by nothing else. -/
def QueuesGain (s t : State) (bodies : List NoticeBody) : Prop :=
  ∀ q : Port, t.ports[portIndex q] = (s.ports[portIndex q]).gains s q bodies

/-! ## Requests -/

/-- A request frame of kind `code` ends at port `p` with byte `b` and is one to be decided by its owning rule (R182). -/
def RequestReady (s : State) (p : Port) (b code : Byte) (f : Frame) : Prop :=
  s.isRunning = true ∧ s.portHears p = true ∧ (s.ports[portIndex p]).frameTaken b = some f ∧ f.kind = code

/-- A port's record once its request has been answered: the assembly hunts, and the answer is sent or waits (R180, R183). -/
def PortRec.answered (r : PortRec) (f : Frame) (status : Status) (content : List Byte) : PortRec :=
  { r with rx := .hunt }.send (composeAnswer f status content)

/-- The whole effect of a request that changes nothing: its answer. -/
def State.answered (s : State) (p : Port) (f : Frame) (status : Status) (content : List Byte) : State :=
  s.updPort p (·.answered f status content)

/-- From `s` to `t` the ports change by the queuing of some notices, and port `p` by the answer of its request besides. -/
def PortsAnswer (s t : State) (p : Port) (f : Frame) (status : Status) (content : List Byte) (bodies : List NoticeBody) : Prop :=
  ∀ q : Port,
    t.ports[portIndex q] =
      if q = p then ((s.ports[portIndex q]).gains s q bodies).answered f status content
      else (s.ports[portIndex q]).gains s q bodies

/-! ## Doors -/

/-- R47: a door's record once its drive has been recomputed, its inside zone barring entry or not: a drive that must be handed over
is recorded, and carries an owed chirp away. -/
def DoorRec.driven (r : DoorRec) (barred : Bool) : DoorRec :=
  let drive : Drive := { lock := doorLock r, indicator := doorIndicator r barred, chirp := r.chirpOwed }
  if driveDiffers r.lastDrive drive then { r with lastDrive := some drive, chirpOwed := false } else r

/-- A panel's record once the display of its zone has been found afresh from a zone record (R170). -/
def Link.shows (l : Link) (z : Zone) (r : ZoneRec) (alarm warning : Bool) : Link :=
  { l with
    panels := l.panels.put z ((l.panels[z]).map (·.show (displayOf r alarm warning).1 (displayOf r alarm warning).2)) }

/-- The zone is entered by nobody who waits at a door: no pairing record and no grant stands at any door into it. -/
def State.noneWaiting (s : State) (z : Zone) : Prop :=
  ∀ d r, s.doors[(d : Door)] = some r → r.cfg.inside = z → r.grant = none ∧ r.pairing = none

/-- No grant stands into a zone that its state would not let be installed (R34, R40). -/
def State.grantsFit (s : State) (z : Zone) : Prop :=
  ∀ d r g, s.doors[(d : Door)] = some r → r.cfg.inside = z → r.grant = some g → s.zonePermits z g.kind = true

/-! ## Runs of commands -/

/-- Several commands, each on the state the one before left. -/
def execAll (s : State) : List Instr → Host.Outcome State Fault Refusal
  | [] => .next s
  | i :: rest =>
    match exec i s with
    | .next t => execAll t rest
    | .fault x => .fault x
    | .refused x => .refused x

/-! ## The door bus -/

/-- R20: a module may be polled now. -/
def State.mayPoll (s : State) (m : Module) : Prop := (s.bus.modules[m]).any (pollEligible s.nowMs) = true

/-- R16, R20: a POLL of module `m` begins. -/
def State.polls (s : State) (m : Module) : State :=
  { s with
    bus :=
      { s.bus with
        modules := s.bus.modules.put m ((s.bus.modules[m]).map fun r => { r with lastPoll := some s.nowMs }),
        position := m,
        tx := .poll m (headerKind pollCode ((s.bus.modules[m]).bind (·.toggle))) [] false } }

/-- R20: from the idle bus of `s` the next transaction starts, which gives `t`: the oldest pending drive; else a POLL of the first
eligible module after the rotation position, addresses wrapping from 16 to 1; else the bus stays idle. -/
def BusChooses (s t : State) : Prop :=
  match s.bus.queue with
  | (m, d) :: rest =>
    t = { s with bus := { s.bus with queue := rest, tx := driveFrame m ((s.bus.modules[m]).bind (·.toggle)) d } }
  | [] =>
    (∃ k : Nat, k < 16 ∧ s.mayPoll (s.bus.position + 1 + Fin.ofNat 16 k) ∧
      (∀ j < k, ¬s.mayPoll (s.bus.position + 1 + Fin.ofNat 16 j)) ∧ t = s.polls (s.bus.position + 1 + Fin.ofNat 16 k)) ∨
    ((∀ m, ¬s.mayPoll m) ∧ t = s)

/-- R21: the pending drives once a drive of module `m` has joined them: it takes the place of the one that waits for `m`, else the end. -/
def withDrive (queue : List (Module × Drive)) (m : Module) (d : Drive) : List (Module × Drive) :=
  if ∃ e ∈ queue, e.1 = m then queue.map fun e => if e.1 = m then (m, d) else e else queue ++ [(m, d)]

/-- R20 to R22: from `s` a drive is handed over for a door whose module is given, which gives the bus of `t`. Without a module, and for one
that is not ONLINE, it is discarded; else it joins the pending drives, and an idle bus starts its next transaction at once. -/
def DriveHanded (s t : State) (module : Option Module) (d : Drive) : Prop :=
  let online (m : Module) : Prop := ∃ y, s.bus.modules[m] = some y ∧ y.online = true
  ((∀ m, module = some m → ¬online m) → t.bus = s.bus) ∧
  ∀ m, module = some m → online m →
    let bus := { s.bus with queue := withDrive s.bus.queue m d }
    (s.bus.tx ≠ .idle → t.bus = bus) ∧
    (s.bus.tx = .idle → BusChooses { s with bus := bus } { s with bus := t.bus })

/-- R47: the drive of a door is recomputed once its record is `y`, its inside zone barring entry or not: it is handed over where its lock or
indicator differs from the last one handed over or a chirp is owed, and else the bus stays as it is. -/
def DoorDrives (s t : State) (y : DoorRec) (barred : Bool) : Prop :=
  let drive : Drive := { lock := doorLock y, indicator := doorIndicator y barred, chirp := y.chirpOwed }
  let due := y.chirpOwed = true ∨ ∀ last, y.lastDrive = some last → last.lock ≠ drive.lock ∨ last.indicator ≠ drive.indicator
  (due → DriveHanded s t y.module drive) ∧ (¬due → t.bus = s.bus)

/-- The state once an exchange or a drive has ended on the bus, with the record of one module replaced. -/
def State.busIdle (s : State) (m : Module) (r : ModuleRec) : State :=
  { s with bus := { s.bus with modules := s.bus.modules.put m (some r), tx := .idle } }

/-- R19 to R22, R26, R43: a failed POLL exchange of module `m`, whose record was `r` in `s`, is counted and the next transaction starts,
which gives `t`. The third failure in a row of an ONLINE module makes it OFFLINE: its pending drive is dropped, its door is lost, and
MODULE_STATE is queued with the failure's name; the next transaction is then chosen from that bus. The lost door is OFFLINE without its grant,
whose places are handed back, and without its pairing record, each with ACCESS_WITHDRAWN. -/
def PollFails (s t : State) (m : Module) (r : ModuleRec) (failure : PollFailure) : Prop :=
  (r.online = false ∨ r.failures < 2 → BusChooses (s.busIdle m { r with failures := min 3 (r.failures + 1) }) t) ∧
  (r.online = true → 2 ≤ r.failures →
    let told : NoticeBody := .moduleState m r.door false none (some failure)
    t = { s with bus := t.bus, doors := t.doors, occupancy := t.occupancy, zones := t.zones, ports := t.ports } ∧
    (∃ queue, BusChooses
        { t with
          bus :=
            { s.bus with
              modules := s.bus.modules.put m
                (some { r with online := false, failures := 3, tamper := none, lockFeedback := none }),
              queue := queue, tx := .idle } } t ∧
      (∀ e ∈ queue, e.1 ≠ m) ∧
      ((∀ y, s.doors[r.door] = some y → y.module = some m) → queue = s.bus.queue.filter fun e => e.1 ≠ m)) ∧
    (∃ x, t.bus.modules[m] = some x ∧ x.online = false ∧ x.failures = 3 ∧ x.tamper = none ∧ x.lockFeedback = none ∧
      x.toggle = r.toggle ∧ x.door = r.door) ∧
    (∀ e ∈ t.bus.queue, e.1 ≠ m) ∧
    (∀ d, d ≠ r.door → t.doors[d] = s.doors[d]) ∧
    ((∀ y, s.doors[r.door] = some y → y.state = .offline ∨ y.state = .fault) →
      t.doors = s.doors ∧ t.occupancy = s.occupancy ∧ t.zones = s.zones ∧ QueuesGain s t [told]) ∧
    ∀ y, s.doors[r.door] = some y → y.state ≠ .offline → y.state ≠ .fault →
      let z := y.cfg.inside
      let lost : DoorRec :=
        { y with
          state := .offline, grant := none, pairing := none, withdrawnEnd := none, openingKind := none, openSince := none }
      t.doors[r.door] = some (lost.driven (s.bars z)) ∧
      t.occupancy =
        { s.occupancy with
          reserved := s.occupancy.reserved.put z (s.occupancy.reserved[z] - (y.grant.map (·.places)).getD 0) } ∧
      (y.grant = none → t.zones = s.zones) ∧
      (y.grant ≠ none → t.zones = s.zones.put z ((s.zones[z]).map fun x => { x with summary := t.summaryOf z })) ∧
      ∃ bodies, QueuesGain s t (bodies ++ [told]) ∧
        bodies.Perm
          (y.grant.toList.map (fun g => .accessWithdrawn r.door .doorFault (some g) none)
            ++ y.pairing.toList.map (fun p => .accessWithdrawn r.door .doorFault none (some p.first))
            ++ [.doorState r.door .offline y.state .moduleOffline none none]))

/-! ## Configuration records -/

/-- R190, R199: the field of `size` bytes at `offset` of a record's data, first byte most significant; none where the data end before its last
byte (notes/assumptions/9.md). -/
def fieldAt (data : List Byte) (offset size : Nat) : Option Nat :=
  if offset + size ≤ data.length then some (((data.drop offset).take size).foldl (fun n b => n * 256 + b.toNat) 0) else none

/-- R2, R121, R136, R152, R175, R194, R199: what a known record of each kind is stored as, and whether CONFIG_CLAMPED is set: a number outside its
range is clamped to it, a missing field takes its default, a record without a field that has none is not stored, and bytes beyond the last
field are ignored. The thresholds of a LINE record with one or two of them are those of notes/assumptions/10.md. -/
def RecordsStored : Prop :=
  ∀ (r : Records) (data : List Byte),
    let field := fieldAt data
    let clamped (low high n : Nat) := max low (min high n)
    let value (low high missing offset size : Nat) := ((field offset size).map (clamped low high)).getD missing
    let beyond (low high offset size : Nat) : Prop := ∃ n, field offset size = some n ∧ (n < low ∨ high < n)
    let stores (kind index : Nat) (x : Records) (mark : Prop) : Prop :=
      ∃ c, r.store kind index data = some (x, c) ∧ (c = true ↔ mark)
    stores 1 0 { r with fRef := some (value 4000000 50000000 25000000 0 4) } (beyond 4000000 50000000 0 4 ∨ 4 < data.length) ∧
    (∀ i : Fin 64,
      (field 1 1 = none → r.store 2 i.val data = none) ∧
      ∀ role target, field 0 1 = some role → field 1 1 = some target →
        let limit := if role ≤ 1 then 15 else if role ≤ 3 then 7 else if role = 4 then 9 else 255
        let taken : LineRole :=
          if role = 0 then .doorContact (Fin.ofNat 16 (min target 15))
          else if role = 1 then .egressHandle (Fin.ofNat 16 (min target 15))
          else if role = 2 then .abortStation (Fin.ofNat 8 (min target 7))
          else if role = 3 then .alarmButton (Fin.ofNat 8 (min target 7))
          else if role = 4 then .valveFeedback (Fin.ofNat 10 (min target 9))
          else .unused
        let t1 := (field 2 1).getD 20
        let t2 := (field 3 1).getD 100
        let t3 := (field 4 1).getD 180
        let holds := 1 ≤ t1 ∧ t1 < t2 ∧ t2 < t3 ∧ t3 ≤ 254
        (holds →
          stores 2 i.val { r with lines := r.lines.put i (some ⟨taken, t1, t2, t3⟩) }
            (5 < role ∨ limit < target ∨ 5 < data.length)) ∧
        (¬holds → stores 2 i.val { r with lines := r.lines.put i (some ⟨taken, 20, 100, 180⟩) } True)) ∧
    (∀ i : Fin 16, r.store 3 i.val data =
      (readDoorRecord data).map fun x => ({ r with doors := r.doors.put i (some x.1) }, x.2)) ∧
    (∀ i : Fin 8, r.store 4 i.val data =
      some ({ r with zones := r.zones.put i (some (readZoneRecord data).1) }, (readZoneRecord data).2)) ∧
    (∀ i : Fin 2, stores 5 i.val { r with banks := r.banks.put i (some ⟨value 60 600 180 0 2, value 1 8 1 2 1⟩) }
      (beyond 60 600 0 2 ∨ beyond 1 8 2 1 ∨ 3 < data.length)) ∧
    (∀ i : Fin 8,
      let bank := value 0 2 2 0 1
      let low := value 0 4095 400 1 2
      let high := value 0 4095 600 3 2
      let container (low high : Nat) : ContainerCfg :=
        ⟨if bank = 0 then some .bankA else if bank = 1 then some .bankB else none, low, high, (field 5 1).getD 10⟩
      (low < high →
        stores 6 i.val { r with containers := r.containers.put i (some (container low high)) }
          (beyond 0 2 0 1 ∨ beyond 0 4095 1 2 ∨ beyond 0 4095 3 2 ∨ 6 < data.length)) ∧
      (¬low < high → stores 6 i.val { r with containers := r.containers.put i (some (container 400 600)) } True)) ∧
    (∀ i : Fin 4,
      (data.length < 8 → r.store 7 i.val data = none) ∧
      (8 ≤ data.length →
        let kind := value 0 3 0 6 1
        stores 7 i.val
          { r with
            patterns := r.patterns.put i
              (some
                { mask := BitVec.ofNat 32 ((field 0 4).getD 0), crc := BitVec.ofNat 16 ((field 4 2).getD 0),
                  kind :=
                    if kind = 0 then .pendantDuress else if kind = 1 then .manDown else if kind = 2 then .checkIn else .batteryLow,
                  offset := value 0 29 0 7 1 }) }
          (beyond 0 3 6 1 ∨ beyond 0 29 7 1 ∨ 8 < data.length))) ∧
    ∀ i : Fin 4,
      (field 1 1 = none → r.store 8 i.val data = none) ∧
      ∀ tone count, field 0 1 = some tone → field 1 1 = some count →
        let kind (k : Nat) := (field (2 + 2 * k) 1).getD 0
        let n (k : Nat) := (field (3 + 2 * k) 1).getD 0
        (data.length < 2 + 2 * count → r.store 8 i.val data = none) ∧
        (2 + 2 * count ≤ data.length →
          stores 8 i.val
            { r with
              cadences := r.cadences.put i
                (some
                  { tone := clamped 1 15 tone,
                    steps := (List.range count).map fun k =>
                      if kind k = 0 then .on (clamped 1 15 (n k))
                      else if kind k = 1 then .off (clamped 1 15 (n k))
                      else if kind k = 2 then .repeatBlock (clamped 2 15 (n k))
                      else .endBlock,
                    isDefault := false }) }
            (tone < 1 ∨ 15 < tone ∨ 2 + 2 * count < data.length ∨
              ∃ k < count, 3 < kind k ∨ (kind k ≤ 1 ∧ (n k < 1 ∨ 15 < n k)) ∨ (kind k = 2 ∧ (n k < 2 ∨ 15 < n k))))

/-! ## Start-up -/

/-- R198: the bytes begin a record other than STOP that they do not hold whole: its index or length byte is missing, or fewer bytes stand
behind it than its length byte calls for. -/
def RecordCutShort (bytes : List Byte) : Prop :=
  (∃ kind rest, bytes = kind :: rest ∧ kind ≠ 0) ∧ ∀ length, bytes[2]? = some length → bytes.length < length.toNat + 4

/-- R194, R197, R200: from `s` a load ends whose loader has come to `l`, which gives `t`: every block holds its settled configuration and the
state it has after a reset, every door's first drive has been computed, and STARTUP_DONE is the notice each port gains. Some cycles have
added the old K without a carry, and the accumulator goes on from there with the K of the loaded f_ref (their number is free,
notes/assumptions/4.md). -/
def LoadEnds (s : State) (l : Loader) (t : State) : Prop :=
  let r := l.records.settleDoors
  let f := r.fRef.getD 25000000
  t = { s with
      time := t.time, loader := t.loader, lines := t.lines, bus := t.bus,
      doors := t.doors, occupancy := t.occupancy, zones := t.zones, valves := t.valves, banks := t.banks,
      containers := t.containers, alarms := t.alarms, link := t.link, ports := t.ports } ∧
  (∃ cycles, s.time.acc.toNat + cycles * s.time.k < 4294967296 ∧
    t.time = { s.time with
      acc := BitVec.ofNat 32 (s.time.acc.toNat + cycles * s.time.k), k := incrementFor f, fRef := f,
      loadsEnded := s.time.loadsEnded + 1 }) ∧
  t.loader = { l with
      phase := .running, flags := { l.flags with clamped := l.flags.clamped || crossChecksFail l.records r },
      records := .empty } ∧
  (∀ i : Line, t.lines[i] = (r.settledLine i).map LineRec.fresh) ∧
  t.bus = { s.bus with modules := r.moduleRecs } ∧
  (∀ d : Door, t.doors[d] = (r.doorRecs[d]).map fun x => { x with lastDrive := some ⟨.locked, .red, false⟩ }) ∧
  t.occupancy = { s.occupancy with uncertain := t.occupancy.uncertain } ∧
  (∀ z : Zone, t.occupancy.uncertain[z] = (l.records.zones[z]).isSome) ∧
  (∀ z : Zone, t.zones[z] = (l.records.zones[z]).map ZoneRec.fresh) ∧
  t.valves = { s.valves with outputs := r.outputs } ∧
  (∀ bank : Bank, t.banks[bankIndex bank] = { BankRec.cleared with cfg := r.settledBank bank }) ∧
  t.containers.nominal = nominalFor f ∧
  (∀ c : Container, t.containers.table[c] = (l.records.containers[c]).map fun x => ContainerRec.fresh x s.nowMs) ∧
  t.alarms = { s.alarms with slots := t.alarms.slots } ∧
  (∀ i : Fin 4, t.alarms.slots[i] = (l.records.patterns[i]).getD .disabled) ∧
  t.link = { s.link with nextBoundary := s.nowMs + 50, cadences := t.link.cadences, panels := t.link.panels } ∧
  (∀ i : Fin 4, t.link.cadences[i] = r.settledCadence i) ∧
  (∀ z : Zone, t.link.panels[z] = (l.records.zones[z]).map fun _ => PanelRec.fresh) ∧
  QueuesGain s t
    [.startupDone l.resetKind t.loader.flags l.bytesRead l.recordsTaken (presentIn t.zones) (presentIn t.doors)
      (presentIn t.containers.table) s.time.tod]

/-! ## The request set -/

/-- One row of R184's table. -/
structure RequestRow where
  command : Port → Byte → Instr
  code : Byte
  rights : Rights

/-- R184: the requests with their kind codes and rights. -/
def requestRows : List RequestRow :=
  [⟨.readStatus, 0x01, .all⟩, ⟨.readZone, 0x02, .all⟩, ⟨.readDoor, 0x03, .all⟩, ⟨.readOccupancy, 0x04, .all⟩,
    ⟨.readAlarms, 0x05, .all⟩, ⟨.readBanks, 0x06, .all⟩, ⟨.readLine, 0x07, .all⟩, ⟨.fetchNotices, 0x08, .all⟩,
    ⟨.writePerson, 0x10, .only .access⟩, ⟨.deletePerson, 0x11, .only .access⟩, ⟨.readPerson, 0x12, .only .access⟩,
    ⟨.writeGroup, 0x13, .only .access⟩, ⟨.stageSchedule, 0x14, .only .access⟩, ⟨.stageHolidays, 0x15, .only .access⟩,
    ⟨.commitSchedules, 0x16, .only .access⟩, ⟨.setTime, 0x17, .only .access⟩, ⟨.doorPulse, 0x18, .only .access⟩,
    ⟨.armZone, 0x20, .only .suppression⟩, ⟨.isolateZone, 0x21, .only .suppression⟩,
    ⟨.clearEntryHold, 0x22, .only .suppression⟩, ⟨.releaseRequest, 0x23, .only .suppression⟩,
    ⟨.cancelRelease, 0x24, .only .suppression⟩, ⟨.ventComplete, 0x25, .only .suppression⟩,
    ⟨.testRelease, 0x26, .only .suppression⟩, ⟨.ackAlarm, 0x30, .only .console⟩, ⟨.clearAlarm, 0x31, .only .console⟩,
    ⟨.sweepConfirm, 0x32, .only .console⟩, ⟨.forceExit, 0x33, .only .console⟩, ⟨.responseEntry, 0x34, .only .console⟩,
    ⟨.panelText, 0x35, .only .console⟩]

/-- R97, R131: the requests that carry one zone number and nothing else. -/
def zoneRequestRows : List RequestRow :=
  [⟨.armZone, 0x20, .only .suppression⟩, ⟨.isolateZone, 0x21, .only .suppression⟩, ⟨.clearEntryHold, 0x22, .only .suppression⟩,
    ⟨.cancelRelease, 0x24, .only .suppression⟩, ⟨.ventComplete, 0x25, .only .suppression⟩,
    ⟨.testRelease, 0x26, .only .suppression⟩]

/-! ## Containers -/

/-- R116, R146, R147: from `s` an event makes container `c`, whose state was `previous`, the record `x` of another state, which gives `t`:
CONTAINER_STATE is queued, then, where its bank's state is thereby another, BANK_STATE, and every zone of the bank records it. -/
def ContainerSettles (s t : State) (c : Container) (previous : ContainerState) (x : ContainerRec) : Prop :=
  let told : NoticeBody :=
    .containerState c x.cfg.bank x.state previous (x.average.map fun a => (a * 10, x.holdMark)) x.readings.length x.lastStatus
  t = { s with containers := t.containers, banks := t.banks, zones := t.zones, ports := t.ports } ∧
  t.containers = { s.containers with table := s.containers.table.put c (some x) } ∧
  (x.cfg.bank = none → t.banks = s.banks ∧ t.zones = s.zones ∧ QueuesGain s t [told]) ∧
  ∀ bank, x.cfg.bank = some bank →
    let k := s.banks[bankIndex bank]
    let n := t.healthyCount bank
    let new : BankState := if n = 0 then .empty else if n < k.cfg.required then .degraded else .available
    t.banks = s.banks.put (bankIndex bank) { k with state := new } ∧
    (new = k.state → t.zones = s.zones ∧ QueuesGain s t [told]) ∧
    (new ≠ k.state →
      (∀ z : Zone, t.zones[z] =
        (s.zones[z]).map fun y => if y.cfg.bank = bank then { y with bankState := new } else y) ∧
      QueuesGain s t [told, .bankState bank new k.state n k.cfg.required (s.bankInService bank)])

/-! ## Cadences -/

/-- R173: from a position and repeat stack, top first, execution takes `k` steps that are not timed, counting each return past the end of
the list to step 0, and then a timed step, ON when `sound` is true, with the run that stands after it. -/
inductive CadenceReaches (steps : List CadenceStep) : Nat → Nat → List (Nat × Nat) → Bool → CadenceRun → Prop where
  | on {position stack n} (at_ : steps[position]? = some (.on n)) :
      CadenceReaches steps 0 position stack true ⟨position + 1, n - 1, stack⟩
  | off {position stack n} (at_ : steps[position]? = some (.off n)) :
      CadenceReaches steps 0 position stack false ⟨position + 1, n - 1, stack⟩
  | wrap {k position stack sound run} (at_ : steps[position]? = none) (next : CadenceReaches steps k 0 stack sound run) :
      CadenceReaches steps (k + 1) position stack sound run
  | repeatBlock {k position stack n sound run} (at_ : steps[position]? = some (.repeatBlock n))
      (next : CadenceReaches steps k (position + 1) ((position + 1, n) :: stack) sound run) :
      CadenceReaches steps (k + 1) position stack sound run
  | endAgain {k position first count stack sound run} (at_ : steps[position]? = some .endBlock) (more : 1 < count)
      (next : CadenceReaches steps k first ((first, count - 1) :: stack) sound run) :
      CadenceReaches steps (k + 1) position ((first, count) :: stack) sound run
  | endPass {k position first count stack sound run} (at_ : steps[position]? = some .endBlock) (last : count ≤ 1)
      (next : CadenceReaches steps k (position + 1) stack sound run) :
      CadenceReaches steps (k + 1) position ((first, count) :: stack) sound run

/-! ## Panels -/

/-- R170, R171: what a panel shows of its zone: the display state and seconds, the first case that holds; and what a panel's record becomes as
it takes them, a cadence that ends owing an off pair and the new display's cadence starting afresh. -/
def PanelsShow : Prop :=
  (∀ (r : ZoneRec) (alarm warning : Bool),
    let seconds := (r.remaining.getD 0 + 9) / 10
    displayOf r alarm warning =
      if r.state = .discharge then (.discharge, 0)
      else if r.state = .discharged then (.gasPresent, 0)
      else if r.state = .countdown then (.countdown, seconds)
      else if r.state = .held then (.hold, seconds)
      else if alarm = true then (.alarm, 0)
      else if warning = true then (.checkinDue, 0)
      else if r.state = .occupiedHold ∨ r.entryHold = true then (.entryBarred, 0)
      else (.clear, 0)) ∧
  ∀ (p : PanelRec) (display : Display) (seconds : Nat),
    let hasCadence (x : Display) : Prop := x = .countdown ∨ x = .hold ∨ x = .discharge ∨ x = .alarm
    p.show display seconds =
      if p.display = display then { p with seconds := seconds }
      else
        { p with
          display := display, seconds := seconds, offOwed := if hasCadence p.display then true else p.offOwed,
          run := if hasCadence display then some ⟨0, 0, []⟩ else none }

/-! ## Withdrawals -/

/-- R40: the grant of a door that a withdrawal order for a zone state removes; an EXIT grant stands, and a RESPONSE grant in OCCUPIED_HOLD. -/
def DoorRec.ordered (y : DoorRec) (entered : ZoneState) : Option Grant :=
  y.grant.filter fun g => g.kind = .entry ∨ g.kind = .command ∨ (g.kind = .response ∧ entered ≠ .occupiedHold)

/-- R40: a door's record after a withdrawal order, its drive still to be recomputed. -/
def DoorRec.withdrawn (y : DoorRec) (entered : ZoneState) : DoorRec :=
  match y.ordered entered with
  | none => { y with pairing := none }
  | some g => { y with pairing := none, grant := none, state := .secure, withdrawnEnd := some g.expiry }

/-- R40: the notices of a withdrawal order at a door, the pairing record's before the grant's. -/
def DoorRec.withdrawalTold (y : DoorRec) (d : Door) (entered : ZoneState) : List NoticeBody :=
  y.pairing.toList.map (fun p => .accessWithdrawn d .zoneBarred none (some p.first)) ++
    (y.ordered entered).toList.flatMap fun g =>
      [.accessWithdrawn d .zoneBarred (some g) none, .doorState d .secure y.state .withdrawn (some g) none]

/-- A notice of a door. -/
def NoticeBody.isAt (d : Door) : NoticeBody → Bool
  | .accessWithdrawn x .. => x = d
  | .doorState x .. => x = d
  | _ => false

/-- Door `d` is the only door into zone `z`. -/
def State.onlyDoor (s : State) (d : Door) (z : Zone) : Prop := ∀ e r, s.doors[(e : Door)] = some r → (r.cfg.inside = z ↔ e = d)

/-- R21, R40, R47, R78, R96: from `s` to `t` the doors into zone `z` have carried out a withdrawal order for the state `entered`, with the
notices `bodies`: pairing records and the ordered grants are gone, a door that lost its grant is SECURE with a withdrawn-window end at the
grant's window expiry, and its places are handed back. The order of the notices and drives of several doors is not stated
(notes/assumptions/42.md). -/
def Withdraws (s t : State) (z : Zone) (entered : ZoneState) (bodies : List NoticeBody) : Prop :=
  let into (d : Door) := (s.doors[d]).filter fun y => y.cfg.inside = z
  let places := ((List.finRange 16).map fun d => (((into d).bind (·.ordered entered)).map (·.places)).getD 0).sum
  (∀ d, into d = none → t.doors[d] = s.doors[d]) ∧
  (∀ d y, into d = some y → t.doors[d] = some ((y.withdrawn entered).driven true)) ∧
  t.occupancy = { s.occupancy with reserved := s.occupancy.reserved.put z (s.occupancy.reserved[z] - places) } ∧
  (∀ d, bodies.filter (·.isAt d) = ((into d).map (·.withdrawalTold d entered)).getD []) ∧
  (∀ b ∈ bodies, ∃ d, b.isAt d = true) ∧
  ((∀ d, into d = none) → t.bus = s.bus) ∧
  ∀ d y, into d = some y → s.onlyDoor d z → DoorDrives s t (y.withdrawn entered) true

/-! ## Requests on a zone -/

/-- R97: the answer of a zone request: the zone's state and entry hold, whose byte is that of notes/assumptions/25.md. -/
def ZoneRec.answer (r : ZoneRec) : List Byte := zoneStateCode r.state :: flag1 r.entryHold

/-- From `s` to `t` a request of port Suppression has turned zone `z`'s record from `r` into `x` for a cause: ZONE_STATE is the one
notice, the panel follows, and where the barring of entry has ended the drives of the doors into the zone are recomputed
and handed over (R21, R47, R96, R97, R117, R118, R170); in which order for several doors is not stated (notes/assumptions/42.md). No barring
state is entered. -/
def ZoneTurns (s t : State) (f : Frame) (z : Zone) (r x : ZoneRec) (cause : ZoneCause) : Prop :=
  t = { s with zones := s.zones.put z (some x), doors := t.doors, bus := t.bus, link := t.link, ports := t.ports } ∧
  t.link = s.link.shows z x (s.alarms.displayFlag z) s.occupancy.warning[z] ∧
  (∀ d : Door, t.doors[d] = (s.doors[d]).map fun y =>
    if y.cfg.inside = z ∧ zoneBars r = true ∧ zoneBars x = false then y.driven false else y) ∧
  (zoneBars r = false ∨ zoneBars x = true → t.bus = s.bus) ∧
  (zoneBars r = true → zoneBars x = false →
    ((∀ d y, s.doors[(d : Door)] = some y → y.cfg.inside ≠ z) → t.bus = s.bus) ∧
    ∀ d y, s.doors[(d : Door)] = some y → y.cfg.inside = z → s.onlyDoor d z → DoorDrives s t y false) ∧
  PortsAnswer s t .suppression f .ok x.answer [zoneStateBody z x r.state cause]

/-! ## Occupancy -/

/-- A notice is one of the occupancy or of the state of zone `z`. -/
def NoticeBody.isOf (z : Zone) : NoticeBody → Bool
  | .occupancyChange y .. => y = z
  | .zoneState y .. => y = z
  | _ => false

/-- R91: the OCCUPANCY_CHANGE notice of a zone whose entries and uncertain flag stand as in `t`. At most 16 persons are named
(notes/assumptions/22.md). -/
def State.occupancyTold (t : State) (z : Zone) (cause : OccCause) (persons : List Person) : NoticeBody :=
  .occupancyChange z cause (persons.take 16) (t.summaryOf z).count (t.summaryOf z).uncertain (t.summaryOf z).load

/-- R91, R105 to R107, R111, R117: an event that leads to `t` tells zone `z`, whose record was `r`, by the notice `told`, and hands its summary
over; `bodies` are all notices of the event. OCCUPIED_HOLD on a zone that has become unoccupied starts its countdown; a COUNTDOWN or HELD of
kind AUTO on a zone that has become occupied falls back to OCCUPIED_HOLD without D and R; each with ZONE_STATE behind the notice. Otherwise
the summary is recorded and nothing else. -/
def SummaryHanded (t : State) (z : Zone) (r : ZoneRec) (told : NoticeBody) (bodies : List NoticeBody) : Prop :=
  let m := t.summaryOf z
  let occupied (m : Summary) : Prop := 0 < m.count ∨ m.uncertain = true
  let delay := r.cfg.egressDelay m.load
  let started : ZoneRec :=
    { r with
      summary := m, kind := some .auto, delay := some delay, remaining := some delay,
      state := if r.holdLines = [] ∧ r.holdAlarms = [] then .countdown else .held }
  let waiting : ZoneRec := { r with summary := m, state := .occupiedHold, delay := none, remaining := none }
  let counts := (r.state = .countdown ∨ r.state = .held) ∧ r.kind = some .auto
  let becomes (x : ZoneRec) (more : List NoticeBody) : Prop :=
    t.zones[z] = some x ∧ bodies.filter (·.isOf z) = told :: more
  (r.state = .occupiedHold → occupied r.summary → ¬occupied m →
    becomes started [zoneStateBody z started .occupiedHold .unoccupied]) ∧
  (counts → ¬occupied r.summary → occupied m → becomes waiting [zoneStateBody z waiting r.state .occupied]) ∧
  ((r.state = .occupiedHold → occupied m) → (counts → ¬occupied m) → becomes { r with summary := m } [])

/-- R91: an event from `s` to `t` with the notices `bodies` changes the occupancy of the zones `changed`: each of them is told once, with its
cause and the persons concerned, before its summary is handed over. Of any other zone there is no notice, and its record at most takes its
summary as it stands. -/
def OccupancyChanges (s t : State) (bodies : List NoticeBody) (changed : Zone → Prop) (cause : Zone → OccCause)
    (named : Zone → List Person) : Prop :=
  ∀ z : Zone,
    let told := t.occupancyTold z (cause z) (named z)
    (changed z → s.zones[z] = none → bodies.filter (·.isOf z) = [told]) ∧
    (∀ r, changed z → s.zones[z] = some r → SummaryHanded t z r told bodies) ∧
    (¬changed z → bodies.filter (·.isOf z) = [] ∧
      (t.zones[z] = s.zones[z] ∨ t.zones[z] = (s.zones[z]).map fun r => { r with summary := t.summaryOf z }))

/-! ## Refused requests on persons -/

/-- R52: what refuses a WRITE_PERSON of a record to a place, the first case that applies. The encoding has no pendant id above 0xFFFFFF and no
group above 15. -/
def State.writeRefused (s : State) (i : Nat) (who : PersonRec) : Option Status :=
  if 1023 < i ∨ (∃ p ∈ who.pin, p.length < 4 ∨ 6 < p.length ∨ ∃ n ∈ p, 9 < n) ∨ (∃ a ∈ who.validFrom, a.valid = false) ∨
      (∃ b ∈ who.validTo, b.valid = false) ∨ (∃ a ∈ who.validFrom, ∃ b ∈ who.validTo, a.le b = false) then some .badFormat
  else if s.personAt i = none ∧ ∃ e ∈ s.occupancy.entryOf i, e.deleted = true then some .wrongState
  else if ∃ x ∈ s.personnel.table, x.1 ≠ i ∧
      (x.2.credential = who.credential ∨ (who.pendant ≠ none ∧ x.2.pendant = who.pendant)) then some .duplicate
  else none

/-- R84: what refuses a SWEEP_CONFIRM of a configured zone, the first case that applies. -/
def State.sweepRefused (s : State) (z : Zone) (r : ZoneRec) (persons : List Person) : Option Status :=
  if 16 < persons.length ∨ (∃ p ∈ persons, 1023 < p) ∨ ¬persons.Nodup ∨ r.cfg.limit < persons.length then some .badFormat
  else if ∃ p ∈ persons, s.personAt p = none ∧ ∀ e ∈ s.occupancy.entryOf p, e.deleted = false then some .notFound
  else if r.state = .discharge then some .wrongState
  else if r.cfg.limit < persons.length + s.occupancy.reserved[z] ∨
      64 < (s.occupancy.entries.filter fun e => e.zone ≠ z ∧ e.person ∉ persons).length + persons.length
        + s.occupancy.reserved.toList.sum then some .zoneFull
  else none

/-! ## Pendant telegrams -/

/-- R153: the bytes of a telegram that a slot covers: those at the positions below its length whose mask flag is set. -/
def Pattern.covers (p : Pattern) (telegram : List Byte) : List Byte :=
  (List.range telegram.length).filterMap fun i => if p.mask.getLsbD i = true then telegram[i]? else none

/-- R153: a slot matches a telegram, with a pendant id: it covers some position, the CRC-16 over the covered bytes is the expected one, and the
three bytes at its identity offset, the first most significant, stand in the telegram. -/
def Pattern.Matches (p : Pattern) (telegram : List Byte) (id : Nat) : Prop :=
  p.covers telegram ≠ [] ∧ crc16 (p.covers telegram) = p.crc ∧
  ∃ a b c : Byte, telegram[p.offset]? = some a ∧ telegram[p.offset + 1]? = some b ∧ telegram[p.offset + 2]? = some c ∧
    id = a.toNat * 65536 + b.toNat * 256 + c.toNat

/-- R153: the first of the four slots to match a telegram is of a kind and gives an id. -/
def Alarms.Brings (a : Alarms) (telegram : List Byte) (kind : PendantKind) (id : Nat) : Prop :=
  ∃ i : Fin 4, (a.slots[i]).Matches telegram id ∧ (a.slots[i]).kind = kind ∧
    ∀ j : Fin 4, j < i → ∀ other, ¬(a.slots[j]).Matches telegram other

/-! ## Alarms -/

/-- R155, R156, R160: at most 32 records, each with its own number and its own kind and source, numbers of one byte; the not-recorded
condition stands only while the list has no room. -/
def AlarmListSound (s : State) : Prop :=
  s.alarms.records.length ≤ 32 ∧
  s.alarms.records.Pairwise (fun a b => a.number ≠ b.number ∧ ¬(a.kind = b.kind ∧ a.source = b.source)) ∧
  (∀ r ∈ s.alarms.records, r.number < 256) ∧ s.alarms.nextNumber < 256 ∧
  (s.alarms.notRecorded = true → s.alarms.hasRoom = false)

/-- R156: of the numbers counting upward from `next`, wrapping from 255 to 0, `n` is the first that no record holds, within 32 steps. -/
def FirstFree (next : Nat) (records : List AlarmRec) (n : Nat) : Prop :=
  ∃ k ≤ 32, n = (next + k) % 256 ∧ (∀ r ∈ records, r.number ≠ n) ∧
    ∀ j < k, ∃ r ∈ records, r.number = (next + j) % 256

/-- R108, R109, R113, R161: a zone's record `r` has become `x` once the alarm record numbered `joins`, if any, has joined its hold-source set
and the one numbered `leaves`, if any, has left it. A COUNTDOWN becomes HELD with R frozen; a HELD zone whose set is then empty returns to
COUNTDOWN with the greater of the frozen R and a fresh delay. -/
def ZoneRec.HoldsBecome (r x : ZoneRec) (joins leaves : Option Nat) : Prop :=
  x.cfg = r.cfg ∧ x.kind = r.kind ∧ x.entryHold = r.entryHold ∧ x.holdLines = r.holdLines ∧
  x.dischargeStart = r.dischargeStart ∧
  (∀ m, m ∈ x.holdAlarms ↔ joins = some m ∨ (m ∈ r.holdAlarms ∧ leaves ≠ some m)) ∧
  if r.state = .countdown ∧ joins ≠ none then x.state = .held ∧ x.delay = r.delay ∧ x.remaining = r.remaining
  else if r.state = .held ∧ leaves ≠ none ∧ x.holdLines = [] ∧ x.holdAlarms = [] then
    x.state = .countdown ∧ x.delay = some (r.cfg.egressDelay r.summary.load) ∧
      x.remaining = some (max (r.remaining.getD 0) (r.cfg.egressDelay r.summary.load))
  else x = { r with holdAlarms := x.holdAlarms }

/-- R157, R160, R161: from `s` a new record of a raise joins the end of the list `rest`, the record `old`, if any, having been replaced,
which gives `t`: the number, the notices, the hold-source sets, the alarm displays. Where no zone changes its state, no other unit is
touched. -/
def AlarmJoins (s t : State) (kind : AlarmKind) (source : AlarmSource) (zone : Option Zone) (rest : List AlarmRec)
    (old : Option AlarmRec) : Prop :=
  ∃ n, FirstFree s.alarms.nextNumber rest n ∧
    let a : AlarmRec := ⟨n, kind, source, zone, s.nowSec, s.nowSec, false, !kind.latched⟩
    let joins (z : Zone) : Option Nat := if kind.holds = true ∧ zone = some z then some n else none
    let leaves (z : Zone) : Option Nat :=
      (old.filter fun o => o.kind.holds = true ∧ o.zone = some z).map fun o => o.number
    t = { s with
        doors := t.doors, occupancy := t.occupancy, zones := t.zones, bus := t.bus, link := t.link, ports := t.ports,
        alarms := { s.alarms with records := rest ++ [a], nextNumber := (n + 1) % 256 } } ∧
    (∀ z : Zone, s.zones[z] = none → t.zones[z] = none) ∧
    (∀ (z : Zone) r, s.zones[z] = some r → ∃ x, t.zones[z] = some x ∧ r.HoldsBecome x (joins z) (leaves z)) ∧
    (∀ z : Zone, t.link.panels[z] =
      if zone = some z ∨ old.any (·.zone = some z) then
        match t.zones[z] with
        | none => s.link.panels[z]
        | some x => (s.link.shows z x (t.alarms.displayFlag z) s.occupancy.warning[z]).panels[z]
      else s.link.panels[z]) ∧
    ((∀ z : Zone, (t.zones[z]).map (fun r => r.state) = (s.zones[z]).map fun r => r.state) →
      t = { s with
          zones := t.zones, link := { s.link with panels := t.link.panels }, ports := t.ports, alarms := t.alarms } ∧
      QueuesGain s t
        (old.toList.map (fun o =>
            .alarmChanged o.number o.kind o.source o.zone .replaced o.acknowledged o.condition o.lastSeen
              (s.sourceZone o.source))
          ++ [.alarmRaised n kind source zone s.nowSec (!kind.latched) (s.sourceZone source)]))

/-- R155 to R161: from `s` an alarm is raised, which gives `t`: a repeat of the record of its kind and source; else a new record where the
list has fewer than 32, or in place of the oldest replaceable one; else it is not recorded. -/
def Raises (s t : State) (kind : AlarmKind) (source : AlarmSource) (zone : Option Zone) : Prop :=
  let records := s.alarms.records
  (∀ old ∈ records, old.kind = kind → old.source = source →
    t = { s with
        alarms :=
          { s.alarms with
            records := records.map fun x =>
              if x = old then { old with lastSeen := s.nowSec, acknowledged := false, condition := !kind.latched } else x },
        ports := t.ports } ∧
    QueuesGain s t
      [.alarmChanged old.number kind source old.zone .repeated false (!kind.latched) s.nowSec (s.sourceZone source)]) ∧
  ((∀ r ∈ records, ¬(r.kind = kind ∧ r.source = source)) →
    (records.length < 32 → AlarmJoins s t kind source zone records none) ∧
    (32 ≤ records.length →
      (∀ front old back, records = front ++ old :: back → old.replaceable = true → (∀ r ∈ front, r.replaceable = false) →
        AlarmJoins s t kind source zone (front ++ back) (some old)) ∧
      ((∀ r ∈ records, r.replaceable = false) →
        t = { s with alarms := { s.alarms with notRecorded := true }, ports := t.ports } ∧
        QueuesGain s t [.alarmNotRecorded kind source zone s.nowSec (s.sourceZone source)])))

/-- R159, R160, R162: from `s` the cause of an alarm of a kind and source ends, which gives `t`: the condition of a record that is present
becomes gone, with ALARM_CHANGED, and without such a record nothing changes. -/
def ConditionEnds (s t : State) (kind : AlarmKind) (source : AlarmSource) : Prop :=
  let ends (r : AlarmRec) : Prop := r.kind = kind ∧ r.source = source ∧ r.condition = true
  ((∀ r ∈ s.alarms.records, ¬ends r) → t = s) ∧
  ∀ r ∈ s.alarms.records, ends r →
    t = { s with
        alarms :=
          { s.alarms with
            records := s.alarms.records.map fun x => if x = r then { r with condition := false } else x,
            notRecorded := s.alarms.notRecorded && !t.alarms.hasRoom },
        ports := t.ports } ∧
    QueuesGain s t
      [.alarmChanged r.number kind source r.zone .conditionGone r.acknowledged false r.lastSeen (s.sourceZone source)]

/-! ## Lone-occupant timers, check-in warnings, modes -/

/-- The person `p` is recorded with a lone-occupant timer, running or expired (R89). -/
def LoneTimer.records (t : LoneTimer) (p : Person) : Prop := t = .expired p ∨ ∃ expiry, t = .running p expiry

/-- R89: the lone condition of zone `z` holds, and `p` is its lone person: the zone is in AFTER mode and carries the two-person mark, and has
exactly one entry, whose person is not permitted alone: the entry is marked deleted, or the person's record does not have the flag. -/
def State.loneIn (s : State) (z : Zone) (p : Person) : Prop :=
  s.schedules.modes[z] = .after ∧ (∃ r, s.zones[z] = some r ∧ r.cfg.twoPerson = true) ∧
  ∃ e, s.occupancy.entriesIn z = [e] ∧ e.person = p ∧
    (e.deleted = true ∨ ∀ who, s.personAt p = some who → who.lonePermitted = false)

/-- R89: an event from `s` to `t` re-tests the lone condition of the zones `retested`. A timer that records the lone person runs on or stays
expired; else the lone person's timer starts with the zone's lone grace, in place of another's; without a lone person no timer stands.
Every other zone keeps its timer. -/
def LoneFollows (s t : State) (retested : Zone → Prop) : Prop :=
  ∀ z : Zone,
    let before := s.occupancy.lone[z]
    let after := t.occupancy.lone[z]
    (¬retested z → after = before) ∧
    (retested z →
      (∀ p, t.loneIn z p → before.records p → after = before) ∧
      (∀ p r, t.loneIn z p → ¬before.records p → t.zones[z] = some r → after = .running p (t.nowSec + r.cfg.loneGrace)) ∧
      ((∀ p, ¬t.loneIn z p) → after = .notRunning))

/-- R88: an event from `s` to `t` finds the check-in warning of the zones `found` afresh: it is on while the warning time of some entry of the
zone, 60 s before its deadline, has been reached. Every other zone keeps its warning. -/
def WarningsFollow (s t : State) (found : Zone → Prop) : Prop :=
  ∀ z : Zone,
    (¬found z → t.occupancy.warning[z] = s.occupancy.warning[z]) ∧
    (found z → (t.occupancy.warning[z] = true ↔
      ∃ e ∈ t.occupancy.entries, e.zone = z ∧ ∃ due, e.deadline = some due ∧ due ≤ t.nowSec + 60))

/-- R79, R86, R89, R159, R160: what an event from `s` to `t` with the notices `bodies` does to the alarm list, where all it does is to end
conditions: the MISSED_CHECKIN condition of each person `missed`, and the LONE_OCCUPANT condition of each person whom a lone-occupant timer
recorded before the event and does not after it. A record that is present becomes gone, with its ALARM_CHANGED, and every other record and its
notices stay away. The order of several such notices is not stated (notes/assumptions/50.md). -/
def ConditionsEnd (s t : State) (missed : Person → Prop) (bodies : List NoticeBody) : Prop :=
  let ends (r : AlarmRec) : Prop :=
    r.condition = true ∧ ∃ p, r.source = .person p ∧
      ((r.kind = .missedCheckin ∧ missed p) ∨
        (r.kind = .loneOccupant ∧ ∃ z : Zone, (s.occupancy.lone[z]).records p ∧ ¬(t.occupancy.lone[z]).records p))
  t.alarms =
    { s.alarms with records := t.alarms.records, notRecorded := s.alarms.notRecorded && !t.alarms.hasRoom } ∧
  List.Forall₂ (fun r x => (ends r → x = { r with condition := false }) ∧ (¬ends r → x = r)) s.alarms.records t.alarms.records ∧
  ∀ r ∈ s.alarms.records,
    ends r ↔ .alarmChanged r.number r.kind r.source r.zone .conditionGone r.acknowledged false r.lastSeen (t.sourceZone r.source) ∈ bodies

/-- R64, R65, R86, R88, R89, R159: an event from `s` evaluates the modes of the zones, which gives `t` with the notices `bodies`. In a zone whose
mode changes the entries gain their deadlines or lose them, the check-in warning is found afresh and handed to the panel, the lone condition
is re-tested, and a change to WORKING ends the MISSED_CHECKIN conditions of the persons inside. Reserved places and uncertain flags stand. -/
def OccupancyFollowsModes (s t : State) (bodies : List NoticeBody) : Prop :=
  let changed (z : Zone) : Prop := t.schedules.modes[z] ≠ s.schedules.modes[z]
  t.occupancy.entries =
    s.occupancy.entries.map (fun e =>
      if t.schedules.modes[e.zone] = s.schedules.modes[e.zone] then e
      else
        { e with
          deadline := if t.schedules.modes[e.zone] = .after then some (s.nowSec + s.checkinPeriod e.zone) else none }) ∧
  t.occupancy.reserved = s.occupancy.reserved ∧ t.occupancy.uncertain = s.occupancy.uncertain ∧
  WarningsFollow s t changed ∧ LoneFollows s t changed ∧
  t.link = { s.link with panels := t.link.panels } ∧
  (∀ z : Zone, ¬changed z → t.link.panels[z] = s.link.panels[z]) ∧
  (∀ (z : Zone) r, changed z → s.zones[z] = some r →
    t.link.panels[z] = (s.link.shows z r (s.alarms.displayFlag z) t.occupancy.warning[z]).panels[z]) ∧
  (∀ b ∈ bodies, ∃ r x, r ∈ s.alarms.records ∧
    b = .alarmChanged r.number r.kind r.source r.zone .conditionGone r.acknowledged false r.lastSeen x) ∧
  (AlarmListSound s →
    ConditionsEnd s t
      (fun p => ∃ e ∈ s.occupancy.entries, e.person = p ∧ changed e.zone ∧ t.schedules.modes[e.zone] = .working) bodies)

/-! ## Check-ins -/

/-- R86 to R88, R91, R159: from `s` a check-in of person `p` is taken, which gives `t`: the deadline of the entry moves to one period from
now, the zone's check-in warning is found afresh, a MISSED_CHECKIN condition of the person becomes gone, and OCCUPANCY_CHANGE is queued.
Without an entry or a deadline nothing changes. The summary is handed over, and changes nothing where the zone record holds it already. That
the ALARM_CHANGED notice stands before OCCUPANCY_CHANGE is the model's choice (notes/assumptions/55.md). -/
def ChecksIn (s t : State) (p : Person) : Prop :=
  (∀ e, s.occupancy.entryOf p = some e → e.deadline = none → t = s) ∧
  (s.occupancy.entryOf p = none → t = s) ∧
  ∀ e due z, s.occupancy.entryOf p = some e → e.deadline = some due → s.zones[e.zone] = some z →
    let entries := s.occupancy.entries.map fun x =>
      if x.person = p then { x with deadline := some (s.nowSec + z.cfg.checkinPeriod * 60) } else x
    let warning := entries.any fun x => x.zone = e.zone && x.deadline.any (· ≤ s.nowSec + 60)
    let missed (r : AlarmRec) : Prop := r.kind = .missedCheckin ∧ r.source = .person p ∧ r.condition = true
    let m := s.summaryOf e.zone
    let told : List NoticeBody := [s.occupancyTold e.zone .checkIn [p]]
    t = { s with
        occupancy := t.occupancy, alarms := t.alarms, zones := t.zones, doors := t.doors, bus := t.bus, link := t.link,
        ports := t.ports } ∧
    t.occupancy.entries = entries ∧ t.occupancy.warning = s.occupancy.warning.put e.zone warning ∧
    ((∀ r ∈ s.alarms.records, ¬missed r) → t.alarms = s.alarms) ∧
    (∀ r ∈ s.alarms.records, missed r → t.alarms =
      { s.alarms with
        records := s.alarms.records.map fun x => if x = r then { r with condition := false } else x,
        notRecorded := s.alarms.notRecorded && !t.alarms.hasRoom }) ∧
    (z.summary = m →
      t = { s with
          occupancy := { s.occupancy with entries := t.occupancy.entries, warning := t.occupancy.warning },
          alarms := t.alarms, link := s.link.shows e.zone z (s.alarms.displayFlag e.zone) warning, ports := t.ports } ∧
      ((∀ r ∈ s.alarms.records, ¬missed r) → QueuesGain s t told) ∧
      ∀ r ∈ s.alarms.records, missed r → QueuesGain s t
        (.alarmChanged r.number .missedCheckin (.person p) r.zone .conditionGone r.acknowledged false r.lastSeen
          (some e.zone) :: told))

/-! ## Presentations at a reader -/

/-- R35, R48, R55, R58, R70 to R72, R96: what the tests of a decision ask: of the door's partner, its entry condition, the lookups by credential
and pendant, a record's validity and groups, a keyed PIN, a person's entry elsewhere, the places of a zone, its barring, and whether it calls
for two persons. -/
def TestsAsk (s : State) : Prop :=
  (∀ cfg : DoorCfg, s.partnerSecure cfg = true ↔ ∀ p, cfg.partner = some p → ∃ x, s.doors[p] = some x ∧ x.state = .secure) ∧
  (∀ (cfg : DoorCfg) (persons : List Person), s.entryCondition cfg persons = true ↔
    let z := cfg.inside
    match cfg.condition with
    | .any => True
    | .never => False
    | .work => s.schedules.modes[z] = .working
    | .after => s.schedules.modes[z] = .after
    | .empty => (∀ e ∈ s.occupancy.entries, e.zone ≠ z) ∧ s.occupancy.uncertain[z] = false
    | .peopled => ∃ e ∈ s.occupancy.entries, e.zone = z
    | .quiet => ∀ a ∈ s.alarms.records, a.zone ≠ some z
    | .agent => ∃ r, s.zones[z] = some r ∧ (s.banks[bankIndex r.cfg.bank]).state = .available
    | .responder => persons ≠ [] ∧ ∀ p ∈ persons, ∃ who, s.personAt p = some who ∧ who.responder = true) ∧
  (∀ who : PersonRec, s.withinValidity who = true ↔
    match s.time.tod with
    | none => who.validFrom = none ∧ who.validTo = none
    | some now =>
      (∀ d, who.validFrom = some d → d.le now.date = true) ∧ ∀ d, who.validTo = some d → now.date.le d = true) ∧
  (∀ (who : PersonRec) (z : Zone), s.groupsPermit who z = true ↔
    ∃ g : Fin 16, g.val ∈ who.groups ∧
      ((s.personnel.groups[g])[z] = .always ∨ ∃ n, (s.personnel.groups[g])[z] = .schedule n ∧ s.scheduleActive n = true)) ∧
  (∀ (rule : PinRule) (mode : Mode), pinRequired rule mode = true ↔ rule = .always ∨ (rule = .afterHours ∧ mode = .after)) ∧
  (∀ (required : Bool) (front : List Nat) (last : Nat) (keyed : List Nat),
    let stored := front ++ [last]
    pinTest required (some stored) (.digits keyed) =
      if keyed = front ++ [(last + 1) % 10] then some true
      else if keyed = stored ∨ required = false then some false
      else none) ∧
  (∀ (required : Bool) (stored : Option (List Nat)) (keyed : KeyedPin), stored = none ∨ keyed = .absent ∨ keyed = .malformed →
    pinTest required stored keyed = if required = true then none else some false) ∧
  (∀ (cfg : DoorCfg) (p : Person), s.noPassback cfg p = true ↔ ∀ e, s.occupancy.entryOf p = some e → cfg.outside = some e.zone) ∧
  (∀ (z : Zone) (need : Nat), s.placesFree z need = true ↔ ∃ r, s.zones[z] = some r ∧
    (s.occupancy.entriesIn z).length + s.occupancy.reserved[z] + need ≤ r.cfg.limit ∧
    s.occupancy.entries.length + s.occupancy.reserved.toList.sum + need ≤ 64) ∧
  (∀ r : ZoneRec, zoneBars r = true ↔
    r.state = .occupiedHold ∨ r.state = .countdown ∨ r.state = .held ∨ r.state = .discharge ∨ r.state = .discharged ∨
      r.entryHold = true) ∧
  (∀ z : Zone, s.bars z = true ↔ ∃ r, s.zones[z] = some r ∧ zoneBars r = true) ∧
  (∀ z : Zone, s.twoPersonApplies z = true ↔
    s.schedules.modes[z] = .after ∧ ∃ r, s.zones[z] = some r ∧ r.cfg.twoPerson = true) ∧
  ∀ n : Nat,
    (∀ x, s.byCredential n = some x → x ∈ s.personnel.table ∧ x.2.credential = n) ∧
    (s.byCredential n = none → ∀ x ∈ s.personnel.table, x.2.credential ≠ n) ∧
    (∀ p, s.byPendant n = some p → ∃ who, (p, who) ∈ s.personnel.table ∧ who.pendant = some n) ∧
    (s.byPendant n = none → ∀ x ∈ s.personnel.table, x.2.pendant ≠ some n)

/-- R46, R47, R68: from `s` a presentation at door `d`, whose record is `r`, is denied, which gives `t`: ACCESS_DENIED, the denial display,
and the drive it calls for. -/
def Denies (s t : State) (d : Door) (r : DoorRec) (reader : Reader) (credential : Nat) (person : Option Person)
    (reason : DenialReason) (duress : Bool) : Prop :=
  let y : DoorRec := { r with denialEnd := some (s.nowMs + 2000), chirpOwed := true }
  t = { s with doors := s.doors.put d (some (y.driven (s.bars r.cfg.inside))), bus := t.bus, ports := t.ports } ∧
  DoorDrives s t y (s.bars r.cfg.inside) ∧
  QueuesGain s t [.accessDenied d reader credential person reason duress]

/-- R34, R45, R47, R49, R68, R78: from `s` a grant is installed at the SECURE door `d`, whose record is `r`, which gives `t`: its places are
reserved, the door is UNLOCKED until its unlock window ends, its drive is handed over, and DOOR_STATE and ACCESS_GRANTED are queued. Any
grant but an EXIT grant removes the pairing record, with ACCESS_WITHDRAWN where its first person is not one of the grant's. -/
def Installs (s t : State) (d : Door) (r : DoorRec) (kind : GrantKind) (persons : List GrantPerson) (places : Nat) : Prop :=
  let g : Grant := ⟨kind, persons, s.nowMs + r.cfg.unlockWindow * 1000, places⟩
  let y : DoorRec :=
    { r with state := .unlocked, grant := some g, pairing := if kind = .exit then r.pairing else none, withdrawnEnd := none }
  t = { s with
      doors := s.doors.put d (some (y.driven (s.bars r.cfg.inside))),
      occupancy :=
        { s.occupancy with
          reserved := s.occupancy.reserved.put r.cfg.inside (s.occupancy.reserved[r.cfg.inside] + places) },
      zones := s.zones.put r.cfg.inside
        ((s.zones[r.cfg.inside]).map fun z => { z with summary := t.summaryOf r.cfg.inside }),
      bus := t.bus, ports := t.ports } ∧
  DoorDrives s t y (s.bars r.cfg.inside) ∧
  QueuesGain s t
    ((r.pairing.toList.filter fun x => kind ≠ .exit ∧ ∀ y ∈ persons, y.person ≠ x.first.person).map
        (fun x => .accessWithdrawn d .superseded none (some x.first))
      ++ [.doorState d .unlocked .secure .grant (some g) none, .accessGranted d g])

/-- R72: from `s` a pairing record begins at door `d`, whose record is `r`, which gives `t`. -/
def PairingBegins (s t : State) (d : Door) (r : DoorRec) (first : GrantPerson) : Prop :=
  let expiry := s.nowMs + r.cfg.pairingWindow * 1000
  let y : DoorRec := { r with pairing := some ⟨first, expiry⟩ }
  t = { s with doors := s.doors.put d (some (y.driven (s.bars r.cfg.inside))), bus := t.bus, ports := t.ports } ∧
  DoorDrives s t y (s.bars r.cfg.inside) ∧
  QueuesGain s t [.pairingStarted d first expiry]

/-! ## Contact reports -/

/-- R1 to R5: a scan of line `l`, whose record is `r`, is due and its debounce reports class `k`. -/
def ScanReports (s : State) (l : Line) (code : Byte) (r : LineRec) (k : LineClass) : Prop :=
  s.isRunning = true ∧ s.lines[l] = some r ∧ (∀ t, r.lastScan = some t → t + 10 ≤ s.nowMs) ∧ r.cfg.measure r.measured code.toNat = k ∧
  r.reported ≠ some k ∧ r.candidate = some k ∧ r.count + 1 = r.cfg.role.debounce

/-- The lines after a scan that reports class `k`. -/
def State.linesReported (s : State) (l : Line) (code : Byte) (r : LineRec) (k : LineClass) : Tab (Option LineRec) 64 :=
  s.lines.put l (some
    { r with
      code := some code, measured := some k, lastScan := some s.nowMs, reported := some k, candidate := none, count := 0 })

/-- R12: the LINE_FAULT notice of a report of class `k` on line `l`, not a VALVE_FEEDBACK line, whose record was `r`: there is one where the
report enters a fault class, leaves one, or moves from one to the other. -/
def lineFaultTold (l : Line) (r : LineRec) (k : LineClass) : List NoticeBody :=
  if (k = .short ∨ k = .openCircuit) ∨ r.reported = some .short ∨ r.reported = some .openCircuit then
    [.lineFault l r.cfg.role k r.reported (k == .short || k == .openCircuit)]
  else []

/-- R8, R38: the egress handle of a door excuses an opening now: its line is reported ACTIVE, or is reported NORMAL and became ACTIVE no more
than 1000 ms ago. -/
def State.handleExcused (s : State) (x : DoorRec) : Prop :=
  let handle := (x.handleLine.bind fun m => s.lines[m]).bind fun r => r.reported
  handle = some .active ∨ (handle = some .normal ∧ ∃ a, x.handleActive = some a ∧ s.nowMs ≤ a + 1000)

/-- R7, R37 to R44, R80 to R83: from `s` a contact report opens door `d`, whose record is `x`, or finds it open, which gives `t`, with the lines
as `lines`. The door's state and opening kind become those given, the open-since time is now where the door is not OFFLINE, the zones
`doubtful`, where configured, are uncertain besides those that were, the entries become those given, and the notices `told` are among those
queued. A zone with persons `named`, and one that becomes uncertain, is told with its `cause` and handed its summary, its check-in warning is
found afresh (notes/assumptions/20.md), and its lone condition is re-tested (R88, R89); the MISSED_CHECKIN condition of each person named who
had an entry ends (R79). -/
def OpeningGives (s t : State) (lines : Tab (Option LineRec) 64) (d : Door) (x : DoorRec) (state : DoorState)
    (opening : Option OpeningKind) (doubtful : Zone → Prop) (entries : List Entry) (told : List NoticeBody)
    (cause : Zone → OccCause) (named : Zone → List Person) : Prop :=
  let changed (z : Zone) : Prop :=
    named z ≠ [] ∨ ((s.zones[z]).isSome = true ∧ doubtful z ∧ s.occupancy.uncertain[z] = false)
  t = { s with
      lines := lines, doors := t.doors, occupancy := t.occupancy, zones := t.zones, bus := t.bus, link := t.link,
      alarms := t.alarms, ports := t.ports } ∧
  (∃ y, t.doors[d] = some y ∧ y.cfg = x.cfg ∧ y.state = state ∧ y.openingKind = opening ∧ y.grant = none ∧
    y.contactOpen = some true ∧ y.openSince = (if state = .offline then x.openSince else some s.nowMs) ∧
    y.withdrawnEnd = if opening = some .afterWithdrawal then none else x.withdrawnEnd) ∧
  (∀ z : Zone, t.occupancy.uncertain[z] = true ↔
    s.occupancy.uncertain[z] = true ∨ ((s.zones[z]).isSome = true ∧ doubtful z)) ∧
  t.occupancy.entries = entries ∧
  ∃ bodies, (∀ b ∈ told, b ∈ bodies) ∧ QueuesGain s t bodies ∧
    OccupancyChanges s t bodies changed cause named ∧ WarningsFollow s t changed ∧ LoneFollows s t changed ∧
    (AlarmListSound s →
      ConditionsEnd s t (fun p => s.occupancy.entryOf p ≠ none ∧ ∃ z, p ∈ named z) bodies)

/-! ## Valve outputs -/

/-- R130: the RELEASE_PATH_FAULT notice of an output whose record `r` becomes `x`: there is one where the path fault is another, with the time of
the edge whose check failed. That a fault set again with the kind it has gives none is the model's choice (notes/assumptions/58.md). -/
def faultTold (o : Output) (r x : OutputRec) (edge : Option Nat) : List NoticeBody :=
  if x.fault = r.fault then [] else [.releasePathFault o x.fault r.fault x.drive x.feedback edge]

/-- R116, R130, R132: from `s` the record of output `o` becomes `x` and the running tests become `tests`, which gives `t`. Where the path fault
is another, RELEASE_PATH_FAULT is queued, with the time of the edge whose check failed, and the fault's presence is handed to the zone of a
selector, or to every zone of the bank of a main valve. The notices `more` follow. -/
def OutputBecomes (s t : State) (o : Output) (x : OutputRec) (tests : Tab (Option TestRec) 8) (edge : Option Nat)
    (more : List NoticeBody) : Prop :=
  let r := s.valves.outputs[o]
  t = { s with valves := { outputs := s.valves.outputs.put o x, tests := tests }, zones := t.zones, ports := t.ports } ∧
  (x.fault = r.fault → t.zones = s.zones) ∧
  (x.fault ≠ r.fault → ∀ z : Zone, t.zones[z] = (s.zones[z]).map fun y =>
    if o = selectorOf z then { y with selectorFault := x.fault.isSome }
    else if o = mainValveOf y.cfg.bank then { y with mainFault := x.fault.isSome }
    else y) ∧
  QueuesGain s t (faultTold o r x edge ++ more)

/-- R121, R125 to R127: an output's record once it is switched ON or OFF at a time. A switching that changes the drive is an edge: a supervised
output arms its check, ON_CHECK or OFF_CHECK, for 1000 ms in place of a pending one, or passes it at once on the wanted class, which removes
any path fault; an unsupervised one arms none. An output not in service is never energized. -/
def OutputRec.switched (r : OutputRec) (on : Bool) (now : Nat) : OutputRec :=
  if r.inService = false ∨ r.drive = on then r
  else if r.feedbackLine = none then { r with drive := on }
  else if r.feedback = some (if on = true then .active else .normal) then { r with drive := on, check := none, fault := none }
  else { r with drive := on, check := some ⟨if on = true then .onCheck else .offCheck, now, now + 1000⟩ }

/-- R116, R130: a zone's record once the path faults of its selector and of its bank's main valve have become those of `t`: a fault that is another
than in `s` has its presence recorded. -/
def ZoneRec.withFaults (w : ZoneRec) (s t : State) (z : Zone) : ZoneRec :=
  let before (o : Output) := (s.valves.outputs[o]).fault
  let after (o : Output) := (t.valves.outputs[o]).fault
  let flag (o : Output) (held : Bool) : Bool := if after o = before o then held else (after o).isSome
  { w with
    selectorFault := flag (selectorOf z) w.selectorFault, mainFault := flag (mainValveOf w.cfg.bank) w.mainFault }

/-- R132: the test release of zone `z`, begun at `start`, as it passes to its second stage, its selector's record `r` before it is switched OFF:
what runs on, and the TEST_RESULT where the test ends at once, unsupervised or on NORMAL feedback. -/
def secondStage (z : Zone) (r : OutputRec) (start : Nat) (passed : Bool) : Option TestRec × List NoticeBody :=
  if r.feedbackLine = none then (none, [.testResult z false false true])
  else if r.inService = true ∧ r.drive = true ∧ r.feedback = some .normal then (none, [.testResult z passed true false])
  else (some ⟨start, .second passed⟩, [])

/-- R123: the test release that an entry of zone `z` into DISCHARGE cuts short in zone `y`: another zone of the bank, whose test is in its first
stage. Its start, and whether its ON_CHECK has passed. -/
def State.cut (s : State) (z : Zone) (bank : Bank) (y : Zone) : Option (Nat × Bool) :=
  if y ≠ z ∧ (s.zones[y]).any (·.cfg.bank = bank) = true then
    match s.valves.tests[y] with
    | some ⟨start, .first passed⟩ => some (start, passed)
    | _ => none
  else none

/-- R122, R123, R125 to R127, R130, R132: from `s` to `t` the valves follow zone `z` of a bank into DISCHARGE: its selector and the bank's main
valve are switched ON, and each test of another zone of the bank that is in its first stage is cut short: its selector is switched OFF and it
passes to its second stage. Every other output and test stays as it was. The notices `told` are those of the selector, of the main valve, and of
the tests by zone number, each fault's before its TEST_RESULT; the manual does not order them (notes/assumptions/46.md). -/
def DischargeOpens (s t : State) (z : Zone) (bank : Bank) (told : List NoticeBody) : Prop :=
  let selector := selectorOf z
  let main := mainValveOf bank
  let switched (o : Output) (on : Bool) := (s.valves.outputs[o]).switched on s.nowMs
  let tells (o : Output) (on : Bool) := faultTold o s.valves.outputs[o] (switched o on) none
  let second (y : Zone) (x : Nat × Bool) := secondStage y s.valves.outputs[selectorOf y] x.1 x.2
  t.valves.outputs[selector] = switched selector true ∧ t.valves.outputs[main] = switched main true ∧
  (∀ y x, s.cut z bank y = some x →
    t.valves.outputs[selectorOf y] = switched (selectorOf y) false ∧ t.valves.tests[y] = (second y x).1) ∧
  (∀ y : Zone, s.cut z bank y = none → t.valves.tests[y] = s.valves.tests[y]) ∧
  (∀ o : Output, o ≠ selector → o ≠ main → (∀ y, o = selectorOf y → s.cut z bank y = none) →
    t.valves.outputs[o] = s.valves.outputs[o]) ∧
  told = tells selector true ++ tells main true ++ (List.finRange 8).flatMap fun y =>
    match s.cut z bank y with
    | none => []
    | some x => tells (selectorOf y) false ++ (second y x).2

/-- R122, R124 to R127, R130: from `s` to `t` the valves follow zone `z` of a bank out of DISCHARGE: its selector is switched OFF, and the bank's
main valve where it closes. Every other output stays as it was, and so does every test. The notices `told` are those of the selector and of
the main valve; the manual does not order them (notes/assumptions/46.md). -/
def DischargeCloses (s t : State) (z : Zone) (bank : Bank) (closes : Bool) (told : List NoticeBody) : Prop :=
  let selector := selectorOf z
  let main := mainValveOf bank
  let switched (o : Output) := (s.valves.outputs[o]).switched false s.nowMs
  t.valves.tests = s.valves.tests ∧
  t.valves.outputs[selector] = switched selector ∧
  t.valves.outputs[main] = (if closes then switched main else s.valves.outputs[main]) ∧
  (∀ o : Output, o ≠ selector → o ≠ main → t.valves.outputs[o] = s.valves.outputs[o]) ∧
  told =
    faultTold selector s.valves.outputs[selector] (switched selector) none ++
      if closes then faultTold main s.valves.outputs[main] (switched main) none else []

/-! ## The trouble output -/

/-- R133: a condition of the trouble output is present. -/
def State.Troubled (s : State) : Trouble → Prop
  | .pathFault o => (s.valves.outputs[o]).inService = true ∧ (s.valves.outputs[o]).fault ≠ none
  | .abortLine l =>
    ∃ r z, s.lines[l] = some r ∧ r.cfg.role = .abortStation z ∧ (r.reported = some .short ∨ r.reported = some .openCircuit)
  | .container c =>
    ∃ r, s.containers.table[c] = some r ∧ r.cfg.bank ≠ none ∧ r.state ≠ .normal ∧ r.state ≠ .high
  | .bank bank => (s.valves.outputs[mainValveOf bank]).inService = true ∧ (s.banks[bankIndex bank]).state ≠ .available
  | .configuration =>
    s.loader.flags.clamped = true ∨ s.loader.flags.incomplete = true ∨ s.loader.flags.unknownRecord = true ∨
      s.loader.flags.absent = true
  | .module m => ∃ r, s.bus.modules[m] = some r ∧ r.online = false
  | .notRecorded => s.alarms.notRecorded = true

/-! ## Duress marks -/

/-- A person of a grant without the duress mark. -/
def GrantPerson.unmarked (g : GrantPerson) : GrantPerson := { g with duress := false }

/-- A door's record without duress marks. -/
def DoorRec.unmarked (r : DoorRec) : DoorRec :=
  { r with
    grant := r.grant.map fun g => { g with persons := g.persons.map (·.unmarked) },
    pairing := r.pairing.map fun p => { p with first := p.first.unmarked } }

/-- The occupancy table without duress marks. -/
def Occupancy.unmarked (o : Occupancy) : Occupancy := { o with entries := o.entries.map fun e => { e with duress := false } }

/-! ## Configuration ranges -/

/-- The ranges of a ZONE record's fields (R94). -/
def ZoneCfg.inRange (c : ZoneCfg) : Prop :=
  c.baseDelay ≤ 1200 ∧ (∀ i : Fin 7, c.knots[i] ≤ 1200) ∧ c.uncertainLoad ≤ 255 ∧ 30 ≤ c.holdTime ∧ c.holdTime ≤ 300 ∧
  5 ≤ c.checkinPeriod ∧ c.checkinPeriod ≤ 60 ∧ 1 ≤ c.limit ∧ c.limit ≤ 16 ∧ 30 ≤ c.loneGrace ∧ c.loneGrace ≤ 600 ∧
  c.sweepWeight ≤ 15

/-- The ranges of a DOOR record's fields (R32). -/
def DoorCfg.inRange (c : DoorCfg) : Prop :=
  c.weight ≤ 15 ∧ 3 ≤ c.unlockWindow ∧ c.unlockWindow ≤ 30 ∧ 10 ≤ c.heldOpenLimit ∧ c.heldOpenLimit ≤ 600 ∧
  5 ≤ c.pairingWindow ∧ c.pairingWindow ≤ 60

/-! ## Invariants -/

/-- R186: no notice queue holds more than 48 notices. -/
def QueuesBounded (s : State) : Prop := ∀ q : Port, (s.ports[portIndex q]).queue.length ≤ 48

/-- R109: a zone counts down only while its hold-source set is empty, and is HELD only while it is not. -/
def HoldSetsMatch (s : State) : Prop :=
  ∀ z r, s.zones[(z : Zone)] = some r →
    (r.state = .countdown → r.noHold = true) ∧ (r.state = .held → r.noHold = false)

/-- R78: the places that the grants at the doors into zone `z` hold. -/
def State.grantPlaces (s : State) (z : Zone) : Nat :=
  ((List.finRange 16).map fun d =>
    match s.doors[d] with
    | some r => if r.cfg.inside = z then (r.grant.map (·.places)).getD 0 else 0
    | none => 0).sum

/-- R34, R78, R79, R86: a person has at most one entry, and an entry has a deadline exactly while its zone is in AFTER mode. The entries of a zone
and its reserved places do not exceed its limit, nor over all zones 64; a zone's reserved places are those of the grants at the doors into
it, one for each person of an ENTRY or RESPONSE grant and none for the others. Before STARTUP_DONE there is no entry and no door. -/
def OccupancySound (s : State) : Prop :=
  s.occupancy.entries.Pairwise (fun a b => a.person ≠ b.person) ∧
  (∀ e ∈ s.occupancy.entries, (e.deadline.isSome = true ↔ s.schedules.modes[e.zone] = .after)) ∧
  (∀ z r, s.zones[(z : Zone)] = some r → (s.occupancy.entriesIn z).length + s.occupancy.reserved[z] ≤ r.cfg.limit) ∧
  s.occupancy.entries.length + s.occupancy.reserved.toList.sum ≤ 64 ∧
  (∀ z : Zone, s.occupancy.reserved[z] = s.grantPlaces z) ∧
  (∀ d r g, s.doors[(d : Door)] = some r → r.grant = some g →
    g.places = if g.kind = .entry ∨ g.kind = .response then g.persons.length else 0) ∧
  (s.isRunning = false → s.occupancy.entries = [] ∧ ∀ d : Door, s.doors[d] = none)

/-- The first stage of a test release runs in a zone (R132). -/
def State.testInFirstStage (s : State) (z : Zone) : Prop := ∃ start passed, s.valves.tests[z] = some ⟨start, .first passed⟩

/-- A zone of a bank is in DISCHARGE. -/
def State.discharges (s : State) (z : Zone) (bank : Bank) : Prop :=
  ∃ r, s.zones[z] = some r ∧ r.cfg.bank = bank ∧ r.state = .discharge

/-- R98, R121 to R123, R131: only an output in service is ON; a selector only in DISCHARGE or in the first stage of a test release; a main
valve only while a zone of its bank is in DISCHARGE or its minimum-on period has not ended. A test release runs only in an ISOLATED zone, and
none before STARTUP_DONE. -/
def ValvesFollowZones (s : State) : Prop :=
  (∀ o, (s.valves.outputs[(o : Output)]).drive = true → (s.valves.outputs[o]).inService = true) ∧
  (∀ z, (s.valves.outputs[selectorOf z]).drive = true → (∃ bank, s.discharges z bank) ∨ s.testInFirstStage z) ∧
  (∀ bank z, z ∈ (s.banks[bankIndex bank]).discharging ↔ s.discharges z bank) ∧
  (∀ bank, (s.valves.outputs[mainValveOf bank]).drive = true →
    (∃ z, s.discharges z bank) ∨ (s.banks[bankIndex bank]).minOnEnd.isSome = true) ∧
  (∀ z : Zone, s.valves.tests[z] ≠ none → ∃ r, s.zones[z] = some r ∧ r.state = .isolated) ∧
  (s.isRunning = false → ∀ z : Zone, s.valves.tests[z] = none)

/-- R35: a door is UNLOCKED, or OPEN or HELD_OPEN with opening kind GRANTED. -/
def DoorRec.underGrant (r : DoorRec) : Prop :=
  r.state = .unlocked ∨ ((r.state = .opened ∨ r.state = .heldOpen) ∧ r.openingKind = some .granted)

/-- R32, R34, R35, R40, R41, R96: a door is UNLOCKED exactly while it has a grant, has an opening kind exactly while OPEN or HELD_OPEN, an
open-since time exactly while OPEN, HELD_OPEN or FORCED, and a withdrawn-window end only while SECURE; no grant stands that the inside zone's
state forbids, and no pairing record into a zone that bars entry; partners name each other, and at most one of them is UNLOCKED or open under
a grant. -/
def DoorsSound (s : State) : Prop :=
  ∀ d r, s.doors[(d : Door)] = some r →
    (r.state = .unlocked ↔ r.grant.isSome = true) ∧
    (r.openingKind.isSome = true ↔ r.state = .opened ∨ r.state = .heldOpen) ∧
    (r.openSince.isSome = true ↔ r.state = .opened ∨ r.state = .heldOpen ∨ r.state = .forced) ∧
    (r.withdrawnEnd.isSome = true → r.state = .secure) ∧
    (∀ g, r.grant = some g → s.zonePermits r.cfg.inside g.kind = true) ∧
    (r.pairing.isSome = true → s.bars r.cfg.inside = false) ∧
    (∀ p, r.cfg.partner = some p →
      p ≠ d ∧ ∃ x, s.doors[p] = some x ∧ x.cfg.partner = some d ∧ ¬(r.underGrant ∧ x.underGrant))

end Sys2Proof.Machine
end

