-- ==== Sys2Proof/Certificates/Slice0/Obligations.lean ====
section
/-! DEFINITION. The statements for the provers. -/

section

open Sys2Proof Sys2Proof.Machine

/-! ## Steps, resets, loading -/

/-- One step runs the command at the front of the queue on the state with the queue's rest, and idles on an empty queue
(notes/assumptions/1.md: the queue is the model's own). -/
def Obligations.StepRunsFrontCommand : Prop :=
  (∀ (c : Instr) (s : State), step { s with pending := c :: s.pending } = exec c s) ∧
  ∀ s : State, s.pending = [] → step s = .next s

/-- Every command gives a next state, in every state and with every operand, and leaves the commands that wait alone. -/
def Obligations.EveryCommandCompletes : Prop :=
  ∀ (c : Instr) (s : State), Completes (exec c s) fun t => t.pending = s.pending

/-- R197: what the three reset events leave. A power-on reset leaves the reset state; an asserted RESET line clears every block but the
accumulator, K, the reference frequency and the time-of-day; its release starts a load from address 0. The values of the reset state the
manual does not give are those of notes/assumptions/36.md; the count of ended loads, which no reset changes, is the model's own
(notes/assumptions/4.md); that a power-on reset starts its load at once even while the RESET line is
asserted is the model's choice (notes/assumptions/52.md). -/
def Obligations.ResetsLeaveTheirState : Prop :=
  ∀ s : State,
    exec .powerOnReset s = .next
      { State.reset with
        time := { State.reset.time with loadsEnded := s.time.loadsEnded }, pending := s.pending } ∧
    exec .resetLineAssert s = .next
      { State.reset with
        time := { s.time with ms := 0, sec := 0, dsDue := 0, secDue := 0 },
        loader := { State.reset.loader with phase := .resetHeld, resetKind := .resetLine }, pending := s.pending } ∧
    (s.loader.phase = .resetHeld →
      exec .resetLineRelease s = .next { s with loader := { State.reset.loader with resetKind := .resetLine } })

/-- R2, R121, R136, R152, R175, R190, R194, R198, R199: a whole record whose check holds, whose length is at most 60 and after which the memory
goes on moves the load past itself; it is stored, or skipped with UNKNOWN_RECORD when its kind or index is unknown or a required field is
missing. That a field clamped in a skipped record sets no flag of its own is the model's choice (notes/assumptions/57.md). The kinds with their
index ranges, and what a record of each kind is stored as, are stated with it; that a field of which only some bytes are present is missing, and
the thresholds of a LINE record with one or two of them, are the model's (notes/assumptions/9.md, 10.md), and so is what a ZONE record's
two-person byte above 1 is stored as (notes/assumptions/60.md). The record that ends the memory is in LoadEndsWithStartupDone. -/
def Obligations.ConfigRecordIsTaken : Prop :=
  RecordsStored ∧
  (∀ kind index : Nat, recordKnown kind index = true ↔
    (kind = 1 ∧ index = 0) ∨ (kind = 2 ∧ index ≤ 63) ∨ (kind = 3 ∧ index ≤ 15) ∨ (kind = 4 ∧ index ≤ 7) ∨
      (kind = 5 ∧ index ≤ 1) ∨ (kind = 6 ∧ index ≤ 7) ∨ (kind = 7 ∧ index ≤ 3) ∨ (kind = 8 ∧ index ≤ 3)) ∧
  ∀ (s : State) (kind index check : Byte) (data rest : List Byte),
    s.loader.phase = .loading → kind ≠ 0 → data.length ≤ 60 → s.loader.address + data.length + 4 < 4096 →
    byteSum (kind :: index :: byteOf data.length :: (data ++ [check])) = 0 →
    let command := Instr.configRecordRead (kind :: index :: byteOf data.length :: (data ++ check :: rest))
    let moved : Loader :=
      { s.loader with
        address := s.loader.address + data.length + 4, bytesRead := s.loader.address + data.length + 4 }
    (recordKnown kind.toNat index.toNat = false ∨ s.loader.records.store kind.toNat index.toNat data = none →
      exec command s = .next { s with loader := { moved with flags := { moved.flags with unknownRecord := true } } }) ∧
    ∀ records clamped, recordKnown kind.toNat index.toNat = true →
      s.loader.records.store kind.toNat index.toNat data = some (records, clamped) →
      exec command s = .next
        { s with
          loader :=
            { moved with
              records := records, recordsTaken := s.loader.recordsTaken + 1,
              flags := { moved.flags with clamped := s.loader.flags.clamped || clamped } } }

/-- R94, R32, R199: the fields READ_ZONE and READ_DOOR give of a configuration, taken as the data of a ZONE or DOOR record, configure
exactly that zone or door, and nothing is clamped. The byte of the two-person mark is the model's (notes/assumptions/25.md). -/
def Obligations.ConfigurationReadsBack : Prop :=
  (∀ c : ZoneCfg, c.inRange → readZoneRecord c.fields = (c, false)) ∧
  ∀ c : DoorCfg, c.inRange → readDoorRecord c.fields = some (c, false)

/-- R194, R197, R198, R200: a load ends at a STOP byte; with CONFIG_ABSENT when the memory answers nothing at address 0; with
CONFIG_INCOMPLETE when it answers nothing later, falls silent within a record, or a record is too long, fails its check or would extend
beyond address 4095; and, without that flag, with a record that ends exactly there. Each time STARTUP_DONE is queued, the blocks start
work, and K becomes that of the loaded f_ref, while the accumulator keeps what the old K has added up to then. What is settled beyond the
rules' words is in notes/assumptions/4.md (how many cycles those are), 8.md (the bytes counted), 11.md (the record that ends the memory),
12.md, 13.md, 29.md, 36.md and 57.md (the flags of a skipped record). -/
def Obligations.LoadEndsWithStartupDone : Prop :=
  ∀ s : State, s.loader.phase = .loading →
    let here := s.loader.address
    let ends (bytes : List Byte) (l : Loader) : Prop := Completes (exec (.configRecordRead bytes) s) (LoadEnds s l)
    let stopped (read : Nat) : Loader :=
      { s.loader with bytesRead := read, flags := { s.loader.flags with incomplete := true } }
    (∀ rest : List Byte, here < 4096 → ends (0 :: rest) { s.loader with address := here + 1, bytesRead := here + 1 }) ∧
    (here = 0 → ends [] { s.loader with flags := { s.loader.flags with absent := true } }) ∧
    (here ≠ 0 → ends [] (stopped here)) ∧
    (∀ bytes : List Byte, here + bytes.length < 4096 → RecordCutShort bytes → ends bytes (stopped (here + bytes.length))) ∧
    (∀ bytes : List Byte, here < 4096 → 4096 ≤ here + bytes.length → RecordCutShort (bytes.take (4096 - here)) →
      ∃ read, here < read ∧ read ≤ 4096 ∧ ends bytes (stopped read)) ∧
    ∀ (kind index check : Byte) (data rest : List Byte), kind ≠ 0 → data.length < 256 →
      let whole := byteSum (kind :: index :: byteOf data.length :: (data ++ [check])) = 0
      let bytes := kind :: index :: byteOf data.length :: (data ++ check :: rest)
      (here + data.length + 4 ≤ 4096 → 60 < data.length ∨ ¬whole → ends bytes (stopped (here + data.length + 4))) ∧
      (here + data.length + 4 = 4096 → data.length ≤ 60 → whole →
        let moved : Loader := { s.loader with address := 4096, bytesRead := 4096 }
        (recordKnown kind.toNat index.toNat = false ∨ s.loader.records.store kind.toNat index.toNat data = none →
          ends bytes { moved with flags := { s.loader.flags with unknownRecord := true } }) ∧
        ∀ records clamped, recordKnown kind.toNat index.toNat = true →
          s.loader.records.store kind.toNat index.toNat data = some (records, clamped) →
          ends bytes
            { moved with
              records := records, recordsTaken := s.loader.recordsTaken + 1,
              flags := { s.loader.flags with clamped := s.loader.flags.clamped || clamped } })

/-! ## Time -/

/-- R194, R195: a millisecond tick is a carry out of the accumulator, reached after the least number of cycles that add K past 2^32; the
counts since reset rise by one and make a decisecond and a second tick due at each 100th and 1000th, and the time-of-day's
millisecond count runs while it is set. While the reset input is asserted the counts since reset stand. Ticks that have come due are
the model's own fields (notes/assumptions/5.md). The accumulator of the state is that of the latest carry, or of the end of a load after it,
which LoadEndsWithStartupDone states (notes/assumptions/4.md). -/
def Obligations.MillisecondTickCounts : Prop :=
  ∀ s : State, 0 < s.time.k → s.time.k < 4294967296 →
    Completes (exec .millisecondTick s) fun t =>
      t = { s with time := t.time } ∧
      (∃ n, 0 < n ∧ s.time.acc.toNat + (n - 1) * s.time.k < 4294967296 ∧
        s.time.acc.toNat + n * s.time.k = t.time.acc.toNat + 4294967296) ∧
      t.time =
        { s.time with
          acc := t.time.acc,
          ms := if s.loader.phase = .resetHeld then s.time.ms else s.time.ms + 1,
          dsDue := if s.loader.phase ≠ .resetHeld ∧ (s.time.ms + 1) % 100 = 0 then s.time.dsDue + 1 else s.time.dsDue,
          secDue := if s.loader.phase ≠ .resetHeld ∧ (s.time.ms + 1) % 1000 = 0 then s.time.secDue + 1 else s.time.secDue,
          todMs := if s.time.tod.isSome then s.time.todMs + 1 else s.time.todMs }

/-- R112, R115: a decisecond tick lowers R by 1 in every zone in COUNTDOWN; where that makes R zero the zone enters DISCHARGE and D and R
are discarded. A zone in any other state keeps its state, D and R. That a tick waits in a count of due ticks is the model's
(notes/assumptions/5.md). -/
def Obligations.DecisecondTickLowersCountdowns : Prop :=
  ∀ s : State, s.time.dsDue ≠ 0 →
    Completes (exec .decisecondTick s) fun t =>
      t = { s with
          time := { s.time with dsDue := s.time.dsDue - 1 }, doors := t.doors, occupancy := t.occupancy, zones := t.zones,
          valves := t.valves, banks := t.banks, link := t.link, ports := t.ports, bus := t.bus } ∧
      (∀ z : Zone, (s.zones[z]).isNone → (t.zones[z]).isNone) ∧
      ∀ (z : Zone) (r : ZoneRec), s.zones[z] = some r →
        ∃ x, t.zones[z] = some x ∧ x.cfg = r.cfg ∧ x.kind = r.kind ∧ x.entryHold = r.entryHold ∧
          x.holdLines = r.holdLines ∧ x.holdAlarms = r.holdAlarms ∧
          (r.state ≠ .countdown → x.state = r.state ∧ x.delay = r.delay ∧ x.remaining = r.remaining ∧
            x.dischargeStart = r.dischargeStart) ∧
          (∀ n, r.state = .countdown → r.remaining = some (n + 2) →
            x.state = .countdown ∧ x.delay = r.delay ∧ x.remaining = some (n + 1)) ∧
          (r.state = .countdown → r.remaining = some 1 →
            x.state = .discharge ∧ x.delay = none ∧ x.remaining = none ∧ x.dischargeStart = some s.nowMs)

/-- R194, R195: a second tick that has come due counts one second since reset; the second of the time-of-day rises by 1 once its
millisecond count has reached 1000, and while the time-of-day is unset nothing advances (notes/assumptions/5.md). -/
def Obligations.SecondsAdvance : Prop :=
  ∀ s : State,
    (s.time.secDue ≠ 0 →
      exec .secondTick s = .next { s with time := { s.time with secDue := s.time.secDue - 1, sec := s.time.sec + 1 } }) ∧
    (∀ now, s.time.tod = some now → 1000 ≤ s.time.todMs → now.second < 59 →
      exec .timeOfDaySecond s = .next
        { s with
          time := { s.time with tod := some { now with second := now.second + 1 }, todMs := s.time.todMs - 1000 } }) ∧
    (s.time.tod = none → exec .timeOfDaySecond s = .next s)

/-- R59, R63, R64, R65, R86, R88, R89, R159, R195: a second that reaches 60 is a minute boundary: a committed schedule set is swapped in, and
then the mode of every configured zone becomes the one its schedule gives at the new time. In a zone whose mode changes the entries gain or lose
their deadlines, the check-in warning is found afresh, and the lone-occupant timer starts or stops as the lone condition then stands; a change
to WORKING ends the MISSED_CHECKIN conditions of the persons inside, and a timer that stops ends its LONE_OCCUPANT condition. Reserved places
and uncertain flags stand. SCHEDULE_SWAPPED is queued where a set is swapped in, and then the notices of the conditions that end, and no other.
A zone's evaluation gives WORKING exactly while it names a schedule that is active: the time-of-day is set, and its minute lies in an interval
of the day-kind, which is the holiday's on a listed date and else the weekday's. -/
def Obligations.MinuteBoundaryEvaluatesModes : Prop :=
  (∀ (s : State) (n : Fin 16), s.scheduleActive n = true ↔ ∃ now, s.time.tod = some now ∧
    ∃ kind : Fin 8, (if now.date ∈ s.schedules.active.holidays then kind.val = 7 else kind.val = now.date.weekday.val) ∧
      ∃ i ∈ (s.schedules.active.schedules[n])[kind],
        i.start ≤ now.hour * 60 + now.minute ∧ now.hour * 60 + now.minute < i.stop) ∧
  (∀ (s : State) (z : Zone), s.evaluatedMode z = .working ↔
    ∃ r n, s.zones[z] = some r ∧ r.cfg.schedule = some n ∧ s.scheduleActive n = true) ∧
  ∀ (s : State) (now : DateTime), s.time.tod = some now → 1000 ≤ s.time.todMs → 59 ≤ now.second →
    let u : State :=
      { s with
        time := { s.time with tod := some now.next, todMs := s.time.todMs - 1000 },
        schedules :=
          { s.schedules with
            active := if s.schedules.ready then s.schedules.staged else s.schedules.active, ready := false } }
    Completes (exec .timeOfDaySecond s) fun t =>
      t = { u with
          schedules := { u.schedules with modes := t.schedules.modes }, occupancy := t.occupancy, link := t.link,
          alarms := t.alarms, ports := t.ports } ∧
      (∀ z : Zone, t.schedules.modes[z] = if (s.zones[z]).isSome then u.evaluatedMode z else s.schedules.modes[z]) ∧
      (∃ bodies, QueuesGain u t ((if s.schedules.ready then [.scheduleSwapped] else []) ++ bodies) ∧
        OccupancyFollowsModes s t bodies) ∧
      ((∀ z : Zone, t.schedules.modes[z] = s.schedules.modes[z]) →
        t = { u with ports := t.ports } ∧ QueuesGain u t (if s.schedules.ready then [.scheduleSwapped] else []))

/-- R195: the date after a calendar date is a calendar date, later by one in the order of dates and on the next day of the week; 31
December 2255 is followed by 1 January 2000, a Saturday. The time after a time of day in range is in range. -/
def Obligations.CalendarAdvances : Prop :=
  (∀ d : Date, d.valid = true → d ≠ ⟨255, 12, 31⟩ →
    d.next.valid = true ∧ d.le d.next = true ∧ d.next ≠ d ∧ d.next.weekday.val = (d.weekday.val + 1) % 7 ∧
      ∀ e : Date, e.valid = true → d.le e = true → e ≠ d → d.next.le e = true) ∧
  Date.next ⟨255, 12, 31⟩ = ⟨0, 1, 1⟩ ∧ (Date.weekday ⟨0, 1, 1⟩).val = 5 ∧
  ∀ t : DateTime, t.valid = true → t.next.valid = true

/-! ## Supervised lines -/

/-- R2, R3: the plain class of a code lies between its thresholds, and a class once measured is kept while the code lies within its
thresholds widened by 4 on either side; else the plain class is taken. -/
def Obligations.MeasuredClassHasHysteresis : Prop :=
  ∀ (c : LineCfg) (code : Nat), c.t1 < c.t2 → c.t2 < c.t3 →
    (c.measure none code = .short ↔ code < c.t1) ∧
    (c.measure none code = .normal ↔ c.t1 ≤ code ∧ code < c.t2) ∧
    (c.measure none code = .active ↔ c.t2 ≤ code ∧ code < c.t3) ∧
    (c.measure none code = .openCircuit ↔ c.t3 ≤ code) ∧
    c.measure (some .short) code = (if code < c.t1 + 4 then .short else c.measure none code) ∧
    c.measure (some .normal) code =
      (if (c.t1 : Int) - 4 ≤ code ∧ code < c.t2 + 4 then .normal else c.measure none code) ∧
    c.measure (some .active) code =
      (if (c.t2 : Int) - 4 ≤ code ∧ code < c.t3 + 4 then .active else c.measure none code) ∧
    c.measure (some .openCircuit) code = (if (c.t3 : Int) - 4 ≤ code then .openCircuit else c.measure none code)

/-- R4: the three ways a debounce advances, the debounce count of each role, and that a class neither reported nor candidate is reported
after exactly N consecutive scans of it, before which it is the candidate with the count of its scans. -/
def Obligations.ReportAfterNConsecutiveScans : Prop :=
  (∀ (r : LineRec) (k : LineClass),
    (r.reported = some k → r.debounced k = { r with candidate := none, count := 0 }) ∧
    (r.reported ≠ some k → r.candidate = some k → r.count + 1 < r.cfg.role.debounce →
      r.debounced k = { r with count := r.count + 1 }) ∧
    (r.reported ≠ some k → r.candidate = some k → r.count + 1 = r.cfg.role.debounce →
      r.debounced k = { r with reported := some k, candidate := none, count := 0 }) ∧
    (r.reported ≠ some k → r.candidate ≠ some k →
      r.debounced k = { r with candidate := some k, count := 1 } ∧
      (∀ n, 0 < n → n < r.cfg.role.debounce →
        (fun x : LineRec => x.debounced k)^[n] r = { r with candidate := some k, count := n }) ∧
      (fun x : LineRec => x.debounced k)^[r.cfg.role.debounce] r =
        { r with reported := some k, candidate := none, count := 0 })) ∧
  (∀ d z o, (LineRole.doorContact d).debounce = 3 ∧ (LineRole.valveFeedback o).debounce = 3 ∧
    (LineRole.egressHandle d).debounce = 2 ∧ (LineRole.abortStation z).debounce = 5 ∧
    (LineRole.alarmButton z).debounce = 5 ∧ LineRole.unused.debounce = 3)

/-- R1, R3, R4, R5: a scan that is due and whose debounce reports nothing records its code, class, time and candidate in its line and
changes nothing else. It is due from ten ticks after the last scan of the line on, and a scan that is not due changes nothing; that a late
scan is still taken is the model's reading (notes/assumptions/30.md). -/
def Obligations.ScanWithoutReportChangesOnlyItsLine : Prop :=
  ∀ (s : State) (l : Line) (code : Byte) (r : LineRec), s.isRunning = true → s.lines[l] = some r →
    let k := r.cfg.measure r.measured code.toNat
    let n := if r.candidate = some k then r.count + 1 else 1
    let due := ∀ t, r.lastScan = some t → t + 10 ≤ s.nowMs
    (due → r.reported = some k ∨ n < r.cfg.role.debounce →
      exec (.lineScan l code) s = .next
        { s with
          lines := s.lines.put l (some
            { r with
              code := some code, measured := some k, lastScan := some s.nowMs,
              candidate := if r.reported = some k then none else some k,
              count := if r.reported = some k then 0 else n }) }) ∧
    (¬due → exec (.lineScan l code) s = .next s)

/-- R5, R8 to R12, R108, R109, R113, R117, R121, R126 to R130, R132, R157, R159: what a report of a line comes to that is no contact line. The
time of an egress handle's change into ACTIVE is kept. An abort station joins the hold-source set of its zone when it becomes ACTIVE, where a
COUNTDOWN becomes HELD with its R frozen, and leaves it when it leaves ACTIVE, where a HELD zone whose set is then empty counts down again
from the greater of its frozen R and a fresh delay. An alarm button raises ALARM_BUTTON, and ends its condition. A valve's feedback is
recorded and judged: it passes a pending check, or sets, changes or removes the path fault of an output without one. LINE_FAULT is
queued where R12 asks for it. That only a change out of ACTIVE sets the fault of an output that is ON, and that a path fault's notice stands
before the result of a test, are the model's readings (notes/assumptions/24.md, 46.md); that a fault set
again with the kind it has is no change to report is its choice (58.md). The premises on grants and on the alarm list are
kept by every step (DoorsAreSound, AlarmListStaysSound). -/
def Obligations.OtherLineReportsAreHandedOn : Prop :=
  ∀ (s : State) (l : Line) (code : Byte) (r : LineRec) (k : LineClass), ScanReports s l code r k →
    let u : State := { s with lines := s.linesReported l code r k }
    let faults := lineFaultTold l r k
    let completes (P : State → Prop) : Prop := Completes (exec (.lineScan l code) s) P
    let onlyTells := completes fun t => t = { u with ports := t.ports } ∧ QueuesGain u t faults
    (r.cfg.role = .unused → onlyTells) ∧
    -- an egress handle (R8)
    (∀ d, r.cfg.role = .egressHandle d → completes fun t =>
      t = { u with
          doors :=
            if k = .active then s.doors.put d ((s.doors[d]).map fun x => { x with handleActive := some s.nowMs }) else s.doors,
          ports := t.ports } ∧
      QueuesGain u t faults) ∧
    -- an abort station (R9, R108, R109, R113)
    (∀ z, r.cfg.role = .abortStation z →
      (s.zones[z] = none → onlyTells) ∧
      (k ≠ .active → r.reported ≠ some .active → onlyTells) ∧
      ∀ x, s.zones[z] = some x →
        let keeps (y : ZoneRec) : Prop := completes fun t =>
          t = { u with zones := s.zones.put z (some y), ports := t.ports } ∧ QueuesGain u t faults
        let turns (y : ZoneRec) (cause : ZoneCause) : Prop := completes fun t =>
          t = { u with
              zones := s.zones.put z (some y), doors := t.doors, bus := t.bus, link := t.link, ports := t.ports } ∧
          t.link = s.link.shows z y (s.alarms.displayFlag z) s.occupancy.warning[z] ∧
          (s.noneWaiting z → QueuesGain u t (faults ++ [zoneStateBody z y x.state cause]))
        (k = .active →
          let lines := insertAscending l x.holdLines
          (x.state = .countdown → s.grantsFit z → turns { x with state := .held, holdLines := lines } .hold) ∧
          (x.state ≠ .countdown → keeps { x with holdLines := lines })) ∧
        (r.reported = some .active →
          let lines := x.holdLines.filter (· ≠ l)
          let delay := x.cfg.egressDelay x.summary.load
          (x.state = .held → lines = [] → x.holdAlarms = [] → s.grantsFit z →
            turns
              { x with
                state := .countdown, holdLines := [], delay := some delay,
                remaining := some (max (x.remaining.getD 0) delay) } .holdReleased) ∧
          (x.state ≠ .held ∨ lines ≠ [] ∨ x.holdAlarms ≠ [] → keeps { x with holdLines := lines }))) ∧
    -- an alarm button (R10, R157, R159)
    (∀ z, r.cfg.role = .alarmButton z →
      (s.zones[z] = none → onlyTells) ∧
      (k ≠ .active → r.reported ≠ some .active → onlyTells) ∧
      (s.zones[z] ≠ none → AlarmListSound s →
        let hands (P : State → State → Prop) : Prop := completes fun t =>
          ∃ v, v = { u with ports := v.ports } ∧ QueuesGain u v faults ∧ P v t
        (k = .active → hands fun v t => Raises v t .alarmButton (.line l) (some z)) ∧
        (r.reported = some .active → hands fun v t => ConditionEnds v t .alarmButton (.line l)))) ∧
    -- a valve's feedback (R11, R121, R126 to R129)
    ∀ o, r.cfg.role = .valveFeedback o →
      let w := s.valves.outputs[o]
      let x : OutputRec := { w with feedback := some k }
      let tests := s.valves.tests
      let settles (y : OutputRec) (after : Tab (Option TestRec) 8) (more : List NoticeBody) : Prop :=
        completes fun t => OutputBecomes u t o y after none more
      (w.inService = false ∨ w.feedbackLine = none → exec (.lineScan l code) s = .next u) ∧
      (w.inService = true → w.feedbackLine ≠ none →
        (∀ check, w.check = some check →
          let wanted : LineClass := match check.kind with | .onCheck => .active | .offCheck => .normal
          let passed : OutputRec := { x with check := none, fault := none }
          (k ≠ wanted → settles x tests []) ∧
          (k = wanted →
            (∀ bank, o = mainValveOf bank → settles passed tests []) ∧
            ∀ z, o = selectorOf z →
              match check.kind, tests[z] with
              | .onCheck, some ⟨start, .first _⟩ => settles passed (tests.put z (some ⟨start, .first true⟩)) []
              | .offCheck, some ⟨_, .second onPassed⟩ => settles passed (tests.put z none) [.testResult z onPassed true false]
              | .onCheck, _ | .offCheck, _ => settles passed tests [])) ∧
        (w.check = none → w.drive = true →
          (w.feedback = some .active → ∀ fault,
            (k = .normal ∧ fault = .noCurrent) ∨ (k = .openCircuit ∧ fault = .coilOpen) ∨ (k = .short ∧ fault = .coilShort) →
            settles { x with fault := some fault } tests []) ∧
          (w.feedback ≠ some .active ∨ k = .active → settles x tests [])) ∧
        (w.check = none → w.drive = false → ∀ fault,
          (k = .normal ∧ fault = none) ∨ (k = .active ∧ fault = some .currentAtRest) ∨
            (k = .openCircuit ∧ fault = some .coilOpen) ∨ (k = .short ∧ fault = some .coilShort) →
          settles { x with fault := fault } tests []))

/-! ## The door bus -/

/-- R17: a byte received in the answer window of a POLL exchange before its ninth is stored, and its framing error remembered; a byte on an
idle bus, while a DRIVE is sent, or outside the window is discarded, whatever exchange is on the bus by then. Where a byte arrived is said by
the command (notes/assumptions/41.md). -/
def Obligations.PollAnswerBytesAreStored : Prop :=
  ∀ (s : State) (b : Byte),
    (∀ framingError m kind received bad, s.bus.tx = .poll m kind received bad → received.length < 8 →
      exec (.pollAnswerByteReceived b (.inWindow framingError)) s = .next
        { s with bus := { s.bus with tx := .poll m kind (received ++ [b]) (bad || framingError) } }) ∧
    exec (.pollAnswerByteReceived b .outsideWindow) s = .next s ∧
    (∀ arrival, s.bus.tx = .idle → exec (.pollAnswerByteReceived b arrival) s = .next s) ∧
    ∀ arrival m kind lock indicator check, s.bus.tx = .drive m kind lock indicator check →
      exec (.pollAnswerByteReceived b arrival) s = .next s

/-- R17, R19, R20, R22, R26, R43: the end of the answer window is a failed exchange, MISSING without a byte, LATE with eight bytes and a
ninth begun, else TRUNCATED. It is counted, and the next transaction starts; the third failure in a row of an ONLINE module makes
it OFFLINE, drops its pending drive and takes its door OFFLINE. -/
def Obligations.PollFailureIsCounted : Prop :=
  ∀ (s : State) (ninthBegun : Bool) (m : Module) (kind : Byte) (received : List Byte) (bad : Bool) (r : ModuleRec),
    s.bus.tx = .poll m kind received bad → s.bus.modules[m] = some r →
    let failure : PollFailure :=
      if received = [] then .missing else if received.length = 8 ∧ ninthBegun = true then .late else .truncated
    Completes (exec (.pollWindowExpiry ninthBegun) s) fun t => PollFails s t m r failure

/-- R18 to R29, R33, R41, R43: the ninth byte of a POLL answer ends the exchange, and the next transaction starts. An answer with a framing
error, a wrong check or a reader event kind out of range is BAD and counted as a failure. A good answer makes its module ONLINE, clears the
failures, and records tamper, lock feedback and toggle. A module that comes ONLINE takes its door out of OFFLINE where its contact is
classified; a change of presence or tamper gives MODULE_STATE, behind a DOOR_STATE of the door; feedback that newly reads THROWN ends the
withdrawn window; a module that came back or shows a fresh start is sent its door's lock and indicator. A new toggle of an ONLINE module
without a fresh start hands its reader event to the Access Decision Unit. The premise that the door's module is this one is R15's
assignment. -/
def Obligations.PollAnswerIsJudged : Prop :=
  ∀ (s : State) (b : Byte) (framingError : Bool) (m : Module) (kind status : Byte) (rest : List Byte) (bad : Bool)
    (r : ModuleRec),
    s.bus.tx = .poll m kind (status :: rest) bad → rest.length = 7 → s.bus.modules[m] = some r →
    let event := status.toNat / 16 % 8
    let good := bad = false ∧ framingError = false ∧ byteSum (moduleAddress m :: kind :: status :: (rest ++ [b])) = 0 ∧ event < 4
    let toggle := status.getLsbD 7
    let tamper := status.getLsbD 0
    let lock : LockFeedback := if status.getLsbD 1 then .thrown else .retracted
    let fresh := status.getLsbD 2
    let x : ModuleRec :=
      { r with online := true, failures := 0, tamper := some tamper, lockFeedback := some lock, toggle := some toggle }
    let modules := s.bus.modules.put m (some x)
    let taken := r.online = true ∧ fresh = false ∧ r.toggle = some (!toggle) ∧ event ≠ 0
    let recovers := r.online = false ∨ fresh = true
    let told : List NoticeBody :=
      if r.online = true ∧ r.tamper = some tamper then [] else [.moduleState m r.door true (some tamper) none]
    let window (y : DoorRec) : DoorRec :=
      if lock = .thrown ∧ r.lockFeedback ≠ some .thrown then { y with withdrawnEnd := none } else y
    (¬good → Completes (exec (.pollAnswerReceived b framingError) s) fun t => PollFails s t m r .bad) ∧
    (good → ¬taken →
      Completes (exec (.pollAnswerReceived b framingError) s) fun t =>
        t = { s with bus := t.bus, doors := t.doors, ports := t.ports } ∧
        (∃ queue, BusChooses { t with bus := { s.bus with modules := modules, queue := queue, tx := .idle } } t ∧
          (¬recovers ∨ s.doors[r.door] = none → queue = s.bus.queue) ∧
          (recovers → ∀ w, t.doors[r.door] = some w → w.module = some m →
            queue = withDrive s.bus.queue m
              { lock := doorLock w, indicator := doorIndicator w (s.bars w.cfg.inside), chirp := false })) ∧
        (∀ d, d ≠ r.door → t.doors[d] = s.doors[d]) ∧
        (s.doors[r.door] = none → t.doors = s.doors ∧ QueuesGain s t told) ∧
        ∀ y, s.doors[r.door] = some y →
          (r.online = true ∨ y.state ≠ .offline ∨ y.contactOpen = none →
            t.doors[r.door] = some (window y) ∧ QueuesGain s t told) ∧
          ∀ opened, r.online = false → y.state = .offline → y.contactOpen = some opened →
            let back : DoorRec :=
              if opened = true then
                { y with state := .opened, openingKind := some .foundOpen, openSince := some s.nowMs, leftOffline := true }
              else { y with state := .secure, openingKind := none, openSince := none, leftOffline := true }
            t.doors[r.door] = some (window (back.driven (s.bars y.cfg.inside))) ∧
            QueuesGain s t
              (.doorState r.door back.state .offline (if y.leftOffline = true then .moduleOnline else .firstClassified) none
                (if opened = true then some .foundOpen else none) :: told)) ∧
    (good → taken →
      ∀ reader, (event = 1 ∧ reader = .entryRead) ∨ (event = 2 ∧ reader = .exitRead) ∨ (event = 3 ∧ reader = .checkin) →
        ∃ v u,
          v = { s with
            bus := { s.bus with modules := modules },
            doors := s.doors.put r.door ((s.doors[r.door]).map window), ports := v.ports } ∧
          QueuesGain s v told ∧
          u = v.present r.door
            { reader := reader, credential := numberOf (rest.take 4), pin := readPin (digitPositions (rest.drop 4)) } ∧
          Completes (exec (.pollAnswerReceived b framingError) s) (BusChooses { u with bus := { u.bus with tx := .idle } }))

/-- R18, R20, R21: the end of a DRIVE frees the bus, and the next transaction starts at once; an OFFLINE module that has become eligible
starts one on an idle bus, and waits for a bus that is not. A DRIVE's five bytes sum to zero. -/
def Obligations.BusChoosesNextTransaction : Prop :=
  (∀ (s : State) m kind lock indicator check, s.bus.tx = .drive m kind lock indicator check →
    Completes (exec .driveEnd s) (BusChooses { s with bus := { s.bus with tx := .idle } })) ∧
  (∀ (s : State) (m : Module), s.isRunning = true → s.mayPoll m →
    (s.bus.tx = .idle → Completes (exec (.moduleRetryDue m) s) (BusChooses s)) ∧
    (s.bus.tx ≠ .idle → exec (.moduleRetryDue m) s = .next s)) ∧
  ∀ (m : Module) (toggle : Option Bool) (d : Drive), ∃ kind lock indicator check,
    driveFrame m toggle d = .drive m kind lock indicator check ∧
    byteSum [moduleAddress m, kind, lock, indicator, check] = 0

/-! ## Doors and access -/

/-- R34, R35, R46 to R48, R55, R58, R68 to R75, R78: what a presentation at a reader of a configured door comes to, and what each test of a
decision asks. An ENTRY_READ is denied by the first of the twelve steps that it fails, then by R34; where the two-person step applies and no
other person waits, it begins a pairing record; else the ENTRY grant, for a pair or for the person alone, is installed. An EXIT_READ installs
an EXIT grant, and a CHECKIN checks the person in, or each is denied. A presentation marked duress raises DURESS_PIN in the inside zone
besides, from the state the decision left (notes/assumptions/19.md). That the ALARM_CHANGED of an accepted check-in stands before its
OCCUPANCY_CHANGE is the model's choice (notes/assumptions/55.md). -/
def Obligations.EntryReadInstallsGrant : Prop :=
  (∀ s : State, TestsAsk s) ∧
  ∀ (s : State) (d : Door) (r : DoorRec) (credential : Nat) (pin : KeyedPin), s.doors[d] = some r → AlarmListSound s →
    let z := r.cfg.inside
    let presented (reader : Reader) := s.present d ⟨reader, credential, pin⟩
    let known := s.byCredential credential
    let faulty := r.state = .offline ∨ r.state = .fault
    let busy := r.state ≠ .secure ∨ r.grant ≠ none
    (∀ reader,
      (faulty → Denies s (presented reader) d r reader credential (known.map (·.1)) .doorFault false) ∧
      (¬faulty → known = none → Denies s (presented reader) d r reader credential none .unknownCredential false)) ∧
    ∀ p who, ¬faulty → known = some (p, who) →
      let denied (reader : Reader) (reason : DenialReason) : Prop :=
        Denies s (presented reader) d r reader credential (some p) reason false
      (s.withinValidity who = false → denied .entryRead .expired ∧ denied .exitRead .expired) ∧
      (s.withinValidity who = true →
        let tested := pinTest (pinRequired r.cfg.pinRule s.schedules.modes[z]) who.pin pin
        (tested = none → denied .entryRead .badPin) ∧
        (∀ duress, tested = some duress → ∃ u,
          (if duress = true then Raises u (presented .entryRead) .duressPin (.person p) (some z)
            else presented .entryRead = u) ∧
          let me : GrantPerson := ⟨p, duress⟩
          let pairs := s.twoPersonApplies z = true
          let persons : List GrantPerson :=
            match r.pairing with
            | some x => if pairs ∧ x.first.person ≠ p then [x.first, me] else [me]
            | none => [me]
          let alone := pairs ∧ persons = [me]
          let reason : Option DenialReason :=
            if s.bars z = true then some .zoneBarred
            else if s.groupsPermit who z = false then some .notPermitted
            else if s.entryCondition r.cfg (persons.map (·.person)) = false then some .condition
            else if ∃ y ∈ persons, s.noPassback r.cfg y.person = false then some .passback
            else if s.placesFree z persons.length = false then some .zoneFull
            else if s.partnerSecure r.cfg = false then some .interlock
            else if alone ∧ r.pairing ≠ none then some .samePerson
            else if alone ∧ r.state = .secure then none
            else if busy then some .doorBusy
            else none
          (∀ why, reason = some why → Denies s u d r .entryRead credential (some p) why duress) ∧
          (reason = none → alone → PairingBegins s u d r me) ∧
          (reason = none → ¬alone → Installs s u d r .entry persons persons.length)) ∧
        (s.partnerSecure r.cfg = false → denied .exitRead .interlock) ∧
        (s.partnerSecure r.cfg = true → busy → denied .exitRead .doorBusy) ∧
        (s.partnerSecure r.cfg = true → ¬busy → Installs s (presented .exitRead) d r .exit [⟨p, false⟩] 0)) ∧
      (∀ e, s.occupancy.entryOf p = some e → e.zone = z → e.deadline ≠ none → ChecksIn s (presented .checkin) p) ∧
      ((∀ e, s.occupancy.entryOf p = some e → e.zone ≠ z ∨ e.deadline = none) → denied .checkin .checkinRefused)

/-- R20 to R22, R36, R47, R49, R78: at the end of its unlock window the grant of an UNLOCKED door lapses: the grant is removed, its places are
handed back, the door is SECURE, its drive is recomputed, and DOOR_STATE is queued. A drive that is due joins the pending drives or takes the
place of the one that waits for the module, and is sent at once on an idle bus; for a module that is not ONLINE it is discarded. -/
def Obligations.UnlockWindowLapses : Prop :=
  ∀ (s : State) (d : Door) (r : DoorRec) (g : Grant),
    s.doors[d] = some r → r.state = .unlocked → r.grant = some g → g.expiry ≤ s.nowMs →
    let y : DoorRec := { r with state := .secure, grant := none }
    Completes (exec (.unlockWindowExpiry d) s) fun t =>
      t = { s with
          doors := s.doors.put d (some (y.driven (s.bars r.cfg.inside))),
          occupancy :=
            { s.occupancy with
              reserved :=
                s.occupancy.reserved.put r.cfg.inside (s.occupancy.reserved[r.cfg.inside] - g.places) },
          zones := s.zones.put r.cfg.inside
            ((s.zones[r.cfg.inside]).map fun z => { z with summary := t.summaryOf r.cfg.inside }),
          bus := t.bus, ports := t.ports } ∧
      DoorDrives s t y (s.bars r.cfg.inside) ∧
      QueuesGain s t [.doorState d .secure .unlocked .windowExpired (some g) none]

/-- R21, R22, R41, R42, R45, R46, R47: what the other door times do once reached. The withdrawn-window end is removed; an OPEN door becomes
HELD_OPEN; a pairing record expires with ACCESS_DENIED, PAIR_TIMEOUT, and a denial display; a denial display ends. The drive each calls for
is handed over. A door's lock is UNLOCKED only while the door is, and its indicator the first of GREEN for an UNLOCKED door, RED for a denial,
AMBER for a pairing record, RED for a barred zone, and OFF. -/
def Obligations.DoorTimesAreReached : Prop :=
  (∀ (y : DoorRec) (barred : Bool),
    doorLock y = (if y.state = .unlocked then .unlocked else .locked) ∧
    doorIndicator y barred =
      if y.state = .unlocked then .green
      else if y.denialEnd ≠ none then .red
      else if y.pairing ≠ none then .amber
      else if barred = true then .red
      else .off) ∧
  ∀ (s : State) (d : Door) (r : DoorRec), s.doors[d] = some r →
    let shows (t : State) (y : DoorRec) : Prop :=
      t = { s with doors := s.doors.put d (some (y.driven (s.bars r.cfg.inside))), bus := t.bus, ports := t.ports } ∧
      DoorDrives s t y (s.bars r.cfg.inside)
    (∀ e, r.withdrawnEnd = some e → e ≤ s.nowMs →
      exec (.withdrawnWindowEnd d) s = .next { s with doors := s.doors.put d (some { r with withdrawnEnd := none }) }) ∧
    (∀ since, r.state = .opened → r.openSince = some since → since + r.cfg.heldOpenLimit * 1000 ≤ s.nowMs →
      Completes (exec (.heldOpenLimit d) s) fun t =>
        shows t { r with state := .heldOpen } ∧
        QueuesGain s t [.doorState d .heldOpen .opened .heldOpen none none]) ∧
    (∀ (p : Pairing) (who : PersonRec), r.pairing = some p → p.expiry ≤ s.nowMs → s.personAt p.first.person = some who →
      Completes (exec (.pairingExpiry d) s) fun t =>
        shows t { r with pairing := none, denialEnd := some (s.nowMs + 2000), chirpOwed := true } ∧
        QueuesGain s t
          [.accessDenied d .entryRead who.credential (some p.first.person) .pairTimeout p.first.duress]) ∧
    ∀ e, r.denialEnd = some e → e ≤ s.nowMs →
      Completes (exec (.denialDisplayEnd d) s) fun t =>
        shows t { r with denialEnd := none } ∧ t.ports = s.ports

/-- R7, R12, R21, R22, R33, R37 to R44, R49, R78 to R83, R91, R105 to R107: what a report of a contact line does to its door. It opens an
UNLOCKED door under its grant, which is committed by its kind, and a SECURE door after a withdrawal, by the handle, or by force; an OFFLINE
door stays OFFLINE. It closes an open door. It puts the door into FAULT and brings it back, and takes it out of OFFLINE when it is the line's
first. Each zone whose entries or uncertain flag an opening changes is told by OCCUPANCY_CHANGE with its cause and persons, and then acts on
its summary; its check-in warning is found afresh, and its lone-occupant timer starts, starts again or stops as the lone condition then stands
(R88, R89). A removed entry ends its person's MISSED_CHECKIN condition, and a timer that no longer records a person that person's LONE_OCCUPANT
condition (R79, R89, R159); where the alarm list is sound, which every step keeps (AlarmListStaysSound), it is stated what becomes of each
record. The order of the other notices of an opening is not stated (notes/assumptions/16.md), nor the previous state in the second notice
of a door found open (notes/assumptions/43.md); that a door found ACTIVE that goes to OFFLINE gives two notices is the model's reading
(notes/assumptions/15.md), as are one notice for a zone changed twice, and a warning found afresh in a zone that has
only become uncertain (20.md), the cause EXIT where the person was listed elsewhere (21.md),
at most 16 persons named (22.md) and the cause ENTRY where a RESPONSE grant with a person is committed (34.md). The premises on
what a door has in a state are kept by every step (DoorsAreSound). -/
def Obligations.GrantedOpeningCommitsTheGrant : Prop :=
  ∀ (s : State) (l : Line) (code : Byte) (r : LineRec) (d : Door) (x : DoorRec) (k : LineClass),
    ScanReports s l code r k → r.cfg.role = .doorContact d → s.doors[d] = some x →
    x.handleLine ≠ some l → (x.state = .unlocked ↔ x.grant ≠ none) →
    (x.state = .offline ∨ x.state = .fault → x.openingKind = none ∧ x.openSince = none ∧ x.withdrawnEnd = none) →
    let z := x.cfg.inside
    let lines := s.linesReported l code r k
    let outside (y : Zone) : Prop := x.cfg.outside = some y
    let both (y : Zone) : Prop := y = z ∨ outside y
    let completes (P : State → Prop) : Prop := Completes (exec (.lineScan l code) s) P
    let opens (state : DoorState) (opening : Option OpeningKind) (cause : DoorCause) (doubtful : Zone → Prop)
        (entries : List Entry) (more : List NoticeBody) (occupancy : Zone → OccCause) (named : Zone → List Person) : Prop :=
      completes fun t => OpeningGives s t lines d x state opening doubtful entries
        (.doorState d state x.state cause x.grant (if state = .opened then opening else none) :: more) occupancy named
    let nobody (_ : Zone) : List Person := []
    let becomes (y : DoorRec) (bodies : List NoticeBody) : Prop :=
      completes fun t =>
        t = { s with lines := lines, doors := s.doors.put d (some (y.driven (s.bars z))), bus := t.bus, ports := t.ports } ∧
        DoorDrives s t y (s.bars z) ∧ QueuesGain s t bodies
    let keeps (y : DoorRec) : Prop :=
      exec (.lineScan l code) s = .next { s with lines := lines, doors := s.doors.put d (some y) }
    let without (p : Person) := s.occupancy.entries.filter fun e => e.person ≠ p
    let online := ∃ m y, x.module = some m ∧ s.bus.modules[m] = some y ∧ y.online = true
    let lineFault (present : Bool) : NoticeBody := .lineFault l r.cfg.role k r.reported present
    -- an opening under a grant (R37, R78 to R81)
    (∀ g, k = .active → r.reported = some .normal → x.state = .unlocked → x.grant = some g →
      let entered := (s.occupancy.entries.filter fun e => ∀ a ∈ g.persons, a.person ≠ e.person) ++ g.persons.map fun a =>
        { person := a.person, zone := z, door := some d, time := s.nowSec, weight := x.cfg.weight,
          partner := (g.persons.find? fun c => c.person ≠ a.person).map (·.person),
          deadline := if s.schedules.modes[z] = .after then some (s.nowSec + s.checkinPeriod z) else none,
          duress := a.duress, deleted := (s.personAt a.person).isNone }
      (g.kind = .entry ∨ (g.kind = .response ∧ g.persons ≠ []) → g.persons.Pairwise (fun a b => a.person ≠ b.person) →
        opens .opened (some .granted) .grantedOpening
          (fun y => ∃ a ∈ g.persons, ∃ e, s.occupancy.entryOf a.person = some e ∧ e.zone = y ∧ y ≠ z ∧ ¬outside y)
          entered [] (fun y => if y = z then .entry else .moved)
          (fun y => (g.persons.map fun a => a.person).filter fun p =>
            y = z ∨ ∃ e, s.occupancy.entryOf p = some e ∧ e.zone = y) ∧
        (s.bars z = false → (∀ a ∈ g.persons, s.occupancy.entryOf a.person = none) →
          let y : DoorRec :=
            { x with
              state := .opened, openingKind := some .granted, openSince := some s.nowMs, grant := none,
              contactOpen := some true }
          completes fun t =>
            t.doors = s.doors.put d (some (y.driven false)) ∧ DoorDrives s t y false ∧
            t.occupancy.reserved = s.occupancy.reserved.put z (s.occupancy.reserved[z] - g.places) ∧
            t.occupancy.uncertain = s.occupancy.uncertain)) ∧
      (g.kind = .command → opens .opened (some .granted) .grantedOpening both s.occupancy.entries []
        (fun _ => .commandOpening) nobody) ∧
      (g.kind = .response → g.persons = [] →
        opens .opened (some .granted) .grantedOpening (· = z) s.occupancy.entries [] (fun _ => .responseOpening) nobody) ∧
      ∀ a, g.kind = .exit → g.persons = [a] →
        opens .opened (some .granted) .grantedOpening outside (without a.person)
          (match s.occupancy.entryOf a.person with
            | none => [.exitUnlisted d a.person]
            | some e => if e.zone = z then [] else [.exitMismatch d a.person z e.zone])
          (fun _ => .exit) (fun y => [a.person].filter fun p => ∃ e, s.occupancy.entryOf p = some e ∧ e.zone = y)) ∧
    -- an opening without a grant (R38, R39, R41, R43, R82)
    (k = .active → r.reported = some .normal → x.state = .secure ∨ x.state = .offline →
      let one := ∃ e, s.occupancy.entriesIn z = [e] ∧ s.occupancy.uncertain[z] = false
      let stays := if x.state = .offline then DoorState.offline else .opened
      let kind (opening : OpeningKind) := if x.state = .offline then x.openingKind else some opening
      (x.state = .secure → x.withdrawnEnd ≠ none →
        opens .opened (some .afterWithdrawal) .afterWithdrawal (· = z) s.occupancy.entries [] (fun _ => .afterWithdrawal)
          nobody) ∧
      (x.state = .offline ∨ x.withdrawnEnd = none → s.handleExcused x →
        (∀ e, s.occupancy.entriesIn z = [e] → s.occupancy.uncertain[z] = false →
          opens stays (kind .egress) .egress outside (without e.person) [] (fun _ => .egress)
            (fun y => if y = z then [e.person] else [])) ∧
        (¬one → opens stays (kind .egress) .egress both s.occupancy.entries [] (fun _ => .egress) nobody)) ∧
      (x.state = .offline ∨ x.withdrawnEnd = none → ¬s.handleExcused x →
        opens (if x.state = .offline then .offline else .forced) x.openingKind .forced both s.occupancy.entries []
          (fun _ => .forced) nobody)) ∧
    -- a closing (R42)
    (k = .normal → r.reported = some .active →
      (x.state = .opened ∨ x.state = .heldOpen ∨ x.state = .forced →
        becomes { x with contactOpen := some false, state := .secure, openingKind := none, openSince := none }
          [.doorState d .secure x.state .closed none none]) ∧
      (x.state = .secure ∨ x.state = .unlocked ∨ x.state = .offline → keeps { x with contactOpen := some false })) ∧
    -- the contact cannot be read (R7, R12, R44)
    (k = .short ∨ k = .openCircuit →
      (x.state = .fault →
        completes fun t => t = { s with lines := lines, ports := t.ports } ∧ QueuesGain s t [lineFault true]) ∧
      (x.state ≠ .fault → completes fun t =>
        t = { s with
            lines := lines, doors := t.doors, occupancy := { s.occupancy with reserved := t.occupancy.reserved },
            zones := t.zones, bus := t.bus, ports := t.ports } ∧
        (∀ e, e ≠ d → t.doors[e] = s.doors[e]) ∧
        (∃ y, t.doors[d] = some y ∧ y.state = .fault ∧ y.grant = none ∧ y.pairing = none ∧ y.withdrawnEnd = none ∧
          y.openingKind = none ∧ y.openSince = none) ∧
        (∀ y : Zone, t.occupancy.reserved[y] =
          s.occupancy.reserved[y] - if y = z then (x.grant.map (·.places)).getD 0 else 0) ∧
        ∃ bodies, QueuesGain s t (lineFault true :: bodies) ∧
          bodies.Perm
            (x.grant.toList.map (fun g => .accessWithdrawn d .doorFault (some g) none)
              ++ x.pairing.toList.map (fun q => .accessWithdrawn d .doorFault none (some q.first))
              ++ [.doorState d .fault x.state .contactFault none none]))) ∧
    -- the contact is read again (R7, R12, R44)
    (x.state = .fault → r.reported = some .short ∨ r.reported = some .openCircuit →
      (k = .normal →
        (online →
          becomes { x with contactOpen := some false, state := .secure, openingKind := none, openSince := none }
            [lineFault false, .doorState d .secure .fault .contactRestored none none]) ∧
        (¬online →
          becomes { x with contactOpen := some false, state := .offline }
            [lineFault false, .doorState d .offline .fault .contactRestored none none])) ∧
      (k = .active → ∃ previous,
        let told (state : DoorState) (opening : Option OpeningKind) : List NoticeBody :=
          [lineFault false, .doorState d state .fault .contactRestored none opening,
            .doorState d state previous .forced none opening]
        (online → completes fun t =>
          OpeningGives s t lines d x .opened (some .foundOpen) both s.occupancy.entries (told .opened (some .foundOpen))
            (fun _ => .forced) nobody) ∧
        (¬online → completes fun t =>
          OpeningGives s t lines d x .offline x.openingKind both s.occupancy.entries (told .offline none) (fun _ => .forced)
            nobody))) ∧
    -- the line's first report at a door in OFFLINE (R33, R43)
    (x.state = .offline → r.reported = none → k = .normal ∨ k = .active →
      (¬online → keeps { x with contactOpen := some (k == .active) }) ∧
      (online →
        let cause : DoorCause := if x.leftOffline = true then .moduleOnline else .firstClassified
        (k = .normal →
          becomes
            { x with
              contactOpen := some false, state := .secure, openingKind := none, openSince := none, leftOffline := true }
            [.doorState d .secure .offline cause none none]) ∧
        (k = .active →
          becomes
            { x with
              contactOpen := some true, state := .opened, openingKind := some .foundOpen, openSince := some s.nowMs,
              leftOffline := true }
            [.doorState d .opened .offline cause none (some .foundOpen)])))

/-! ## Occupancy timers -/

/-- R88, R89, R155 to R161: an entry's warning time turns on its zone's check-in warning and hands it to the panel; a reached deadline raises
MISSED_CHECKIN in the entry's zone, the deadline moves on by one period, and the zone's warning is found afresh; an expired lone-occupant
timer raises LONE_OCCUPANT. The premise on the alarm list is kept by every step (AlarmListStaysSound). -/
def Obligations.OccupancyTimesAreReached : Prop :=
  ∀ s : State,
    (∀ (p : Person) (e : Entry) (due : Nat) (z : ZoneRec), s.occupancy.entryOf p = some e → e.deadline = some due →
      due ≤ s.nowSec + 60 → s.zones[e.zone] = some z →
      exec (.checkinWarningTime p) s = .next
        { s with
          occupancy := { s.occupancy with warning := s.occupancy.warning.put e.zone true },
          link := s.link.shows e.zone z (s.alarms.displayFlag e.zone) true }) ∧
    (∀ (p : Person) (e : Entry) (due : Nat) (z : ZoneRec), s.occupancy.entryOf p = some e → e.deadline = some due →
      due ≤ s.nowSec → s.zones[e.zone] = some z → AlarmListSound s →
      Completes (exec (.checkinDeadline p) s) fun t =>
        t.occupancy.entries =
          s.occupancy.entries.map (fun x =>
            if x.person = p then { x with deadline := some (s.nowSec + z.cfg.checkinPeriod * 60) } else x) ∧
        let warning := t.occupancy.entries.any fun x => x.zone = e.zone && x.deadline.any (· ≤ s.nowSec + 60)
        ∃ u x, Raises s u .missedCheckin (.person p) (some e.zone) ∧ u.zones[e.zone] = some x ∧
          t = { u with
              occupancy :=
                { u.occupancy with
                  entries := t.occupancy.entries, warning := s.occupancy.warning.put e.zone warning },
              link := u.link.shows e.zone x (u.alarms.displayFlag e.zone) warning }) ∧
    ∀ (z : Zone) (p : Person) (due : Nat), s.occupancy.lone[z] = .running p due → due ≤ s.nowSec → AlarmListSound s →
      Completes (exec (.loneTimerExpiry z) s) fun t =>
        Raises { s with occupancy := { s.occupancy with lone := s.occupancy.lone.put z (.expired p) } } t .loneOccupant
          (.person p) (some z)

/-! ## Zones and valves -/

/-- R110: the egress delay is B plus the curve term, clamped to 100 to 1800 ds: the interpolation between the curve points y_k and
y_(k+1), rounded toward minus infinity after adding a half, below a load of 224, and y_7 from there on, with y_0 = 0. -/
def Obligations.EgressDelayIsInterpolatedAndClamped : Prop :=
  ∀ (c : ZoneCfg) (w : Nat),
    let y : Nat → Int := fun k => if k = 0 then 0 else (c.knots.toList.getD (k - 1) 0 : Nat)
    let term : Int :=
      if w < 224 then y (w / 32) + ((y (w / 32 + 1) - y (w / 32)) * ((w : Int) - 32 * (w / 32 : Nat)) + 16).fdiv 32 else y 7
    let sum : Int := c.baseDelay + term
    ((c.egressDelay w : Nat) : Int) = (if sum < 100 then 100 else if 1800 < sum then 1800 else sum) ∧
    100 ≤ c.egressDelay w ∧ c.egressDelay w ≤ 1800

/-- R40, R112, R115 to R118, R121 to R123, R125, R126, R130, R132: the tick that makes the R of a zone zero takes the zone into DISCHARGE: D and
R are discarded, the discharge start is now, the zone joins its bank's discharging set, a main valve that was OFF begins a fresh minimum-on
period, and no one keeps a grant or a pairing record into the zone but for an exit. The selector and the main valve are switched ON: an edge of
a supervised output arms its ON_CHECK with the edge time now and its expiry 1000 ms on, or passes it at once on ACTIVE feedback, which removes
and reports a path fault. A first-stage test release of another zone of the bank is cut short. Every other output and every other test stays as
it was, and the zone records take the path faults that change. ZONE_STATE with cause COUNTDOWN_END is queued, then the notices of the valves,
then those of the withdrawal order; that order is the model's choice (notes/assumptions/46.md), and that this event stands for one zone's part
of a due tick is the model's too (notes/assumptions/6.md). That no test release runs in the zone itself, which is not ISOLATED, is kept by every
step (ValvesKeepFollowingZones), and the premise on grants too (DoorsAreSound). -/
def Obligations.CountdownEndsInDischarge : Prop :=
  ∀ (s : State) (z : Zone) (r : ZoneRec), s.zones[z] = some r → r.state = .countdown → r.remaining = some 1 →
    0 < s.time.dsDue → s.grantsFit z → s.valves.tests[z] = none →
    let main := mainValveOf r.cfg.bank
    let k := s.banks[bankIndex r.cfg.bank]
    let x : ZoneRec := { r with state := .discharge, delay := none, remaining := none, dischargeStart := some s.nowMs }
    Completes (exec (.countdownEnd z) s) fun t =>
      t = { s with
          doors := t.doors, zones := t.zones, bus := t.bus, ports := t.ports, valves := t.valves, banks := t.banks,
          link := s.link.shows z x (s.alarms.displayFlag z) s.occupancy.warning[z] } ∧
      (∀ y : Zone, t.zones[y] = (if y = z then some x else s.zones[y]).map fun w => w.withFaults s t y) ∧
      t.banks = s.banks.put (bankIndex r.cfg.bank)
        { k with
          discharging := insertAscending z k.discharging,
          minOnEnd :=
            if (s.valves.outputs[main]).drive then k.minOnEnd else some (s.nowMs + k.cfg.tMin * 1000) } ∧
      (∃ told withdrawn, DischargeOpens s t z r.cfg.bank told ∧ Withdraws s t z .discharge withdrawn ∧
        QueuesGain s t (zoneStateBody z x .countdown .countdownEnd :: (told ++ withdrawn))) ∧
      (∀ d y, t.doors[(d : Door)] = some y → y.cfg.inside = z → y.pairing = none ∧ ∀ g, y.grant = some g → g.kind = .exit)

/-- R40, R115 to R118, R122, R124, R125, R127, R130: a hold time after its start a discharge ends: the zone is DISCHARGED without its release kind,
its selector is switched OFF, and it leaves its bank's discharging set; the main valve is switched OFF when that set is then empty and no
minimum-on period runs. A reached minimum-on end is removed, and the main valve is switched OFF when no zone of the bank discharges. An edge of a
supervised output arms its OFF_CHECK with the edge time now and its expiry 1000 ms on, or passes it at once on NORMAL feedback, which removes and
reports a path fault. Every other output and every test release stays as it was, and the zone records take the path faults that change. At the
end of a discharge ZONE_STATE with cause DISCHARGE_END is queued, then the notices of the selector, of the main valve and of the withdrawal
order; that order is the model's choice (notes/assumptions/46.md). That no test release runs in the zone itself, which is not ISOLATED, is kept by
every step (ValvesKeepFollowingZones), and the premise on grants too (DoorsAreSound). -/
def Obligations.DischargeAndMinimumOnEnd : Prop :=
  ∀ s : State,
    (∀ (z : Zone) (r : ZoneRec) (start : Nat), s.zones[z] = some r → r.state = .discharge → r.dischargeStart = some start →
      start + r.cfg.holdTime * 1000 ≤ s.nowMs → s.grantsFit z → s.valves.tests[z] = none →
      let k := s.banks[bankIndex r.cfg.bank]
      let left := k.discharging.filter (· ≠ z)
      let x : ZoneRec := { r with state := .discharged, kind := none }
      Completes (exec (.dischargeEnd z) s) fun t =>
        t = { s with
            doors := t.doors, zones := t.zones, bus := t.bus, ports := t.ports, valves := t.valves,
            link := s.link.shows z x (s.alarms.displayFlag z) s.occupancy.warning[z],
            banks := s.banks.put (bankIndex r.cfg.bank) { k with discharging := left } } ∧
        (∀ y : Zone, t.zones[y] = (if y = z then some x else s.zones[y]).map fun w => w.withFaults s t y) ∧
        ∃ told withdrawn, DischargeCloses s t z r.cfg.bank (left = [] ∧ k.minOnEnd = none) told ∧
          Withdraws s t z .discharged withdrawn ∧
          QueuesGain s t (zoneStateBody z x .discharge .dischargeEnd :: (told ++ withdrawn))) ∧
    ∀ (bank : Bank) (due : Nat), (s.banks[bankIndex bank]).minOnEnd = some due → due ≤ s.nowMs →
      let main := mainValveOf bank
      let k := s.banks[bankIndex bank]
      let y := if k.discharging = [] then (s.valves.outputs[main]).switched false s.nowMs else s.valves.outputs[main]
      Completes (exec (.minimumOnEnd bank) s) fun t =>
        t = { s with
            valves := { s.valves with outputs := s.valves.outputs.put main y }, zones := t.zones, ports := t.ports,
            banks := s.banks.put (bankIndex bank) { k with minOnEnd := none } } ∧
        (∀ z : Zone, t.zones[z] = (s.zones[z]).map fun w => w.withFaults s t z) ∧
        QueuesGain s t (faultTold main s.valves.outputs[main] y none)

/-- R116, R126, R127, R130, R132: a check that reaches its expiry fails: it is disarmed, and a path fault that is another is recorded, reported
with the time of the edge, and handed to the zone of a selector, or to every zone of the bank of a main valve. A test release that runs in
the zone of a selector takes a failed ON_CHECK into its first stage, and ends with TEST_RESULT on a failed OFF_CHECK of its second; that
notice stands after the fault's (notes/assumptions/46.md). That a check which fails with the fault the output already has, after another
edge, gives no notice is the model's choice (notes/assumptions/58.md). -/
def Obligations.CheckFailsAtItsExpiry : Prop :=
  ∀ (s : State) (o : Output) (kind : CheckKind) (edge expiry : Nat),
    let r := s.valves.outputs[o]
    let fault : PathFault := match kind with | .onCheck => .onCheckFail | .offCheck => .offCheckFail
    r.check = some ⟨kind, edge, expiry⟩ → expiry ≤ s.nowMs →
    let command : Instr := match kind with | .onCheck => .onCheckExpiry o | .offCheck => .offCheckExpiry o
    let fails (tests : Tab (Option TestRec) 8) (more : List NoticeBody) : Prop :=
      Completes (exec command s) fun t => OutputBecomes s t o { r with check := none, fault := some fault } tests (some edge) more
    (∀ bank, o = mainValveOf bank → fails s.valves.tests []) ∧
    ∀ z, o = selectorOf z →
      (s.valves.tests[z] = none → fails s.valves.tests []) ∧
      (∀ start passed, s.valves.tests[z] = some ⟨start, .first passed⟩ →
        fails (match kind with
          | .onCheck => s.valves.tests.put z (some ⟨start, .first false⟩)
          | .offCheck => s.valves.tests) []) ∧
      ∀ start passed, s.valves.tests[z] = some ⟨start, .second passed⟩ →
        match kind with
        | .onCheck => fails s.valves.tests []
        | .offCheck => fails (s.valves.tests.put z none) [.testResult z passed false false]

/-- R116, R125, R127, R130, R132: after its first stage a test release switches its selector OFF. A supervised selector arms its OFF_CHECK, which
passes at once on NORMAL feedback: a path fault is then removed, told by RELEASE_PATH_FAULT and handed to the zone, and TEST_RESULT ends the test;
that RELEASE_PATH_FAULT stands first is the model's choice (notes/assumptions/46.md). An unsupervised selector ends the test with TEST_RESULT. -/
def Obligations.TestReleaseReachesSecondStage : Prop :=
  ∀ (s : State) (z : Zone) (start : Nat) (passed : Bool),
    let o := selectorOf z
    let r := s.valves.outputs[o]
    s.valves.tests[z] = some ⟨start, .first passed⟩ → start + 5000 ≤ s.nowMs → r.inService = true → r.drive = true →
    (r.feedbackLine = none →
      Completes (exec (.testStageEnd z) s) fun t =>
        t = { s with
            valves := { outputs := s.valves.outputs.put o { r with drive := false }, tests := s.valves.tests.put z none },
            ports := t.ports } ∧
        QueuesGain s t [.testResult z false false true]) ∧
    (r.feedbackLine ≠ none → r.feedback ≠ some .normal →
      exec (.testStageEnd z) s = .next
        { s with
          valves :=
            { outputs := s.valves.outputs.put o
                { r with drive := false, check := some ⟨.offCheck, s.nowMs, s.nowMs + 1000⟩ },
              tests := s.valves.tests.put z (some ⟨start, .second passed⟩) } }) ∧
    (r.feedbackLine ≠ none → r.feedback = some .normal →
      Completes (exec (.testStageEnd z) s) fun t =>
        OutputBecomes s t o { r with drive := false, check := none, fault := none } (s.valves.tests.put z none) none
          [.testResult z passed true false])

/-! ## Agent containers -/

/-- R137 to R145: a calibration pulse and five nibble pulses whose check holds are a valid telegram. A nibble's value is its pulse in units
of 1/56 of the calibration pulse, less 12, rounded to nearest with halves upward. A status below 8 brings the reading, which joins at
most three kept ones; a status from 8 on marks a sensor fault and holds the readings. The first falling edge gives no pulse. In HUNTING a
pulse within 0.8 to 1.2 of N is a calibration, discarded with CAL_JUMP where it is too far from the last one. In COLLECTING a pulse without a
nibble value discards the telegram with NIBBLE_ERROR and is examined again in HUNTING, and a check that does not hold discards it with
CHECK_ERROR. That the time of a discard is kept in milliseconds is the model's choice (notes/assumptions/53.md). -/
def Obligations.ContainerTelegramIsDecoded : Prop :=
  (∀ c v p : Nat, 0 < c → v ≤ 15 → (nibbleOf c p = some v ↔ (2 * v + 23) * c ≤ 112 * p ∧ 112 * p < (2 * v + 25) * c)) ∧
  (∀ (r : ContainerRec) (nominal cycles now : Nat),
    let p := min 1048575 cycles
    let next := r.edge nominal cycles now
    let discards (why : DiscardReason) : ContainerRec := { r with decoder := .hunting, lastDiscard := some (why, now) }
    (r.edgeSeen = false → next = { r with edgeSeen := true }) ∧
    (r.edgeSeen = true → r.decoder = .hunting →
      let accepted := 4 * nominal ≤ 5 * p ∧ 5 * p ≤ 6 * nominal
      let jumps := ∃ c, r.prevCalibration = some c ∧ c < (max p c - min p c) * 64
      (¬accepted → next = r) ∧
      (accepted → jumps → next = { discards .calJump with prevCalibration := some p }) ∧
      (accepted → ¬jumps → next = { r with decoder := .collecting p [], prevCalibration := some p })) ∧
    ∀ c nibbles, r.edgeSeen = true → r.decoder = .collecting c nibbles →
      (nibbleOf c p = none → next = (discards .nibbleError).edge nominal cycles now) ∧
      (∀ v, nibbleOf c p = some v → nibbles.length < 4 → next = { r with decoder := .collecting c (nibbles ++ [v]) }) ∧
      ∀ k s d2 d1 d0, nibbleOf c p = some k → nibbles = [s, d2, d1, d0] → k ≠ 15 - (s + d2 + d1 + d0) % 16 →
        next = discards .checkError) ∧
  ∀ (r : ContainerRec) (nominal c start s d2 d1 d0 : Nat) (pulses times : Fin 5 → Nat),
    r.edgeSeen = true → r.decoder = .hunting → c ≤ 1048575 → (∀ i, pulses i ≤ 1048575) →
    4 * nominal ≤ 5 * c → 5 * c ≤ 6 * nominal → 0 < c →
    (∀ p, r.prevCalibration = some p → (max c p - min c p) * 64 ≤ p) →
    nibbleOf c (pulses 0) = some s → nibbleOf c (pulses 1) = some d2 → nibbleOf c (pulses 2) = some d1 →
    nibbleOf c (pulses 3) = some d0 → nibbleOf c (pulses 4) = some (15 - (s + d2 + d1 + d0) % 16) →
    let t := (List.finRange 5).foldl (fun x i => x.edge nominal (pulses i) (times i)) (r.edge nominal c start)
    let now := times 4
    let kept := if r.holdMark then [] else r.readings
    t.decoder = .hunting ∧ t.prevCalibration = some c ∧ t.stale = false ∧ t.staleExpiry = now + 500 ∧
    t.lastValid = some now ∧ t.lastStatus = some s ∧ t.lastDiscard = r.lastDiscard ∧
    (s < 8 → t.readings = (if kept.length < 4 then kept else kept.drop 1) ++ [d2 * 256 + d1 * 16 + d0] ∧
      t.holdMark = false ∧ t.sensorFault = false) ∧
    (8 ≤ s → t.readings = r.readings ∧ t.holdMark = true ∧ t.sensorFault = true ∧ t.level = r.level)

/-- R116, R137, R144 to R147: a pulse that leaves a container's state as it was changes that container alone; one that changes the state, and
a reached stale expiry, which makes the container STALE with its readings held, give CONTAINER_STATE and then what follows for its bank. -/
def Obligations.ContainerEventsSettle : Prop :=
  ∀ (s : State) (c : Container) (r : ContainerRec), s.containers.table[c] = some r →
    (∀ cycles,
      let x := r.edge s.containers.nominal cycles s.nowMs
      (x.foundState = r.state →
        exec (.containerPulse c cycles) s = .next
          { s with
            containers := { s.containers with table := s.containers.table.put c (some { x with state := r.state }) } }) ∧
      (x.foundState ≠ r.state →
        Completes (exec (.containerPulse c cycles) s) fun t =>
          ContainerSettles s t c r.state { x with state := x.foundState })) ∧
    (r.stale = false → r.staleExpiry ≤ s.nowMs → r.state ≠ .stale →
      Completes (exec (.staleExpiry c) s) fun t =>
        ContainerSettles s t c r.state { r with stale := true, holdMark := true, sensorFault := false, state := .stale })

/-- R142, R143, R146, R147: the level of a new average by the level before it, on integers; what a container's marks and level make its
state; what its healthy containers make a bank's state. -/
def Obligations.LevelsAndStatesAreFound : Prop :=
  (∀ (c : ContainerCfg) (a : Nat),
    let fresh : Level := if a < c.low then .low else if c.high < a then .high else .normal
    levelOf c none a = fresh ∧ levelOf c (some .normal) a = fresh ∧
    levelOf c (some .low) a = (if a < c.low + c.hysteresis then .low else if c.high < a then .high else .normal) ∧
    levelOf c (some .high) a =
      (if (c.high : Int) - c.hysteresis < a then .high else if a < c.low then .low else .normal)) ∧
  (∀ (r : ContainerRec) (reading : Nat), (r.addReading reading).level =
    some (levelOf r.cfg (if r.holdMark then none else r.level)
      ((r.addReading reading).readings.sum / (r.addReading reading).readings.length))) ∧
  (∀ r : ContainerRec,
    (r.foundState = .stale ↔ r.stale = true) ∧
    (r.foundState = .sensorFault ↔ r.stale = false ∧ r.sensorFault = true) ∧
    (r.foundState = .unknown ↔ r.stale = false ∧ r.sensorFault = false ∧ r.level = none) ∧
    (r.foundState = .low ↔ r.stale = false ∧ r.sensorFault = false ∧ r.level = some .low) ∧
    (r.foundState = .normal ↔ r.stale = false ∧ r.sensorFault = false ∧ r.level = some .normal) ∧
    (r.foundState = .high ↔ r.stale = false ∧ r.sensorFault = false ∧ r.level = some .high) ∧
    (r.foundState.healthy = true ↔
      r.stale = false ∧ r.sensorFault = false ∧ (r.level = some .normal ∨ r.level = some .high))) ∧
  ∀ n required : Nat, 1 ≤ required →
    (bankStateFor n required = .available ↔ required ≤ n) ∧
    (bankStateFor n required = .degraded ↔ 1 ≤ n ∧ n ≤ required - 1) ∧
    (bankStateFor n required = .empty ↔ n = 0)

/-! ## The pendant line -/

/-- R150: the receiver of the pendant line, state by state and event by event, apart from the byte that completes a telegram. That the time of
a discard is kept in milliseconds is the model's choice (notes/assumptions/53.md). -/
def Obligations.PendantReceiverFollowsItsTable : Prop :=
  ∀ (s : State) (b : Byte), s.isRunning = true →
    let with' (rx : PendantRx) : State := { s with alarms := { s.alarms with rx := rx } }
    let discards (why : PendantDiscard) (rx : PendantRx) : State :=
      { s with alarms := { s.alarms with rx := rx, lastDiscard := some (why, s.nowMs) } }
    (s.alarms.rx = .awaitingLength →
      (8 ≤ b.toNat ∧ b.toNat ≤ 32 →
        exec (.pendantLineByteReceived b) s = .next (with' (.receiving b.toNat []))) ∧
      exec (.pendantByteError b true) s = .next (discards .serialError .skipping) ∧
      (¬(8 ≤ b.toNat ∧ b.toNat ≤ 32) → exec (.pendantByteError b false) s = .next (discards .badLength .skipping)) ∧
      exec .pendantGapTimeout s = .next s) ∧
    (∀ n bytes, s.alarms.rx = .receiving n bytes →
      (bytes.length + 1 < n → exec (.pendantLineByteReceived b) s = .next (with' (.receiving n (bytes ++ [b])))) ∧
      exec (.pendantByteError b true) s = .next (discards .serialError .skipping) ∧
      exec .pendantGapTimeout s = .next (discards .cutShort .awaitingLength)) ∧
    (s.alarms.rx = .skipping →
      exec (.pendantLineByteReceived b) s = .next s ∧
      (∀ framingError, exec (.pendantByteError b framingError) s = .next s) ∧
      exec .pendantGapTimeout s = .next (with' .awaitingLength))

/-- R87, R150, R151, R153 to R161, R165: the byte that completes a telegram. The first of the four slots that covers some position of it, whose
expected CRC-16 the covered bytes have and whose identity bytes lie within it gives its kind and its pendant id, first byte most significant.
Without a matching slot nothing but the receiver changes; BATTERY_LOW gives its notice; a duress telegram raises PENDANT_DURESS and a man-down
telegram MAN_DOWN, from the person of the pendant and in the zone of that person's entry where the pendant is known, from the pendant id and in
no zone where it is not; a check-in telegram checks a known person in, and that of an unknown pendant does nothing. That the
ALARM_CHANGED of a check-in stands before its OCCUPANCY_CHANGE is the model's choice (notes/assumptions/55.md). -/
def Obligations.PendantTelegramIsHandled : Prop :=
  ∀ (s : State) (b : Byte) (n : Nat) (bytes : List Byte),
    s.alarms.rx = .receiving n bytes → bytes.length + 1 = n →
    let u : State := { s with alarms := { s.alarms with rx := .awaitingLength } }
    let brings (kind : PendantKind) (id : Nat) : Prop := s.alarms.Brings (bytes ++ [b]) kind id
    let handled (P : State → Prop) : Prop := Completes (exec (.pendantTelegram b) s) P
    ((∀ kind id, ¬brings kind id) → exec (.pendantTelegram b) s = .next u) ∧
    ∀ id,
      (brings .batteryLow id → handled fun t =>
        t = { u with ports := t.ports } ∧ QueuesGain s t [.batteryLow id (s.byPendant id)]) ∧
      (∀ kind alarm, (kind = .pendantDuress ∧ alarm = .pendantDuress) ∨ (kind = .manDown ∧ alarm = .manDown) →
        brings kind id → AlarmListSound s →
        (s.byPendant id = none → handled fun t => Raises u t alarm (.pendant id) none) ∧
        ∀ p, s.byPendant id = some p →
          handled fun t => Raises u t alarm (.person p) ((s.occupancy.entryOf p).map fun e => e.zone)) ∧
      (brings .checkIn id → AlarmListSound s →
        (s.byPendant id = none → exec (.pendantTelegram b) s = .next u) ∧
        ∀ p, s.byPendant id = some p → handled fun t => ChecksIn u t p)

/-! ## The warning panels -/

/-- R169, R171 to R174, R176, R177: what a boundary of the slot clock carries. In SERVICE, with some panel not idle, the line is idle for a zone
without a panel, and a panel is sent one frame: an owed off pair; else the SOUNDER pair of a cadence step that begins; else, a running step
having one slot less left, a STATE pair that is due, else the waiting TEXT or CLEAR_TEXT pair, else NULL. With every panel idle the link falls
QUIET with REFRESH, repeated at every 100th boundary; in QUIET a panel that is not idle brings slot service back with the slot of P0. That the
slot itself is one of the eight that make a refreshing STATE pair due is read from R172 and section 10.10 (notes/assumptions/51.md). -/
def Obligations.SlotBoundaryCarriesOneFrame : Prop :=
  ∀ s : State, s.isRunning = true → s.link.nextBoundary ≤ s.nowMs →
    let z := s.link.nextSlot
    let next := s.link.nextBoundary + 50
    let refresh : PanelFrame := ⟨0xFF, 0x05, 0, 0, -(0xFF + 0x05 + 0 + 0)⟩
    let sends (code first second : Byte) (q : PanelRec) : Prop :=
      exec .slotBoundary s = .next
        { s with
          link :=
            { s.link with
              nextBoundary := next, nextSlot := z + 1, panels := s.link.panels.put z (some q),
              frame := some ⟨byteOf z.val, code, first, second, -(byteOf z.val + code + first + second)⟩ } }
    (s.link.quiet = false → s.link.allIdle = false →
      (s.link.panels[z] = none →
        exec .slotBoundary s = .next
          { s with link := { s.link with nextBoundary := next, frame := none, nextSlot := z + 1 } }) ∧
      ∀ p, s.link.panels[z] = some p →
        (p.offOwed = true → sends 0x02 0 0 { p with offOwed := false, count := p.count + 1 }) ∧
        (p.offOwed = false →
          (∀ i run k sound after, p.run = some run → cadenceOf p.display = some i → run.left = 0 →
            CadenceReaches s.link.cadences[i].steps k run.position run.stack sound after → k < 65536 →
            sends 0x02 (if sound = true then 1 else 0) (byteOf s.link.cadences[i].tone)
              { p with run := some after, count := p.count + 1 }) ∧
          ∀ q,
            (p.run = none ∧ q = p) ∨
              (∃ run, p.run = some run ∧ cadenceOf p.display ≠ none ∧ 0 < run.left ∧
                q = { p with run := some { run with left := run.left - 1 } }) →
            let due := p.lastSent ≠ some (p.display, p.seconds) ∨ 8 ≤ p.count + 1
            (due →
              sends 0x01 (displayByte p.display) (byteOf p.seconds)
                { q with lastSent := some (p.display, p.seconds), count := 0 }) ∧
            (¬due →
              (∀ x y, p.buffer = some (.text x y) → sends 0x03 x y { q with buffer := none, count := p.count + 1 }) ∧
              (p.buffer = some .clearText → sends 0x04 0 0 { q with buffer := none, count := p.count + 1 }) ∧
              (p.buffer = none → sends 0x00 0 0 { q with count := p.count + 1 })))) ∧
    (s.link.quiet = false → s.link.allIdle = true →
      exec .slotBoundary s = .next
        { s with
          link := { s.link with nextBoundary := next, quiet := true, sinceRefresh := 0, frame := some refresh } }) ∧
    (s.link.quiet = true → s.link.allIdle = true →
      (s.link.sinceRefresh + 1 < 100 →
        exec .slotBoundary s = .next
          { s with
            link := { s.link with nextBoundary := next, sinceRefresh := s.link.sinceRefresh + 1, frame := none } }) ∧
      (100 ≤ s.link.sinceRefresh + 1 →
        exec .slotBoundary s = .next
          { s with link := { s.link with nextBoundary := next, sinceRefresh := 0, frame := some refresh } })) ∧
    (s.link.quiet = true → s.link.allIdle = false →
      Completes (exec .slotBoundary s) fun t =>
        t = { s with link := t.link } ∧ t.link.quiet = false ∧ t.link.nextSlot = 1 ∧ t.link.nextBoundary = next ∧
        (∀ y, y ≠ 0 → t.link.panels[(y : Zone)] = s.link.panels[y]) ∧
        ∀ p, s.link.panels[(0 : Zone)] = some p → ∃ f, t.link.frame = some f ∧ f.address = 0)

/-! ## The master ports -/

/-- R180, R182, R190: a frame's bytes, received one by one in HUNT without error, are gathered into exactly its kind, tag and payload: at its
second CRC byte the frame ends and the CRC agrees. -/
def Obligations.RequestFrameIsGathered : Prop :=
  ∀ (s : State) (p : Port) (kind tag first second : Byte) (payload : List Byte),
    s.portHears p = true → (s.ports[portIndex p]).rx = .hunt → payload.length ≤ 248 →
    let covered := byteOf (payload.length + 2) :: kind :: tag :: payload
    crcBytes (crc16 covered) = [first, second] →
    Completes (execAll s ((0xC3 :: covered ++ [first]).map (.masterPortByteReceived p))) fun t =>
      t = s.updPort p (fun r => { r with rx := t.ports[portIndex p].rx }) ∧
      (t.ports[portIndex p]).rx.frame second = some ⟨kind, tag, payload⟩ ∧
      ∀ b, b ≠ second → (t.ports[portIndex p]).rx.frame b = none

/-- R180 to R183: the other events of a port. A byte that discards the frame being gathered, and a gap of 4 ms, return the assembly to HUNT;
the end of a transmission starts the waiting answer; a break restarts the port, and leaves RESYNC with the number of notices lost once
STARTUP_DONE has been queued; the port hears again when its line is high. -/
def Obligations.PortEventsFollowTheirRules : Prop :=
  ∀ (s : State) (p : Port) (b : Byte) (framingError : Bool),
    let r := s.ports[portIndex p]
    (s.portHears p = true → r.rx ≠ .hunt →
      framingError = true ∨ (r.rx = .length ∧ ¬(2 ≤ b.toNat ∧ b.toNat ≤ 250)) ∨
        (∃ n bytes first, r.rx = .check n bytes (some first) ∧ r.frameTaken b = none) →
      exec (.frameDiscarded p b framingError) s = .next { s with ports := s.ports.put (portIndex p) { r with rx := .hunt } }) ∧
    exec (.receiveGapTimeout p) s = .next { s with ports := s.ports.put (portIndex p) { r with rx := .hunt } } ∧
    (r.tx ≠ none →
      exec (.answerTransmissionEnd p) s = .next
        { s with ports := s.ports.put (portIndex p) { r with tx := r.waiting, waiting := none } }) ∧
    (s.portHears p = true →
      exec (.portRestart p) s = .next
        { s with
          ports := s.ports.put (portIndex p)
            { rx := .hunt, lineLow := true, tx := none, waiting := none,
              queue :=
                if s.isRunning then [⟨s.nowSec, s.time.tod, .resync false r.queue.length⟩] else [] } }) ∧
    exec (.receiveLineReturnedHigh p) s = .next
      { s with ports := s.ports.put (portIndex p) { r with lineLow := false } }

/-- R183, R191: an answer is its content split at byte boundaries into segments, at least one, each with the answer's kind, tag, status and
segment byte; every segment but the last holds 246 content bytes, and the last at most as many; content of up to 1968 bytes takes at most eight.
-/
def Obligations.AnswerSegmentsRejoin : Prop :=
  ∀ (f : Frame) (status : Status) (content : List Byte),
    ∃ parts : List (List Byte), parts.flatten = content ∧ parts ≠ [] ∧ (∀ x ∈ parts, x.length ≤ 246) ∧
      (∀ x ∈ parts.dropLast, x.length = 246) ∧
      (content.length ≤ 1968 → parts.length ≤ 8) ∧
      composeAnswer f status content =
        parts.zipIdx.map fun x =>
          let covered := byteOf (x.1.length + 4) :: (f.kind + 0x80) :: f.tag :: statusByte status ::
            byteOf (x.2 % 8 + if x.2 + 1 = parts.length then 128 else 0) :: x.1
          0xC3 :: (covered ++ crcBytes (crc16 covered))

/-- R182, R184: the checks before an owning rule. Every request but READ_STATUS is answered NOT_READY before STARTUP_DONE; after it a port
without the right is answered NOT_PERMITTED; a frame of another kind below 0x80 is answered UNKNOWN_REQUEST. R97, R131: a request on a zone is
answered BAD_FORMAT where its payload is not one zone number, for RELEASE_REQUEST not a zone number and a release kind, and NOT_FOUND where no
configured zone has that number, and changes nothing else; that these two answers of a request of R97 carry their status alone is the model's
choice (notes/assumptions/44.md). -/
def Obligations.RequestsAreChecked : Prop :=
  (∀ (s : State) (p : Port) (b : Byte) (f : Frame),
    s.portHears p = true → (s.ports[portIndex p]).frameTaken b = some f →
    (∀ row ∈ requestRows, f.kind = row.code →
      (s.isRunning = false → row.code ≠ 0x01 → exec (row.command p b) s = .next (s.answered p f .notReady [])) ∧
      (s.isRunning = true → row.rights.allow p = false →
        exec (row.command p b) s = .next (s.answered p f .notPermitted []))) ∧
    ((∀ row ∈ requestRows, f.kind ≠ row.code) →
      exec (.unknownRequest p b) s = .next (s.answered p f .unknownRequest []))) ∧
  ∀ (s : State) (b code : Byte) (f : Frame), RequestReady s .suppression b code f →
    let answers (command : Instr) (status : Status) := exec command s = .next (s.answered .suppression f status [])
    let unknown (n : Byte) : Prop := ∀ z : Zone, z.val = n.toNat → s.zones[z] = none
    (∀ row ∈ zoneRequestRows, code = row.code →
      (f.payload.length ≠ 1 → answers (row.command .suppression b) .badFormat) ∧
      ∀ n, f.payload = [n] → unknown n → answers (row.command .suppression b) .notFound) ∧
    (code = 0x23 →
      ((∀ n kind, f.payload ≠ [n, releaseKindCode kind]) → answers (.releaseRequest .suppression b) .badFormat) ∧
      ∀ n kind, f.payload = [n, releaseKindCode kind] → unknown n → answers (.releaseRequest .suppression b) .notFound)

/-- R13, R50, R56, R92, R119, R148, R167, R185: a read request with its argument in order is answered OK with what its rule gives, and the
answer is its only effect; an item that is not configured is answered NOT_FOUND. READ_STATUS before STARTUP_DONE is answered OK with not
done, the time since reset and the time-of-day alone. R133: the trouble output that READ_STATUS reports is asserted exactly before STARTUP_DONE
and while one of its conditions is present, and its list names each present condition once. The bytes of marks and of fields that no rule
spells out are those of notes/assumptions/25.md, 26.md and 47.md to 49.md; the order of that list is the model's choice
(notes/assumptions/54.md). -/
def Obligations.ReadsAnswerAndChangeNothing : Prop :=
  (∀ s : State,
    (s.troubleOutput = true ↔ s.isRunning = false ∨ ∃ c, s.Troubled c) ∧
    (∀ c, c ∈ s.troubles ↔ s.Troubled c) ∧ s.troubles.Nodup) ∧
  (∀ (s : State) (p : Port) (b : Byte) (f : Frame),
    s.isRunning = false → s.portHears p = true → (s.ports[portIndex p]).frameTaken b = some f → f.kind = 0x01 → f.payload = [] →
    exec (.readStatus p b) s = .next
      (s.answered p f .ok (0 :: (num4 s.nowSec ++ optField dateTimeField s.time.tod)))) ∧
  ∀ (s : State) (p : Port) (b code : Byte) (f : Frame), RequestReady s p b code f →
    (f.payload = [] →
      (code = 0x01 → exec (.readStatus p b) s = .next (s.answered p f .ok (s.statusFields p))) ∧
      (code = 0x05 → exec (.readAlarms p b) s = .next (s.answered p f .ok (s.alarmFields p))) ∧
      (code = 0x06 → exec (.readBanks p b) s = .next (s.answered p f .ok s.banksFields))) ∧
    (∀ z : Zone, f.payload = [byteOf z.val] →
      (∀ r, s.zones[z] = some r →
        (code = 0x02 → exec (.readZone p b) s = .next (s.answered p f .ok (s.zoneFields p (z, r)))) ∧
        (code = 0x04 → exec (.readOccupancy p b) s = .next (s.answered p f .ok (s.occupancyFields p (z, r))))) ∧
      (s.zones[z] = none →
        (code = 0x02 → exec (.readZone p b) s = .next (s.answered p f .notFound [])) ∧
        (code = 0x04 → exec (.readOccupancy p b) s = .next (s.answered p f .notFound [])))) ∧
    (∀ d : Door, f.payload = [byteOf d.val] → code = 0x03 →
      (∀ r, s.doors[d] = some r → exec (.readDoor p b) s = .next (s.answered p f .ok (s.doorFields p (d, r)))) ∧
      (s.doors[d] = none → exec (.readDoor p b) s = .next (s.answered p f .notFound []))) ∧
    (∀ l : Line, f.payload = [byteOf l.val] → code = 0x07 →
      (∀ r, s.lines[l] = some r → exec (.readLine p b) s = .next (s.answered p f .ok (lineFields (l, r)))) ∧
      (s.lines[l] = none → exec (.readLine p b) s = .next (s.answered p f .notFound []))) ∧
    ∀ i : Nat, i < 65536 → f.payload = num2 i → code = 0x12 → p = .access →
      (∀ r, s.personAt i = some r → exec (.readPerson p b) s = .next (s.answered p f .ok (s.personFields i r))) ∧
      (s.personAt i = none → exec (.readPerson p b) s = .next (s.answered p f .notFound []))

/-- R50, R92: what the Suppression port reads of doors and occupancy does not depend on any duress mark. That a pairing record's mark is
withheld with the others is the model's reading (notes/assumptions/33.md). -/
def Obligations.SuppressionSeesNoDuressMarks : Prop :=
  ∀ (s : State) (d : Door) (r : DoorRec) (z : Zone) (x : ZoneRec),
    s.doorFields .suppression (d, r) = s.doorFields .suppression (d, r.unmarked) ∧
    s.occupancyFields .suppression (z, x) = ({ s with occupancy := s.occupancy.unmarked } : State).occupancyFields .suppression (z, x)

/-- R188: FETCH_NOTICES takes notices from the front of its port's queue, at most eight and as many as one segment holds behind their
count, and answers with them. Nothing else changes. The bytes of a notice, and so how many fit, are those of its encoding, in which marks and
fields that no rule spells out are the model's (notes/assumptions/25.md, 26.md, 48.md, 56.md). -/
def Obligations.FetchTakesTheFront : Prop :=
  ∀ (s : State) (p : Port) (b : Byte) (f : Frame), RequestReady s p b 0x08 f → f.payload = [] →
    ∃ n, let queue := (s.ports[portIndex p]).queue
      let size (k : Nat) := ((queue.take k).flatMap fun x => x.encode p).length
      n ≤ 8 ∧ n ≤ queue.length ∧ size n ≤ 245 ∧ (n = 8 ∨ n = queue.length ∨ 245 < size (n + 1)) ∧
      exec (.fetchNotices p b) s = .next
        (({ s with
          ports := s.ports.put (portIndex p) { s.ports[portIndex p] with queue := queue.drop n } } : State).answered p f .ok
            (byteOf n :: (queue.take n).flatMap fun x => x.encode p))

/-! ## The Access port -/

/-- R51 to R54, R89, R91, R105 to R107, R159: WRITE_PERSON that no case refuses writes the record to its place and touches no other place,
and one that is refused BAD_FORMAT, WRONG_STATE or DUPLICATE, by the first case that applies, changes nothing; its encoding has no pendant
id above 0xFFFFFF and no group above 15. DELETE_PERSON of an empty place is answered NOT_FOUND; else it empties its place, marks the
person's entry deleted, and removes the pairing records the person began, each with ACCESS_WITHDRAWN, whose cause is PERSON_DELETED where
the door's zone keeps its state. That the entry is marked and told first, so that a zone whose state changes withdraws the pairing records
itself, is the model's choice (notes/assumptions/59.md). A deletion that marks an entry is told by OCCUPANCY_CHANGE with cause
PERSON_DELETED, and the zone acts on its summary. A changed lone-permitted flag of a person who is listed, and a deletion that marks an
entry, re-test the lone condition of the entry's zone: the lone-occupant timer starts, starts again or stops as the condition then stands,
and a timer that no longer records a person ends that person's LONE_OCCUPANT condition; what becomes of each alarm record is stated where
the list is sound, which every step keeps (AlarmListStaysSound). -/
def Obligations.PersonsAreWrittenAndDeleted : Prop :=
  ∀ (s : State) (b code : Byte) (f : Frame), RequestReady s .access b code f →
    (code = 0x10 → ∀ i who, readPersonRecord f.payload = some (i, who) →
      (∀ status, s.writeRefused i who = some status →
        exec (.writePerson .access b) s = .next (s.answered .access f status [])) ∧
      (s.writeRefused i who = none →
        Completes (exec (.writePerson .access b) s) fun t =>
          t = { s with
              personnel := t.personnel, occupancy := { s.occupancy with lone := t.occupancy.lone }, alarms := t.alarms,
              ports := t.ports } ∧
          t.personnel.groups = s.personnel.groups ∧ t.personAt i = some who ∧ (∀ j, j ≠ i → t.personAt j = s.personAt j) ∧
          (∃ bodies, PortsAnswer s t .access f .ok [] bodies ∧
            LoneFollows s t (fun z => ∃ e old, s.occupancy.entryOf i = some e ∧ e.zone = z ∧ s.personAt i = some old ∧
              old.lonePermitted ≠ who.lonePermitted) ∧
            (∀ b ∈ bodies, ∃ r x, r ∈ s.alarms.records ∧
              b = .alarmChanged r.number r.kind r.source r.zone .conditionGone r.acknowledged false r.lastSeen x) ∧
            (AlarmListSound s → ConditionsEnd s t (fun _ => False) bodies)) ∧
          (s.personAt i = none ∨ (s.personAt i).map (·.lonePermitted) = some who.lonePermitted →
            t.alarms = s.alarms ∧ t.occupancy = s.occupancy ∧ PortsAnswer s t .access f .ok [] []))) ∧
    (code = 0x11 → ∀ i, i < 65536 → f.payload = num2 i → 1023 < i ∨ s.personAt i = none →
      exec (.deletePerson .access b) s = .next (s.answered .access f .notFound [])) ∧
    (code = 0x11 → ∀ i who, i < 1024 → f.payload = num2 i → s.personAt i = some who →
      Completes (exec (.deletePerson .access b) s) fun t =>
        t = { s with
            personnel := t.personnel, doors := t.doors, occupancy := t.occupancy, zones := t.zones, alarms := t.alarms,
            bus := t.bus, link := t.link, ports := t.ports } ∧
        t.personnel.groups = s.personnel.groups ∧ t.personAt i = none ∧ (∀ j, j ≠ i → t.personAt j = s.personAt j) ∧
        ((∀ e ∈ s.occupancy.entries, e.person ≠ i) → (∀ d r, s.doors[(d : Door)] = some r → r.pairing = none) →
          t = { s with personnel := t.personnel, ports := t.ports } ∧ PortsAnswer s t .access f .ok [] []) ∧
        (∃ bodies, PortsAnswer s t .access f .ok [] bodies ∧
          OccupancyChanges s t bodies (fun z => ∃ e, s.occupancy.entryOf i = some e ∧ e.zone = z) (fun _ => .personDeleted)
            (fun _ => [i]) ∧
          LoneFollows s t (fun z => ∃ e, s.occupancy.entryOf i = some e ∧ e.zone = z) ∧
          (AlarmListSound s → ConditionsEnd s t (fun _ => False) bodies) ∧
          ∀ d r p, s.doors[(d : Door)] = some r → r.pairing = some p → p.first.person = i →
            ((t.zones[r.cfg.inside]).map fun x => x.state) = ((s.zones[r.cfg.inside]).map fun x => x.state) →
            .accessWithdrawn d .personDeleted none (some p.first) ∈ bodies) ∧
        (∀ d r, t.doors[(d : Door)] = some r → ∀ p, r.pairing = some p → p.first.person ≠ i) ∧
        t.occupancy.uncertain = s.occupancy.uncertain ∧ t.occupancy.warning = s.occupancy.warning ∧
        t.occupancy.entries = s.occupancy.entries.map fun e => if e.person = i then { e with deleted := true } else e)

/-- R57, R61, R62, R174: the requests that write one table and nothing else. WRITE_GROUP replaces a group's permissions; STAGE_SCHEDULE and
STAGE_HOLIDAYS write the staged set, BUSY while the ready mark is set; COMMIT_SCHEDULES sets the mark; PANEL_TEXT fills an empty console
buffer, BUSY on a full one. -/
def Obligations.TablesAreWrittenByRequest : Prop :=
  ∀ (s : State) (b code : Byte) (f : Frame),
    (RequestReady s .access b code f →
      (code = 0x13 →
        (∀ g permissions, readGroup f.payload = some (g, permissions) →
          exec (.writeGroup .access b) s = .next
            (({ s with personnel := { s.personnel with groups := s.personnel.groups.put g permissions } } : State).answered
              .access f .ok [])) ∧
        (readGroup f.payload = none → exec (.writeGroup .access b) s = .next (s.answered .access f .badFormat []))) ∧
      (code = 0x14 → ∀ n lists, readSchedule f.payload = some (n, lists) →
        exec (.stageSchedule .access b) s = .next
          (if s.schedules.ready then s.answered .access f .busy []
          else
            ({ s with
              schedules :=
                { s.schedules with
                  staged :=
                    { s.schedules.staged with schedules := s.schedules.staged.schedules.put n lists } } } : State).answered
              .access f .ok [])) ∧
      (code = 0x15 → ∀ dates, readHolidays f.payload = some dates →
        exec (.stageHolidays .access b) s = .next
          (if 32 < dates.length then s.answered .access f .full []
          else if s.schedules.ready then s.answered .access f .busy []
          else
            ({ s with
              schedules := { s.schedules with staged := { s.schedules.staged with holidays := dates } } } : State).answered
              .access f .ok [])) ∧
      (code = 0x16 → f.payload = [] →
        exec (.commitSchedules .access b) s = .next
          (({ s with schedules := { s.schedules with ready := true } } : State).answered .access f .ok []))) ∧
    (RequestReady s .console b code f → code = 0x35 → ∀ (z : Zone) (panel : PanelRec), s.link.panels[z] = some panel →
      (∀ x y : Byte, f.payload = [byteOf z.val, x, y] →
        let shown (c : Byte) : Byte := if 0x20 ≤ c.toNat ∧ c.toNat ≤ 0x7E then c else 0x20
        exec (.panelText .console b) s = .next
          (if panel.buffer.isSome then s.answered .console f .busy []
          else
            ({ s with
              link :=
                { s.link with
                  panels := s.link.panels.put z
                    (some { panel with buffer := some (.text (shown x) (shown y)) }) } } : State).answered .console f .ok [])) ∧
      (f.payload = [byteOf z.val] → panel.buffer = none →
        exec (.panelText .console b) s = .next
          (({ s with
            link :=
              { s.link with
                panels := s.link.panels.put z (some { panel with buffer := some .clearText }) } } : State).answered
            .console f .ok [])))

/-- R64, R65, R86, R88, R89, R159, R196: SET_TIME with a time in range sets the time-of-day, starts its millisecond count again, evaluates the mode
of every configured zone in that event, and is answered OK; a time out of range is answered BAD_FORMAT. In a zone whose mode changes the
entries gain or lose their deadlines, the check-in warning is found afresh, and the lone-occupant timer starts or stops as the lone condition
then stands; a change to WORKING ends the MISSED_CHECKIN conditions of the persons inside, and a timer that stops ends its LONE_OCCUPANT
condition, which are the only notices. Reserved places and uncertain flags stand. -/
def Obligations.SetTimeEvaluatesModes : Prop :=
  ∀ (s : State) (b : Byte) (f : Frame) (now : DateTime), RequestReady s .access b 0x17 f →
    now.date.year < 256 → now.date.month < 256 → now.date.day < 256 → now.hour < 256 → now.minute < 256 → now.second < 256 →
    f.payload = dateTimeField now →
    (now.valid = false → exec (.setTime .access b) s = .next (s.answered .access f .badFormat [])) ∧
    (now.valid = true →
      let u : State := { s with time := { s.time with tod := some now, todMs := 0 } }
      Completes (exec (.setTime .access b) s) fun t =>
        t = { u with
            schedules := { s.schedules with modes := t.schedules.modes }, occupancy := t.occupancy, link := t.link,
            alarms := t.alarms, ports := t.ports } ∧
        (∀ z : Zone, t.schedules.modes[z] = if (s.zones[z]).isSome then u.evaluatedMode z else s.schedules.modes[z]) ∧
        (∃ bodies, PortsAnswer u t .access f .ok [] bodies ∧ OccupancyFollowsModes s t bodies) ∧
        ((∀ z : Zone, t.schedules.modes[z] = s.schedules.modes[z]) → t = u.answered .access f .ok []))

/-- R21, R22, R34, R45, R47, R76, R77, R166: DOOR_PULSE and RESPONSE_ENTRY are answered by the first case that applies, and a refused one changes
nothing else. Where no case refuses, the grant is installed: COMMAND for nobody, RESPONSE for the named person with one place or for nobody,
and the door's drive is handed over. DOOR_STATE and ACCESS_GRANTED are queued, after ACCESS_WITHDRAWN for the first person of a superseded
pairing record whom the grant does not carry. The premise on grants is kept by every step (DoorsAreSound). -/
def Obligations.GrantsAreInstalledByRequest : Prop :=
  ∀ (s : State) (b : Byte) (f : Frame),
    let pulsed (status : Status) (content : List Byte) : Prop :=
      exec (.doorPulse .access b) s = .next (s.answered .access f status content)
    let responded (status : Status) (content : List Byte) : Prop :=
      exec (.responseEntry .console b) s = .next (s.answered .console f status content)
    let noDoor (n : Byte) : Prop := ∀ d : Door, d.val = n.toNat → s.doors[d] = none
    (RequestReady s .access b 0x18 f →
      (f.payload.length ≠ 1 → pulsed .badFormat []) ∧ ∀ n, f.payload = [n] → noDoor n → pulsed .notFound []) ∧
    (RequestReady s .console b 0x34 f →
      ((∀ n, f.payload ≠ [n, 0]) → (∀ n x y, f.payload ≠ [n, 1, x, y]) → responded .badFormat []) ∧
      ∀ n, f.payload = [n, 0] ∨ (∃ x y, f.payload = [n, 1, x, y]) → noDoor n → responded .notFound []) ∧
    ∀ (d : Door) (r : DoorRec) (z : ZoneRec), s.doors[d] = some r → s.zones[r.cfg.inside] = some z →
      (r.state = .unlocked ↔ r.grant ≠ none) →
      let faulty := r.state = .offline ∨ r.state = .fault
      let installs (port : Port) (command : Instr) (kind : GrantKind) (persons : List GrantPerson) : Prop :=
        let g : Grant := ⟨kind, persons, s.nowMs + r.cfg.unlockWindow * 1000, persons.length⟩
        let y : DoorRec := { r with state := .unlocked, grant := some g, pairing := none, withdrawnEnd := none }
        Completes (exec command s) fun t =>
          t = { s with
              doors := s.doors.put d (some (y.driven (zoneBars z))),
              occupancy :=
                { s.occupancy with
                  reserved :=
                    s.occupancy.reserved.put r.cfg.inside (s.occupancy.reserved[r.cfg.inside] + persons.length) },
              zones := s.zones.put r.cfg.inside (some { z with summary := t.summaryOf r.cfg.inside }),
              bus := t.bus, ports := t.ports } ∧
          DoorDrives s t y (zoneBars z) ∧
          PortsAnswer s t port f .ok []
            ((r.pairing.toList.filter fun x => persons.all fun y => y.person ≠ x.first.person).map
                (fun x => .accessWithdrawn d .superseded none (some x.first))
              ++ [.doorState d .unlocked .secure .grant (some g) none, .accessGranted d g])
      (RequestReady s .access b 0x18 f → f.payload = [byteOf d.val] →
        let refusal : Option (Status × List Byte) :=
          if faulty then some (.wrongState, [0])
          else if zoneBars z = true then some (.wrongState, [2])
          else if s.entryCondition r.cfg [] = false then some (.wrongState, [3])
          else if s.partnerSecure r.cfg = false then some (.interlock, [])
          else if r.state ≠ .secure then some (.wrongState, [1])
          else none
        (∀ status content, refusal = some (status, content) → pulsed status content) ∧
        (refusal = none → installs .access (.doorPulse .access b) .command [])) ∧
      (RequestReady s .console b 0x34 f → ∀ named : Option Person,
        (named = none ∧ f.payload = [byteOf d.val, 0]) ∨
          (∃ i < 65536, named = some i ∧ f.payload = byteOf d.val :: 1 :: num2 i) →
        let refusal : Option (Status × List Byte) :=
          if named.any (fun i => s.personAt i = none) = true then some (.notFound, [])
          else if s.alarms.inZone r.cfg.inside = [] then some (.wrongState, [4])
          else if ¬((z.state = .isolated ∧ z.entryHold = false) ∨ z.state = .guarded ∨ z.state = .occupiedHold) then
            some (.wrongState, [2])
          else if faulty then some (.wrongState, [0])
          else if r.state ≠ .secure then some (.wrongState, [1])
          else if s.partnerSecure r.cfg = false then some (.interlock, [])
          else if named ≠ none ∧ s.placesFree r.cfg.inside 1 = false then some (.zoneFull, [])
          else none
        (∀ status content, refusal = some (status, content) → responded status content) ∧
        (refusal = none → installs .console (.responseEntry .console b) .response (named.toList.map fun i => ⟨i, false⟩)))

/-! ## The Suppression port -/

/-- R96 to R98, R117: ARM_ZONE by the zone's state. An ISOLATED zone is refused NO_AGENT on an EMPTY bank, then BUSY while its test release
runs; else it becomes GUARDED with its entry hold cleared. GUARDED is answered OK, every other state WRONG_STATE. That an arming which also
clears an entry hold gives one ZONE_STATE notice is the model's reading (notes/assumptions/23.md), and the byte of the entry hold in the
answers is the model's choice (notes/assumptions/25.md). -/
def Obligations.ArmZoneByState : Prop :=
  ∀ (s : State) (b : Byte) (f : Frame) (z : Zone) (r : ZoneRec), RequestReady s .suppression b 0x20 f →
    f.payload = [byteOf z.val] → s.zones[z] = some r →
    let answers (status : Status) := exec (.armZone .suppression b) s = .next (s.answered .suppression f status r.answer)
    (r.state = .isolated → r.bankState = .empty → answers .noAgent) ∧
    (r.state = .isolated → r.bankState ≠ .empty → s.valves.tests[z] ≠ none → answers .busy) ∧
    (r.state = .isolated → r.bankState ≠ .empty → s.valves.tests[z] = none →
      Completes (exec (.armZone .suppression b) s) fun t =>
        ZoneTurns s t f z r { r with state := .guarded, entryHold := false } .arm) ∧
    (r.state = .guarded → answers .ok) ∧
    (r.state ≠ .isolated → r.state ≠ .guarded → answers .wrongState)

/-- R97, R99, R104, R170, R171: ISOLATE_ZONE and CANCEL_RELEASE by the zone's state. A release that has not yet discharged is given up with its
kind, D and R, the zone becoming ISOLATED, or GUARDED; a GUARDED zone is isolated; a zone with nothing to do is answered OK; TOO_LATE and
WRONG_STATE from DISCHARGE on. Its hold sources, entry hold and test release stand. What a panel shows of its zone, and what it becomes by that,
are stated with it. The byte of the entry hold in the answers is the model's choice (notes/assumptions/25.md). -/
def Obligations.IsolateAndCancelByState : Prop :=
  PanelsShow ∧
  ∀ (s : State) (b code : Byte) (f : Frame) (z : Zone) (r : ZoneRec), RequestReady s .suppression b code f →
    f.payload = [byteOf z.val] → s.zones[z] = some r →
    (code = 0x21 →
      let answers (status : Status) :=
        exec (.isolateZone .suppression b) s = .next (s.answered .suppression f status r.answer)
      (r.state = .guarded ∨ r.state = .occupiedHold ∨ r.state = .countdown ∨ r.state = .held →
        Completes (exec (.isolateZone .suppression b) s) fun t =>
          ZoneTurns s t f z r { r with state := .isolated, kind := none, delay := none, remaining := none } .isolate) ∧
      (r.state = .isolated → answers .ok) ∧ (r.state = .discharge → answers .tooLate) ∧
      (r.state = .discharged → answers .wrongState)) ∧
    (code = 0x24 →
      let answers (status : Status) :=
        exec (.cancelRelease .suppression b) s = .next (s.answered .suppression f status r.answer)
      (r.state = .occupiedHold ∨ r.state = .countdown ∨ r.state = .held →
        Completes (exec (.cancelRelease .suppression b) s) fun t =>
          ZoneTurns s t f z r { r with state := .guarded, kind := none, delay := none, remaining := none } .cancel) ∧
      (r.state = .guarded ∨ r.state = .isolated → answers .ok) ∧
      (r.state = .discharge ∨ r.state = .discharged → answers .tooLate))

/-- R97, R100, R101: CLEAR_ENTRY_HOLD clears a set entry hold of an ISOLATED zone, is answered OK on a clear one and WRONG_STATE in any other
state; VENT_COMPLETE takes a DISCHARGED zone to ISOLATED without discharge start and entry hold, and is answered WRONG_STATE in any other
state. The byte of the entry hold in the answers is the model's choice (notes/assumptions/25.md). -/
def Obligations.ClearEntryHoldAndVentByState : Prop :=
  ∀ (s : State) (b code : Byte) (f : Frame) (z : Zone) (r : ZoneRec), RequestReady s .suppression b code f →
    f.payload = [byteOf z.val] → s.zones[z] = some r →
    (code = 0x22 →
      let answers (status : Status) :=
        exec (.clearEntryHold .suppression b) s = .next (s.answered .suppression f status r.answer)
      (r.state = .isolated → r.entryHold = true →
        Completes (exec (.clearEntryHold .suppression b) s) fun t =>
          ZoneTurns s t f z r { r with entryHold := false } .entryHoldCleared) ∧
      (r.state = .isolated → r.entryHold = false → answers .ok) ∧ (r.state ≠ .isolated → answers .wrongState)) ∧
    (code = 0x25 →
      (r.state = .discharged →
        Completes (exec (.ventComplete .suppression b) s) fun t =>
          ZoneTurns s t f z r { r with state := .isolated, dischargeStart := none, entryHold := false } .ventComplete) ∧
      (r.state ≠ .discharged →
        exec (.ventComplete .suppression b) s = .next (s.answered .suppression f .wrongState r.answer)))

/-- R40, R96, R97, R102, R103, R111, R117, R118: RELEASE_REQUEST by its kind and the zone's state. On a GUARDED zone AUTO waits in OCCUPIED_HOLD
while the zone is occupied, and MANUAL, or AUTO on an unoccupied zone, starts a countdown of the egress delay: COUNTDOWN, or HELD while a hold
source stands. ZONE_STATE is queued, and then every door into the zone carries out the withdrawal order: its pairing record goes, then its ENTRY
or COMMAND grant, and a RESPONSE grant but in OCCUPIED_HOLD; the door is SECURE with a withdrawn-window end, and the places are handed back.
MANUAL turns a running AUTO release MANUAL. The byte of the entry hold in the answers is the model's choice (notes/assumptions/25.md). -/
def Obligations.ReleaseStartsByKind : Prop :=
  ∀ (s : State) (b : Byte) (f : Frame) (z : Zone) (r : ZoneRec) (kind : ReleaseKind), RequestReady s .suppression b 0x23 f →
    f.payload = [byteOf z.val, releaseKindCode kind] → s.zones[z] = some r →
    let delay := r.cfg.egressDelay r.summary.load
    let started : ZoneRec :=
      { r with
        kind := some kind, delay := some delay, remaining := some delay,
        state := if r.holdLines = [] ∧ r.holdAlarms = [] then .countdown else .held }
    let waiting : ZoneRec := { r with kind := some .auto, state := .occupiedHold }
    let occupied := 0 < r.summary.count ∨ r.summary.uncertain = true
    (∀ x cause,
      (kind = .auto ∧ r.state = .guarded ∧ occupied ∧ x = waiting ∧ cause = .releaseAuto) ∨
        (kind = .auto ∧ r.state = .guarded ∧ ¬occupied ∧ x = started ∧ cause = .releaseAuto) ∨
        (kind = .manual ∧ (r.state = .guarded ∨ r.state = .occupiedHold) ∧ x = started ∧ cause = .releaseManual) →
      Completes (exec (.releaseRequest .suppression b) s) fun t =>
        t = { s with
            zones := t.zones, doors := t.doors, occupancy := t.occupancy, bus := t.bus,
            link := s.link.shows z x (s.alarms.displayFlag z) s.occupancy.warning[z], ports := t.ports } ∧
        (∃ bodies, Withdraws s t z x.state bodies ∧
          PortsAnswer s t .suppression f .ok x.answer (zoneStateBody z x r.state cause :: bodies)) ∧
        ((∀ d y, s.doors[(d : Door)] = some y → y.cfg.inside = z → y.ordered x.state = none) →
          t.zones = s.zones.put z (some x)) ∧
        ((∃ d y, s.doors[(d : Door)] = some y ∧ y.cfg.inside = z ∧ y.ordered x.state ≠ none) →
          t.zones = s.zones.put z (some { x with summary := t.summaryOf z })) ∧
        (∀ d y, t.doors[(d : Door)] = some y → y.cfg.inside = z →
          y.pairing = none ∧ ∀ g, y.grant = some g → g.kind = .exit ∨ (g.kind = .response ∧ x.state = .occupiedHold)) ∧
        (s.noneWaiting z →
          t.zones[z] = some x ∧ t.occupancy = s.occupancy ∧
          PortsAnswer s t .suppression f .ok x.answer [zoneStateBody z x r.state cause])) ∧
    (kind = .manual → r.state = .countdown ∨ r.state = .held →
      (r.kind = some .auto →
        Completes (exec (.releaseRequest .suppression b) s) fun t =>
          ZoneTurns s t f z r { r with kind := some .manual } .manualUpgrade) ∧
      (r.kind ≠ some .auto →
        exec (.releaseRequest .suppression b) s = .next (s.answered .suppression f .ok r.answer))) ∧
    ((kind = .auto ∧ (r.state = .occupiedHold ∨ r.state = .countdown ∨ r.state = .held)) ∨ r.state = .discharge →
      exec (.releaseRequest .suppression b) s = .next (s.answered .suppression f .ok r.answer)) ∧
    (r.state = .isolated ∨ r.state = .discharged →
      exec (.releaseRequest .suppression b) s = .next (s.answered .suppression f .wrongState r.answer))

/-- R116, R125, R126, R130, R131: TEST_RELEASE on an ISOLATED zone with no test running and the main valve of its bank OFF switches the selector
ON; a supervised selector arms its ON_CHECK, which waits for ACTIVE feedback for 1000 ms and passes at once on it: a path fault is then removed,
told by RELEASE_PATH_FAULT and handed to the zone. A running test or an open main valve is answered BUSY, another state WRONG_STATE. -/
def Obligations.TestReleaseBegins : Prop :=
  ∀ (s : State) (b : Byte) (f : Frame) (z : Zone) (r : ZoneRec), RequestReady s .suppression b 0x26 f →
    f.payload = [byteOf z.val] → s.zones[z] = some r →
    let o := selectorOf z
    let x := s.valves.outputs[o]
    let answers (status : Status) := exec (.testRelease .suppression b) s = .next (s.answered .suppression f status [])
    (s.valves.tests[z] ≠ none → answers .busy) ∧
    (s.valves.tests[z] = none → r.state ≠ .isolated → answers .wrongState) ∧
    (s.valves.tests[z] = none → r.state = .isolated → (s.valves.outputs[mainValveOf r.cfg.bank]).drive = true → answers .busy) ∧
    (s.valves.tests[z] = none → r.state = .isolated → (s.valves.outputs[mainValveOf r.cfg.bank]).drive = false →
      x.inService = true → x.drive = false → x.feedbackLine = none ∨ x.feedback ≠ some .active →
      exec (.testRelease .suppression b) s = .next
        (({ s with
          valves :=
            { outputs := s.valves.outputs.put o
                { x with
                  drive := true,
                  check :=
                    if x.feedbackLine = none then x.check else some ⟨.onCheck, s.nowMs, s.nowMs + 1000⟩ },
              tests := s.valves.tests.put z (some ⟨s.nowMs, .first false⟩) } } : State).answered .suppression f .ok [])) ∧
    (s.valves.tests[z] = none → r.state = .isolated → (s.valves.outputs[mainValveOf r.cfg.bank]).drive = false →
      x.inService = true → x.drive = false → x.feedbackLine ≠ none → x.feedback = some .active →
      Completes (exec (.testRelease .suppression b) s) fun t =>
        ∃ u, t = u.answered .suppression f .ok [] ∧
          OutputBecomes s u o { x with drive := true, check := none, fault := none }
            (s.valves.tests.put z (some ⟨s.nowMs, .first true⟩)) none [])

/-! ## The Console port -/

/-- R113, R159 to R164: ACK_ALARM acknowledges a RAISED record with a notice; CLEAR_ALARM removes an ACKNOWLEDGED record whose condition is
gone, and is answered NOT_ACKNOWLEDGED or STILL_ACTIVE on others. A HELD zone whose last hold source was that record resumes its countdown
with the greater of its frozen R and a fresh delay. The byte of the condition in the answer of ACK_ALARM is the model's choice
(notes/assumptions/25.md, 48.md). -/
def Obligations.AlarmsAreAcknowledgedAndCleared : Prop :=
  ∀ (s : State) (b code : Byte) (f : Frame) (n : Nat) (r : AlarmRec), RequestReady s .console b code f →
    n < 256 → f.payload = [byteOf n] → s.alarms.numbered n = some r →
    (code = 0x30 →
      (r.acknowledged = true →
        exec (.ackAlarm .console b) s = .next (s.answered .console f .ok (1 :: flag1 r.condition))) ∧
      (r.acknowledged = false →
        Completes (exec (.ackAlarm .console b) s) fun t =>
          t = { s with alarms := t.alarms, ports := t.ports } ∧
          t.alarms =
            { s.alarms with
              records := s.alarms.records.map fun x => if x.number = n then { r with acknowledged := true } else x,
              notRecorded := s.alarms.notRecorded && !t.alarms.hasRoom } ∧
          PortsAnswer s t .console f .ok (1 :: flag1 r.condition)
            [.alarmChanged n r.kind r.source r.zone .acknowledged true r.condition r.lastSeen (s.sourceZone r.source)])) ∧
    (code = 0x31 →
      (r.acknowledged = false → exec (.clearAlarm .console b) s = .next (s.answered .console f .notAcknowledged [])) ∧
      (r.acknowledged = true → r.condition = true →
        exec (.clearAlarm .console b) s = .next (s.answered .console f .stillActive [])) ∧
      (r.acknowledged = true → r.condition = false →
        let gone : NoticeBody :=
          .alarmChanged n r.kind r.source r.zone .cleared true false r.lastSeen (s.sourceZone r.source)
        Completes (exec (.clearAlarm .console b) s) fun t =>
          t = { s with
              doors := t.doors, occupancy := t.occupancy, zones := t.zones, bus := t.bus, link := t.link, alarms := t.alarms,
              ports := t.ports } ∧
          t.alarms =
            { s.alarms with
              records := s.alarms.records.filter fun x => x.number ≠ n,
              notRecorded := s.alarms.notRecorded && !t.alarms.hasRoom } ∧
          (r.zone = none → t = { s with alarms := t.alarms, ports := t.ports } ∧ PortsAnswer s t .console f .ok [] [gone]) ∧
          ∀ z x, r.zone = some z → s.zones[z] = some x →
            (x.state ≠ .held →
              t.doors = s.doors ∧ PortsAnswer s t .console f .ok [] [gone] ∧
              t.zones[z] = some
                (if r.kind.holds then { x with holdAlarms := x.holdAlarms.filter (· ≠ n) } else x)) ∧
            (x.state = .held → r.kind.holds = true → x.holdLines = [] → x.holdAlarms = [n] → s.grantsFit z →
              ∃ y, t.zones[z] = some y ∧ y.state = .countdown ∧ y.holdAlarms = [] ∧
                y.delay = some (x.cfg.egressDelay x.summary.load) ∧
                y.remaining = some (max (x.remaining.getD 0) (x.cfg.egressDelay x.summary.load)) ∧ y.kind = x.kind)))

/-- R79, R84, R85, R88, R89, R91, R105 to R107, R159: an accepted sweep leaves exactly the listed persons in its zone, each with a fresh entry
that no door made, takes them out of every other zone, and makes the zone certain; one that names no configured zone, or that a case of R84
refuses, the first that applies, changes nothing; FORCE_EXIT removes a person's entry and leaves every uncertain flag. Both are answered OK.
OCCUPANCY_CHANGE tells the swept zone with cause SWEEP, the zones that lose a listed person with MOVED, and the zone of a forced exit with
FORCE_EXIT, and each then acts on its summary: an OCCUPIED_HOLD that is unoccupied starts its countdown, and an AUTO countdown or hold that is
occupied falls back. The check-in warning of each such zone is found afresh, and its lone-occupant timer starts, starts again or stops as the
lone condition then stands; a removed entry ends its person's MISSED_CHECKIN condition, and a timer that no longer records a person that
person's LONE_OCCUPANT condition. That the swept zone names the listed persons and then the removed ones, at most 16 in all, is the model's
choice (notes/assumptions/22.md). The premise that a person has one entry is kept by every step (OccupancyIsSound), and so is a sound alarm list
(AlarmListStaysSound). -/
def Obligations.SweepAndForceExitRewriteTheList : Prop :=
  ∀ (s : State) (b code : Byte) (f : Frame), RequestReady s .console b code f →
    s.occupancy.entries.Pairwise (fun x y => x.person ≠ y.person) →
    (code = 0x32 → ∀ (z : Zone) (r : ZoneRec) (persons : List Nat),
      readSweep f.payload = some (z.val, persons) → s.zones[z] = some r →
      (∀ status, s.sweepRefused z r persons = some status →
        exec (.sweepConfirm .console b) s = .next (s.answered .console f status [])) ∧
      (s.sweepRefused z r persons = none →
        Completes (exec (.sweepConfirm .console b) s) fun t =>
          t = { s with
              doors := t.doors, occupancy := t.occupancy, zones := t.zones, bus := t.bus, link := t.link, alarms := t.alarms,
              ports := t.ports } ∧
          t.occupancy.uncertain = s.occupancy.uncertain.put z false ∧
          t.occupancy.entries =
            (s.occupancy.entries.filter fun e => e.zone ≠ z ∧ e.person ∉ persons) ++ persons.map (fun p =>
              { person := p, zone := z, door := none, time := s.nowSec, weight := r.cfg.sweepWeight, partner := none,
                deadline :=
                  if s.schedules.modes[z] = .after then some (s.nowSec + r.cfg.checkinPeriod * 60) else none,
                duress := (s.occupancy.entryOf p).any (·.duress), deleted := (s.personAt p).isNone }) ∧
          ∃ bodies, PortsAnswer s t .console f .ok [] bodies ∧
            let listed (y : Zone) := persons.filter fun p => ∃ e, s.occupancy.entryOf p = some e ∧ e.zone = y
            let changed (y : Zone) : Prop := y = z ∨ listed y ≠ []
            WarningsFollow s t changed ∧ LoneFollows s t changed ∧
            (AlarmListSound s →
              ConditionsEnd s t (fun p => ∃ e, s.occupancy.entryOf p = some e ∧ (p ∈ persons ∨ e.zone = z)) bodies) ∧
            OccupancyChanges s t bodies changed (fun y => if y = z then .sweep else .moved)
              (fun y =>
                if y = z then persons ++ ((s.occupancy.entriesIn z).map fun e => e.person).filter (· ∉ persons) else listed y))) ∧
    (code = 0x32 → ∀ n persons, readSweep f.payload = some (n, persons) → (∀ z : Zone, z.val = n → s.zones[z] = none) →
      exec (.sweepConfirm .console b) s = .next (s.answered .console f .notFound [])) ∧
    (code = 0x33 → ∀ i, i < 65536 → f.payload = num2 i →
      (i > 1023 ∨ s.occupancy.entryOf i = none →
        exec (.forceExit .console b) s = .next (s.answered .console f .notFound [])) ∧
      (i ≤ 1023 → s.occupancy.entryOf i ≠ none →
        Completes (exec (.forceExit .console b) s) fun t =>
          t = { s with
              doors := t.doors, occupancy := t.occupancy, zones := t.zones, bus := t.bus, link := t.link, alarms := t.alarms,
              ports := t.ports } ∧
          t.occupancy.uncertain = s.occupancy.uncertain ∧
          t.occupancy.entries = (s.occupancy.entries.filter fun e => e.person ≠ i) ∧
          ∃ bodies, PortsAnswer s t .console f .ok [] bodies ∧
            let changed (z : Zone) : Prop := ∃ e, s.occupancy.entryOf i = some e ∧ e.zone = z
            WarningsFollow s t changed ∧ LoneFollows s t changed ∧
            (AlarmListSound s → ConditionsEnd s t (fun p => p = i) bodies) ∧
            OccupancyChanges s t bodies changed (fun _ => .forceExit) (fun _ => [i])))

/-! ## Invariants -/

/-- R181, R186, R188: no step makes a notice queue longer than 48. -/
def Obligations.QueuesStayBounded : Prop := ∀ s t : State, QueuesBounded s → step s = .next t → QueuesBounded t

/-- R108, R109, R111, R113: no step leaves a zone counting down while a hold source stands, nor HELD when none does. -/
def Obligations.HoldSetsStayMatched : Prop := ∀ s t : State, HoldSetsMatch s → step s = .next t → HoldSetsMatch t

/-- R155 to R157, R160: no step makes two alarm records share a number, or a kind and source, exceeds 32 records, or leaves the
not-recorded condition standing when the list has room. -/
def Obligations.AlarmListStaysSound : Prop := ∀ s t : State, AlarmListSound s → step s = .next t → AlarmListSound t

/-- R34, R78, R79, R86: no step gives a person a second entry, or an entry a deadline out of step with its zone's mode; the entries and reserved
places of a zone never exceed its limit, nor 64 over all zones, where the reserved places of a zone are those of the grants at the doors into
it, as many as the persons of an ENTRY or RESPONSE grant and none for another. That no entry is made before STARTUP_DONE goes with it. -/
def Obligations.OccupancyIsSound : Prop := ∀ s t : State, OccupancySound s → step s = .next t → OccupancySound t

/-- R121 to R124, R131, R132: after every step a selector is ON only in its zone's DISCHARGE or the first stage of its test release, and a
main valve only while a zone of its bank is in DISCHARGE or its minimum-on period has not ended; each bank's discharging set is the set of
its zones in DISCHARGE; and a test release runs only in an ISOLATED zone after STARTUP_DONE (R98: ARM_ZONE is BUSY while it runs). -/
def Obligations.ValvesKeepFollowingZones : Prop := ∀ s t : State, ValvesFollowZones s → step s = .next t → ValvesFollowZones t

/-- R32, R34, R35, R40, R41, R96: after every step a door is UNLOCKED exactly while a grant stands, has its opening kind, open-since time and
withdrawn-window end only in the states that have them, at most one of the two doors of an airlock is UNLOCKED or open under a grant, and no
pairing record and no ENTRY or COMMAND grant stands into a zone that bars entry, nor a RESPONSE grant into one that counts down or worse. -/
def Obligations.DoorsAreSound : Prop := ∀ s t : State, DoorsSound s → step s = .next t → DoorsSound t

/-- The state right after a power-on reset meets every invariant. -/
def Obligations.ResetMeetsInvariants : Prop :=
  QueuesBounded State.reset ∧ HoldSetsMatch State.reset ∧ AlarmListSound State.reset ∧ OccupancySound State.reset ∧
  ValvesFollowZones State.reset ∧ DoorsSound State.reset

end
end

