-- ==== Sys2Proof/Laws/State.lean ====
section
/-! SUPPORT. What each named update of State leaves as it was, one line per field, and what it writes. -/

namespace Sys2Proof.Machine

variable (s : State)

/-! ## updLine -/

@[simp] theorem State.updLine_time (l : Line) (f : LineRec → LineRec) : (s.updLine l f).time = s.time := rfl
@[simp] theorem State.updLine_loader (l : Line) (f : LineRec → LineRec) : (s.updLine l f).loader = s.loader := rfl
@[simp] theorem State.updLine_lines (l : Line) (f : LineRec → LineRec) :
    (s.updLine l f).lines = s.lines.put l ((s.lines[l]).map f) := rfl
@[simp] theorem State.updLine_bus (l : Line) (f : LineRec → LineRec) : (s.updLine l f).bus = s.bus := rfl
@[simp] theorem State.updLine_doors (l : Line) (f : LineRec → LineRec) : (s.updLine l f).doors = s.doors := rfl
@[simp] theorem State.updLine_personnel (l : Line) (f : LineRec → LineRec) : (s.updLine l f).personnel = s.personnel := rfl
@[simp] theorem State.updLine_schedules (l : Line) (f : LineRec → LineRec) : (s.updLine l f).schedules = s.schedules := rfl
@[simp] theorem State.updLine_occupancy (l : Line) (f : LineRec → LineRec) : (s.updLine l f).occupancy = s.occupancy := rfl
@[simp] theorem State.updLine_zones (l : Line) (f : LineRec → LineRec) : (s.updLine l f).zones = s.zones := rfl
@[simp] theorem State.updLine_valves (l : Line) (f : LineRec → LineRec) : (s.updLine l f).valves = s.valves := rfl
@[simp] theorem State.updLine_banks (l : Line) (f : LineRec → LineRec) : (s.updLine l f).banks = s.banks := rfl
@[simp] theorem State.updLine_containers (l : Line) (f : LineRec → LineRec) : (s.updLine l f).containers = s.containers := rfl
@[simp] theorem State.updLine_alarms (l : Line) (f : LineRec → LineRec) : (s.updLine l f).alarms = s.alarms := rfl
@[simp] theorem State.updLine_link (l : Line) (f : LineRec → LineRec) : (s.updLine l f).link = s.link := rfl
@[simp] theorem State.updLine_ports (l : Line) (f : LineRec → LineRec) : (s.updLine l f).ports = s.ports := rfl
@[simp] theorem State.updLine_pending (l : Line) (f : LineRec → LineRec) : (s.updLine l f).pending = s.pending := rfl

/-! ## updDoor -/

@[simp] theorem State.updDoor_time (d : Door) (f : DoorRec → DoorRec) : (s.updDoor d f).time = s.time := rfl
@[simp] theorem State.updDoor_loader (d : Door) (f : DoorRec → DoorRec) : (s.updDoor d f).loader = s.loader := rfl
@[simp] theorem State.updDoor_lines (d : Door) (f : DoorRec → DoorRec) : (s.updDoor d f).lines = s.lines := rfl
@[simp] theorem State.updDoor_bus (d : Door) (f : DoorRec → DoorRec) : (s.updDoor d f).bus = s.bus := rfl
@[simp] theorem State.updDoor_doors (d : Door) (f : DoorRec → DoorRec) :
    (s.updDoor d f).doors = s.doors.put d ((s.doors[d]).map f) := rfl
@[simp] theorem State.updDoor_personnel (d : Door) (f : DoorRec → DoorRec) : (s.updDoor d f).personnel = s.personnel := rfl
@[simp] theorem State.updDoor_schedules (d : Door) (f : DoorRec → DoorRec) : (s.updDoor d f).schedules = s.schedules := rfl
@[simp] theorem State.updDoor_occupancy (d : Door) (f : DoorRec → DoorRec) : (s.updDoor d f).occupancy = s.occupancy := rfl
@[simp] theorem State.updDoor_zones (d : Door) (f : DoorRec → DoorRec) : (s.updDoor d f).zones = s.zones := rfl
@[simp] theorem State.updDoor_valves (d : Door) (f : DoorRec → DoorRec) : (s.updDoor d f).valves = s.valves := rfl
@[simp] theorem State.updDoor_banks (d : Door) (f : DoorRec → DoorRec) : (s.updDoor d f).banks = s.banks := rfl
@[simp] theorem State.updDoor_containers (d : Door) (f : DoorRec → DoorRec) : (s.updDoor d f).containers = s.containers := rfl
@[simp] theorem State.updDoor_alarms (d : Door) (f : DoorRec → DoorRec) : (s.updDoor d f).alarms = s.alarms := rfl
@[simp] theorem State.updDoor_link (d : Door) (f : DoorRec → DoorRec) : (s.updDoor d f).link = s.link := rfl
@[simp] theorem State.updDoor_ports (d : Door) (f : DoorRec → DoorRec) : (s.updDoor d f).ports = s.ports := rfl
@[simp] theorem State.updDoor_pending (d : Door) (f : DoorRec → DoorRec) : (s.updDoor d f).pending = s.pending := rfl

/-! ## updZone -/

@[simp] theorem State.updZone_time (z : Zone) (f : ZoneRec → ZoneRec) : (s.updZone z f).time = s.time := rfl
@[simp] theorem State.updZone_loader (z : Zone) (f : ZoneRec → ZoneRec) : (s.updZone z f).loader = s.loader := rfl
@[simp] theorem State.updZone_lines (z : Zone) (f : ZoneRec → ZoneRec) : (s.updZone z f).lines = s.lines := rfl
@[simp] theorem State.updZone_bus (z : Zone) (f : ZoneRec → ZoneRec) : (s.updZone z f).bus = s.bus := rfl
@[simp] theorem State.updZone_doors (z : Zone) (f : ZoneRec → ZoneRec) : (s.updZone z f).doors = s.doors := rfl
@[simp] theorem State.updZone_personnel (z : Zone) (f : ZoneRec → ZoneRec) : (s.updZone z f).personnel = s.personnel := rfl
@[simp] theorem State.updZone_schedules (z : Zone) (f : ZoneRec → ZoneRec) : (s.updZone z f).schedules = s.schedules := rfl
@[simp] theorem State.updZone_occupancy (z : Zone) (f : ZoneRec → ZoneRec) : (s.updZone z f).occupancy = s.occupancy := rfl
@[simp] theorem State.updZone_zones (z : Zone) (f : ZoneRec → ZoneRec) :
    (s.updZone z f).zones = s.zones.put z ((s.zones[z]).map f) := rfl
@[simp] theorem State.updZone_valves (z : Zone) (f : ZoneRec → ZoneRec) : (s.updZone z f).valves = s.valves := rfl
@[simp] theorem State.updZone_banks (z : Zone) (f : ZoneRec → ZoneRec) : (s.updZone z f).banks = s.banks := rfl
@[simp] theorem State.updZone_containers (z : Zone) (f : ZoneRec → ZoneRec) : (s.updZone z f).containers = s.containers := rfl
@[simp] theorem State.updZone_alarms (z : Zone) (f : ZoneRec → ZoneRec) : (s.updZone z f).alarms = s.alarms := rfl
@[simp] theorem State.updZone_link (z : Zone) (f : ZoneRec → ZoneRec) : (s.updZone z f).link = s.link := rfl
@[simp] theorem State.updZone_ports (z : Zone) (f : ZoneRec → ZoneRec) : (s.updZone z f).ports = s.ports := rfl
@[simp] theorem State.updZone_pending (z : Zone) (f : ZoneRec → ZoneRec) : (s.updZone z f).pending = s.pending := rfl

/-! ## updModule -/

@[simp] theorem State.updModule_time (m : Module) (f : ModuleRec → ModuleRec) : (s.updModule m f).time = s.time := rfl
@[simp] theorem State.updModule_loader (m : Module) (f : ModuleRec → ModuleRec) : (s.updModule m f).loader = s.loader := rfl
@[simp] theorem State.updModule_lines (m : Module) (f : ModuleRec → ModuleRec) : (s.updModule m f).lines = s.lines := rfl
@[simp] theorem State.updModule_bus (m : Module) (f : ModuleRec → ModuleRec) :
    (s.updModule m f).bus = { s.bus with modules := s.bus.modules.put m ((s.bus.modules[m]).map f) } := rfl
@[simp] theorem State.updModule_doors (m : Module) (f : ModuleRec → ModuleRec) : (s.updModule m f).doors = s.doors := rfl
@[simp] theorem State.updModule_personnel (m : Module) (f : ModuleRec → ModuleRec) : (s.updModule m f).personnel = s.personnel := rfl
@[simp] theorem State.updModule_schedules (m : Module) (f : ModuleRec → ModuleRec) : (s.updModule m f).schedules = s.schedules := rfl
@[simp] theorem State.updModule_occupancy (m : Module) (f : ModuleRec → ModuleRec) : (s.updModule m f).occupancy = s.occupancy := rfl
@[simp] theorem State.updModule_zones (m : Module) (f : ModuleRec → ModuleRec) : (s.updModule m f).zones = s.zones := rfl
@[simp] theorem State.updModule_valves (m : Module) (f : ModuleRec → ModuleRec) : (s.updModule m f).valves = s.valves := rfl
@[simp] theorem State.updModule_banks (m : Module) (f : ModuleRec → ModuleRec) : (s.updModule m f).banks = s.banks := rfl
@[simp] theorem State.updModule_containers (m : Module) (f : ModuleRec → ModuleRec) : (s.updModule m f).containers = s.containers := rfl
@[simp] theorem State.updModule_alarms (m : Module) (f : ModuleRec → ModuleRec) : (s.updModule m f).alarms = s.alarms := rfl
@[simp] theorem State.updModule_link (m : Module) (f : ModuleRec → ModuleRec) : (s.updModule m f).link = s.link := rfl
@[simp] theorem State.updModule_ports (m : Module) (f : ModuleRec → ModuleRec) : (s.updModule m f).ports = s.ports := rfl
@[simp] theorem State.updModule_pending (m : Module) (f : ModuleRec → ModuleRec) : (s.updModule m f).pending = s.pending := rfl

/-! ## updOutput -/

@[simp] theorem State.updOutput_time (o : Output) (f : OutputRec → OutputRec) : (s.updOutput o f).time = s.time := rfl
@[simp] theorem State.updOutput_loader (o : Output) (f : OutputRec → OutputRec) : (s.updOutput o f).loader = s.loader := rfl
@[simp] theorem State.updOutput_lines (o : Output) (f : OutputRec → OutputRec) : (s.updOutput o f).lines = s.lines := rfl
@[simp] theorem State.updOutput_bus (o : Output) (f : OutputRec → OutputRec) : (s.updOutput o f).bus = s.bus := rfl
@[simp] theorem State.updOutput_doors (o : Output) (f : OutputRec → OutputRec) : (s.updOutput o f).doors = s.doors := rfl
@[simp] theorem State.updOutput_personnel (o : Output) (f : OutputRec → OutputRec) : (s.updOutput o f).personnel = s.personnel := rfl
@[simp] theorem State.updOutput_schedules (o : Output) (f : OutputRec → OutputRec) : (s.updOutput o f).schedules = s.schedules := rfl
@[simp] theorem State.updOutput_occupancy (o : Output) (f : OutputRec → OutputRec) : (s.updOutput o f).occupancy = s.occupancy := rfl
@[simp] theorem State.updOutput_zones (o : Output) (f : OutputRec → OutputRec) : (s.updOutput o f).zones = s.zones := rfl
@[simp] theorem State.updOutput_valves (o : Output) (f : OutputRec → OutputRec) :
    (s.updOutput o f).valves = { s.valves with outputs := s.valves.outputs.put o (f s.valves.outputs[o]) } := rfl
@[simp] theorem State.updOutput_banks (o : Output) (f : OutputRec → OutputRec) : (s.updOutput o f).banks = s.banks := rfl
@[simp] theorem State.updOutput_containers (o : Output) (f : OutputRec → OutputRec) : (s.updOutput o f).containers = s.containers := rfl
@[simp] theorem State.updOutput_alarms (o : Output) (f : OutputRec → OutputRec) : (s.updOutput o f).alarms = s.alarms := rfl
@[simp] theorem State.updOutput_link (o : Output) (f : OutputRec → OutputRec) : (s.updOutput o f).link = s.link := rfl
@[simp] theorem State.updOutput_ports (o : Output) (f : OutputRec → OutputRec) : (s.updOutput o f).ports = s.ports := rfl
@[simp] theorem State.updOutput_pending (o : Output) (f : OutputRec → OutputRec) : (s.updOutput o f).pending = s.pending := rfl

/-! ## setTest -/

@[simp] theorem State.setTest_time (z : Zone) (x : Option TestRec) : (s.setTest z x).time = s.time := rfl
@[simp] theorem State.setTest_loader (z : Zone) (x : Option TestRec) : (s.setTest z x).loader = s.loader := rfl
@[simp] theorem State.setTest_lines (z : Zone) (x : Option TestRec) : (s.setTest z x).lines = s.lines := rfl
@[simp] theorem State.setTest_bus (z : Zone) (x : Option TestRec) : (s.setTest z x).bus = s.bus := rfl
@[simp] theorem State.setTest_doors (z : Zone) (x : Option TestRec) : (s.setTest z x).doors = s.doors := rfl
@[simp] theorem State.setTest_personnel (z : Zone) (x : Option TestRec) : (s.setTest z x).personnel = s.personnel := rfl
@[simp] theorem State.setTest_schedules (z : Zone) (x : Option TestRec) : (s.setTest z x).schedules = s.schedules := rfl
@[simp] theorem State.setTest_occupancy (z : Zone) (x : Option TestRec) : (s.setTest z x).occupancy = s.occupancy := rfl
@[simp] theorem State.setTest_zones (z : Zone) (x : Option TestRec) : (s.setTest z x).zones = s.zones := rfl
@[simp] theorem State.setTest_valves (z : Zone) (x : Option TestRec) :
    (s.setTest z x).valves = { s.valves with tests := s.valves.tests.put z x } := rfl
@[simp] theorem State.setTest_banks (z : Zone) (x : Option TestRec) : (s.setTest z x).banks = s.banks := rfl
@[simp] theorem State.setTest_containers (z : Zone) (x : Option TestRec) : (s.setTest z x).containers = s.containers := rfl
@[simp] theorem State.setTest_alarms (z : Zone) (x : Option TestRec) : (s.setTest z x).alarms = s.alarms := rfl
@[simp] theorem State.setTest_link (z : Zone) (x : Option TestRec) : (s.setTest z x).link = s.link := rfl
@[simp] theorem State.setTest_ports (z : Zone) (x : Option TestRec) : (s.setTest z x).ports = s.ports := rfl
@[simp] theorem State.setTest_pending (z : Zone) (x : Option TestRec) : (s.setTest z x).pending = s.pending := rfl

/-! ## updBank -/

@[simp] theorem State.updBank_time (k : Bank) (f : BankRec → BankRec) : (s.updBank k f).time = s.time := rfl
@[simp] theorem State.updBank_loader (k : Bank) (f : BankRec → BankRec) : (s.updBank k f).loader = s.loader := rfl
@[simp] theorem State.updBank_lines (k : Bank) (f : BankRec → BankRec) : (s.updBank k f).lines = s.lines := rfl
@[simp] theorem State.updBank_bus (k : Bank) (f : BankRec → BankRec) : (s.updBank k f).bus = s.bus := rfl
@[simp] theorem State.updBank_doors (k : Bank) (f : BankRec → BankRec) : (s.updBank k f).doors = s.doors := rfl
@[simp] theorem State.updBank_personnel (k : Bank) (f : BankRec → BankRec) : (s.updBank k f).personnel = s.personnel := rfl
@[simp] theorem State.updBank_schedules (k : Bank) (f : BankRec → BankRec) : (s.updBank k f).schedules = s.schedules := rfl
@[simp] theorem State.updBank_occupancy (k : Bank) (f : BankRec → BankRec) : (s.updBank k f).occupancy = s.occupancy := rfl
@[simp] theorem State.updBank_zones (k : Bank) (f : BankRec → BankRec) : (s.updBank k f).zones = s.zones := rfl
@[simp] theorem State.updBank_valves (k : Bank) (f : BankRec → BankRec) : (s.updBank k f).valves = s.valves := rfl
@[simp] theorem State.updBank_banks (k : Bank) (f : BankRec → BankRec) :
    (s.updBank k f).banks = s.banks.put (bankIndex k) (f s.banks[bankIndex k]) := rfl
@[simp] theorem State.updBank_containers (k : Bank) (f : BankRec → BankRec) : (s.updBank k f).containers = s.containers := rfl
@[simp] theorem State.updBank_alarms (k : Bank) (f : BankRec → BankRec) : (s.updBank k f).alarms = s.alarms := rfl
@[simp] theorem State.updBank_link (k : Bank) (f : BankRec → BankRec) : (s.updBank k f).link = s.link := rfl
@[simp] theorem State.updBank_ports (k : Bank) (f : BankRec → BankRec) : (s.updBank k f).ports = s.ports := rfl
@[simp] theorem State.updBank_pending (k : Bank) (f : BankRec → BankRec) : (s.updBank k f).pending = s.pending := rfl

/-! ## updContainer -/

@[simp] theorem State.updContainer_time (c : Container) (f : ContainerRec → ContainerRec) : (s.updContainer c f).time = s.time := rfl
@[simp] theorem State.updContainer_loader (c : Container) (f : ContainerRec → ContainerRec) : (s.updContainer c f).loader = s.loader := rfl
@[simp] theorem State.updContainer_lines (c : Container) (f : ContainerRec → ContainerRec) : (s.updContainer c f).lines = s.lines := rfl
@[simp] theorem State.updContainer_bus (c : Container) (f : ContainerRec → ContainerRec) : (s.updContainer c f).bus = s.bus := rfl
@[simp] theorem State.updContainer_doors (c : Container) (f : ContainerRec → ContainerRec) : (s.updContainer c f).doors = s.doors := rfl
@[simp] theorem State.updContainer_personnel (c : Container) (f : ContainerRec → ContainerRec) : (s.updContainer c f).personnel = s.personnel := rfl
@[simp] theorem State.updContainer_schedules (c : Container) (f : ContainerRec → ContainerRec) : (s.updContainer c f).schedules = s.schedules := rfl
@[simp] theorem State.updContainer_occupancy (c : Container) (f : ContainerRec → ContainerRec) : (s.updContainer c f).occupancy = s.occupancy := rfl
@[simp] theorem State.updContainer_zones (c : Container) (f : ContainerRec → ContainerRec) : (s.updContainer c f).zones = s.zones := rfl
@[simp] theorem State.updContainer_valves (c : Container) (f : ContainerRec → ContainerRec) : (s.updContainer c f).valves = s.valves := rfl
@[simp] theorem State.updContainer_banks (c : Container) (f : ContainerRec → ContainerRec) : (s.updContainer c f).banks = s.banks := rfl
@[simp] theorem State.updContainer_containers (c : Container) (f : ContainerRec → ContainerRec) :
    (s.updContainer c f).containers = { s.containers with table := s.containers.table.put c ((s.containers.table[c]).map f) } := rfl
@[simp] theorem State.updContainer_alarms (c : Container) (f : ContainerRec → ContainerRec) : (s.updContainer c f).alarms = s.alarms := rfl
@[simp] theorem State.updContainer_link (c : Container) (f : ContainerRec → ContainerRec) : (s.updContainer c f).link = s.link := rfl
@[simp] theorem State.updContainer_ports (c : Container) (f : ContainerRec → ContainerRec) : (s.updContainer c f).ports = s.ports := rfl
@[simp] theorem State.updContainer_pending (c : Container) (f : ContainerRec → ContainerRec) : (s.updContainer c f).pending = s.pending := rfl

/-! ## updPanel -/

@[simp] theorem State.updPanel_time (z : Zone) (f : PanelRec → PanelRec) : (s.updPanel z f).time = s.time := rfl
@[simp] theorem State.updPanel_loader (z : Zone) (f : PanelRec → PanelRec) : (s.updPanel z f).loader = s.loader := rfl
@[simp] theorem State.updPanel_lines (z : Zone) (f : PanelRec → PanelRec) : (s.updPanel z f).lines = s.lines := rfl
@[simp] theorem State.updPanel_bus (z : Zone) (f : PanelRec → PanelRec) : (s.updPanel z f).bus = s.bus := rfl
@[simp] theorem State.updPanel_doors (z : Zone) (f : PanelRec → PanelRec) : (s.updPanel z f).doors = s.doors := rfl
@[simp] theorem State.updPanel_personnel (z : Zone) (f : PanelRec → PanelRec) : (s.updPanel z f).personnel = s.personnel := rfl
@[simp] theorem State.updPanel_schedules (z : Zone) (f : PanelRec → PanelRec) : (s.updPanel z f).schedules = s.schedules := rfl
@[simp] theorem State.updPanel_occupancy (z : Zone) (f : PanelRec → PanelRec) : (s.updPanel z f).occupancy = s.occupancy := rfl
@[simp] theorem State.updPanel_zones (z : Zone) (f : PanelRec → PanelRec) : (s.updPanel z f).zones = s.zones := rfl
@[simp] theorem State.updPanel_valves (z : Zone) (f : PanelRec → PanelRec) : (s.updPanel z f).valves = s.valves := rfl
@[simp] theorem State.updPanel_banks (z : Zone) (f : PanelRec → PanelRec) : (s.updPanel z f).banks = s.banks := rfl
@[simp] theorem State.updPanel_containers (z : Zone) (f : PanelRec → PanelRec) : (s.updPanel z f).containers = s.containers := rfl
@[simp] theorem State.updPanel_alarms (z : Zone) (f : PanelRec → PanelRec) : (s.updPanel z f).alarms = s.alarms := rfl
@[simp] theorem State.updPanel_link (z : Zone) (f : PanelRec → PanelRec) :
    (s.updPanel z f).link = { s.link with panels := s.link.panels.put z ((s.link.panels[z]).map f) } := rfl
@[simp] theorem State.updPanel_ports (z : Zone) (f : PanelRec → PanelRec) : (s.updPanel z f).ports = s.ports := rfl
@[simp] theorem State.updPanel_pending (z : Zone) (f : PanelRec → PanelRec) : (s.updPanel z f).pending = s.pending := rfl

/-! ## updPort -/

@[simp] theorem State.updPort_time (p : Port) (f : PortRec → PortRec) : (s.updPort p f).time = s.time := rfl
@[simp] theorem State.updPort_loader (p : Port) (f : PortRec → PortRec) : (s.updPort p f).loader = s.loader := rfl
@[simp] theorem State.updPort_lines (p : Port) (f : PortRec → PortRec) : (s.updPort p f).lines = s.lines := rfl
@[simp] theorem State.updPort_bus (p : Port) (f : PortRec → PortRec) : (s.updPort p f).bus = s.bus := rfl
@[simp] theorem State.updPort_doors (p : Port) (f : PortRec → PortRec) : (s.updPort p f).doors = s.doors := rfl
@[simp] theorem State.updPort_personnel (p : Port) (f : PortRec → PortRec) : (s.updPort p f).personnel = s.personnel := rfl
@[simp] theorem State.updPort_schedules (p : Port) (f : PortRec → PortRec) : (s.updPort p f).schedules = s.schedules := rfl
@[simp] theorem State.updPort_occupancy (p : Port) (f : PortRec → PortRec) : (s.updPort p f).occupancy = s.occupancy := rfl
@[simp] theorem State.updPort_zones (p : Port) (f : PortRec → PortRec) : (s.updPort p f).zones = s.zones := rfl
@[simp] theorem State.updPort_valves (p : Port) (f : PortRec → PortRec) : (s.updPort p f).valves = s.valves := rfl
@[simp] theorem State.updPort_banks (p : Port) (f : PortRec → PortRec) : (s.updPort p f).banks = s.banks := rfl
@[simp] theorem State.updPort_containers (p : Port) (f : PortRec → PortRec) : (s.updPort p f).containers = s.containers := rfl
@[simp] theorem State.updPort_alarms (p : Port) (f : PortRec → PortRec) : (s.updPort p f).alarms = s.alarms := rfl
@[simp] theorem State.updPort_link (p : Port) (f : PortRec → PortRec) : (s.updPort p f).link = s.link := rfl
@[simp] theorem State.updPort_ports (p : Port) (f : PortRec → PortRec) :
    (s.updPort p f).ports = s.ports.put (portIndex p) (f s.ports[portIndex p]) := rfl
@[simp] theorem State.updPort_pending (p : Port) (f : PortRec → PortRec) : (s.updPort p f).pending = s.pending := rfl

/-! ## updOccupancy -/

@[simp] theorem State.updOccupancy_time (f : Occupancy → Occupancy) : (s.updOccupancy f).time = s.time := rfl
@[simp] theorem State.updOccupancy_loader (f : Occupancy → Occupancy) : (s.updOccupancy f).loader = s.loader := rfl
@[simp] theorem State.updOccupancy_lines (f : Occupancy → Occupancy) : (s.updOccupancy f).lines = s.lines := rfl
@[simp] theorem State.updOccupancy_bus (f : Occupancy → Occupancy) : (s.updOccupancy f).bus = s.bus := rfl
@[simp] theorem State.updOccupancy_doors (f : Occupancy → Occupancy) : (s.updOccupancy f).doors = s.doors := rfl
@[simp] theorem State.updOccupancy_personnel (f : Occupancy → Occupancy) : (s.updOccupancy f).personnel = s.personnel := rfl
@[simp] theorem State.updOccupancy_schedules (f : Occupancy → Occupancy) : (s.updOccupancy f).schedules = s.schedules := rfl
@[simp] theorem State.updOccupancy_occupancy (f : Occupancy → Occupancy) :
    (s.updOccupancy f).occupancy = f s.occupancy := rfl
@[simp] theorem State.updOccupancy_zones (f : Occupancy → Occupancy) : (s.updOccupancy f).zones = s.zones := rfl
@[simp] theorem State.updOccupancy_valves (f : Occupancy → Occupancy) : (s.updOccupancy f).valves = s.valves := rfl
@[simp] theorem State.updOccupancy_banks (f : Occupancy → Occupancy) : (s.updOccupancy f).banks = s.banks := rfl
@[simp] theorem State.updOccupancy_containers (f : Occupancy → Occupancy) : (s.updOccupancy f).containers = s.containers := rfl
@[simp] theorem State.updOccupancy_alarms (f : Occupancy → Occupancy) : (s.updOccupancy f).alarms = s.alarms := rfl
@[simp] theorem State.updOccupancy_link (f : Occupancy → Occupancy) : (s.updOccupancy f).link = s.link := rfl
@[simp] theorem State.updOccupancy_ports (f : Occupancy → Occupancy) : (s.updOccupancy f).ports = s.ports := rfl
@[simp] theorem State.updOccupancy_pending (f : Occupancy → Occupancy) : (s.updOccupancy f).pending = s.pending := rfl

/-! ## updAlarms -/

@[simp] theorem State.updAlarms_time (f : Alarms → Alarms) : (s.updAlarms f).time = s.time := rfl
@[simp] theorem State.updAlarms_loader (f : Alarms → Alarms) : (s.updAlarms f).loader = s.loader := rfl
@[simp] theorem State.updAlarms_lines (f : Alarms → Alarms) : (s.updAlarms f).lines = s.lines := rfl
@[simp] theorem State.updAlarms_bus (f : Alarms → Alarms) : (s.updAlarms f).bus = s.bus := rfl
@[simp] theorem State.updAlarms_doors (f : Alarms → Alarms) : (s.updAlarms f).doors = s.doors := rfl
@[simp] theorem State.updAlarms_personnel (f : Alarms → Alarms) : (s.updAlarms f).personnel = s.personnel := rfl
@[simp] theorem State.updAlarms_schedules (f : Alarms → Alarms) : (s.updAlarms f).schedules = s.schedules := rfl
@[simp] theorem State.updAlarms_occupancy (f : Alarms → Alarms) : (s.updAlarms f).occupancy = s.occupancy := rfl
@[simp] theorem State.updAlarms_zones (f : Alarms → Alarms) : (s.updAlarms f).zones = s.zones := rfl
@[simp] theorem State.updAlarms_valves (f : Alarms → Alarms) : (s.updAlarms f).valves = s.valves := rfl
@[simp] theorem State.updAlarms_banks (f : Alarms → Alarms) : (s.updAlarms f).banks = s.banks := rfl
@[simp] theorem State.updAlarms_containers (f : Alarms → Alarms) : (s.updAlarms f).containers = s.containers := rfl
@[simp] theorem State.updAlarms_alarms (f : Alarms → Alarms) :
    (s.updAlarms f).alarms = f s.alarms := rfl
@[simp] theorem State.updAlarms_link (f : Alarms → Alarms) : (s.updAlarms f).link = s.link := rfl
@[simp] theorem State.updAlarms_ports (f : Alarms → Alarms) : (s.updAlarms f).ports = s.ports := rfl
@[simp] theorem State.updAlarms_pending (f : Alarms → Alarms) : (s.updAlarms f).pending = s.pending := rfl

end Sys2Proof.Machine
end

