-- ==== Sys2Proof/Laws/Frames.lean ====
section
/-! SUPPORT. Frames: what each shared operation leaves as it was. A lemma of each names every part of State the operation never
writes, so that no later proof unfolds it for them. -/

namespace Sys2Proof.Machine

/-! ## Sequences of items -/

/-- What every single item keeps, the whole sequence keeps. -/
theorem State.forEach_keeps {α β : Type} (s : State) (l : List α) (f : α → State → State) (g : State → β)
    (h : ∀ a t, g (f a t) = g t) : g (s.forEach l f) = g s := by
  induction l generalizing s with
  | nil => rfl
  | cons a l ih => exact (ih (f a s)).trans (h a s)

/-- A property that every single item keeps, the whole sequence keeps. -/
theorem State.forEach_induct {α : Type} (P : State → Prop) (s : State) (l : List α) (f : α → State → State)
    (h : ∀ a, a ∈ l → ∀ t, P t → P (f a t)) (hs : P s) : P (s.forEach l f) := by
  induction l generalizing s with
  | nil => exact hs
  | cons a l ih => exact ih (f a s) (fun b hb => h b (List.mem_cons_of_mem a hb)) (h a List.mem_cons_self s hs)

@[simp] theorem State.forEach_time {α : Type} (s : State) (l : List α) (f : α → State → State)
    (h : ∀ a t, (f a t).time = t.time) : (s.forEach l f).time = s.time := State.forEach_keeps s l f (·.time) h

@[simp] theorem State.forEach_loader {α : Type} (s : State) (l : List α) (f : α → State → State)
    (h : ∀ a t, (f a t).loader = t.loader) : (s.forEach l f).loader = s.loader := State.forEach_keeps s l f (·.loader) h

@[simp] theorem State.forEach_lines {α : Type} (s : State) (l : List α) (f : α → State → State)
    (h : ∀ a t, (f a t).lines = t.lines) : (s.forEach l f).lines = s.lines := State.forEach_keeps s l f (·.lines) h

@[simp] theorem State.forEach_bus {α : Type} (s : State) (l : List α) (f : α → State → State)
    (h : ∀ a t, (f a t).bus = t.bus) : (s.forEach l f).bus = s.bus := State.forEach_keeps s l f (·.bus) h

@[simp] theorem State.forEach_doors {α : Type} (s : State) (l : List α) (f : α → State → State)
    (h : ∀ a t, (f a t).doors = t.doors) : (s.forEach l f).doors = s.doors := State.forEach_keeps s l f (·.doors) h

@[simp] theorem State.forEach_personnel {α : Type} (s : State) (l : List α) (f : α → State → State)
    (h : ∀ a t, (f a t).personnel = t.personnel) : (s.forEach l f).personnel = s.personnel := State.forEach_keeps s l f (·.personnel) h

@[simp] theorem State.forEach_schedules {α : Type} (s : State) (l : List α) (f : α → State → State)
    (h : ∀ a t, (f a t).schedules = t.schedules) : (s.forEach l f).schedules = s.schedules := State.forEach_keeps s l f (·.schedules) h

@[simp] theorem State.forEach_occupancy {α : Type} (s : State) (l : List α) (f : α → State → State)
    (h : ∀ a t, (f a t).occupancy = t.occupancy) : (s.forEach l f).occupancy = s.occupancy := State.forEach_keeps s l f (·.occupancy) h

@[simp] theorem State.forEach_zones {α : Type} (s : State) (l : List α) (f : α → State → State)
    (h : ∀ a t, (f a t).zones = t.zones) : (s.forEach l f).zones = s.zones := State.forEach_keeps s l f (·.zones) h

@[simp] theorem State.forEach_valves {α : Type} (s : State) (l : List α) (f : α → State → State)
    (h : ∀ a t, (f a t).valves = t.valves) : (s.forEach l f).valves = s.valves := State.forEach_keeps s l f (·.valves) h

@[simp] theorem State.forEach_banks {α : Type} (s : State) (l : List α) (f : α → State → State)
    (h : ∀ a t, (f a t).banks = t.banks) : (s.forEach l f).banks = s.banks := State.forEach_keeps s l f (·.banks) h

@[simp] theorem State.forEach_containers {α : Type} (s : State) (l : List α) (f : α → State → State)
    (h : ∀ a t, (f a t).containers = t.containers) : (s.forEach l f).containers = s.containers := State.forEach_keeps s l f (·.containers) h

@[simp] theorem State.forEach_alarms {α : Type} (s : State) (l : List α) (f : α → State → State)
    (h : ∀ a t, (f a t).alarms = t.alarms) : (s.forEach l f).alarms = s.alarms := State.forEach_keeps s l f (·.alarms) h

@[simp] theorem State.forEach_link {α : Type} (s : State) (l : List α) (f : α → State → State)
    (h : ∀ a t, (f a t).link = t.link) : (s.forEach l f).link = s.link := State.forEach_keeps s l f (·.link) h

@[simp] theorem State.forEach_ports {α : Type} (s : State) (l : List α) (f : α → State → State)
    (h : ∀ a t, (f a t).ports = t.ports) : (s.forEach l f).ports = s.ports := State.forEach_keeps s l f (·.ports) h

@[simp] theorem State.forEach_pending {α : Type} (s : State) (l : List α) (f : α → State → State)
    (h : ∀ a t, (f a t).pending = t.pending) : (s.forEach l f).pending = s.pending := State.forEach_keeps s l f (·.pending) h

/-! ## Notices and the door bus -/

@[simp] theorem State.notify_frame (s : State) (body : NoticeBody) :
    (s.notify body).time = s.time ∧ (s.notify body).loader = s.loader ∧ (s.notify body).lines = s.lines ∧
    (s.notify body).bus = s.bus ∧ (s.notify body).doors = s.doors ∧ (s.notify body).personnel = s.personnel ∧
    (s.notify body).schedules = s.schedules ∧ (s.notify body).occupancy = s.occupancy ∧ (s.notify body).zones = s.zones ∧
    (s.notify body).valves = s.valves ∧ (s.notify body).banks = s.banks ∧ (s.notify body).containers = s.containers ∧
    (s.notify body).alarms = s.alarms ∧ (s.notify body).link = s.link ∧ (s.notify body).pending = s.pending := by
  exact ⟨State.forEach_time _ _ _ fun _ _ => rfl,
    State.forEach_loader _ _ _ fun _ _ => rfl,
    State.forEach_lines _ _ _ fun _ _ => rfl,
    State.forEach_bus _ _ _ fun _ _ => rfl,
    State.forEach_doors _ _ _ fun _ _ => rfl,
    State.forEach_personnel _ _ _ fun _ _ => rfl,
    State.forEach_schedules _ _ _ fun _ _ => rfl,
    State.forEach_occupancy _ _ _ fun _ _ => rfl,
    State.forEach_zones _ _ _ fun _ _ => rfl,
    State.forEach_valves _ _ _ fun _ _ => rfl,
    State.forEach_banks _ _ _ fun _ _ => rfl,
    State.forEach_containers _ _ _ fun _ _ => rfl,
    State.forEach_alarms _ _ _ fun _ _ => rfl,
    State.forEach_link _ _ _ fun _ _ => rfl,
    State.forEach_pending _ _ _ fun _ _ => rfl⟩

@[simp] theorem State.startPoll_frame (s : State) (m : Module) :
    (s.startPoll m).time = s.time ∧ (s.startPoll m).loader = s.loader ∧ (s.startPoll m).lines = s.lines ∧
    (s.startPoll m).doors = s.doors ∧ (s.startPoll m).personnel = s.personnel ∧ (s.startPoll m).schedules = s.schedules ∧
    (s.startPoll m).occupancy = s.occupancy ∧ (s.startPoll m).zones = s.zones ∧ (s.startPoll m).valves = s.valves ∧
    (s.startPoll m).banks = s.banks ∧ (s.startPoll m).containers = s.containers ∧ (s.startPoll m).alarms = s.alarms ∧
    (s.startPoll m).link = s.link ∧ (s.startPoll m).ports = s.ports ∧ (s.startPoll m).pending = s.pending := by
  refine ⟨?_, ?_, ?_, ?_, ?_, ?_, ?_, ?_, ?_, ?_, ?_, ?_, ?_, ?_, ?_⟩ <;> (unfold State.startPoll; repeat' first | with_reducible rfl | split | simp)

@[simp] theorem State.startDrive_frame (s : State) (m : Module) (d : Drive) (rest : List (Module × Drive)) :
    (s.startDrive m d rest).time = s.time ∧ (s.startDrive m d rest).loader = s.loader ∧
    (s.startDrive m d rest).lines = s.lines ∧ (s.startDrive m d rest).doors = s.doors ∧
    (s.startDrive m d rest).personnel = s.personnel ∧ (s.startDrive m d rest).schedules = s.schedules ∧
    (s.startDrive m d rest).occupancy = s.occupancy ∧ (s.startDrive m d rest).zones = s.zones ∧
    (s.startDrive m d rest).valves = s.valves ∧ (s.startDrive m d rest).banks = s.banks ∧
    (s.startDrive m d rest).containers = s.containers ∧ (s.startDrive m d rest).alarms = s.alarms ∧
    (s.startDrive m d rest).link = s.link ∧ (s.startDrive m d rest).ports = s.ports ∧
    (s.startDrive m d rest).pending = s.pending := by
  refine ⟨?_, ?_, ?_, ?_, ?_, ?_, ?_, ?_, ?_, ?_, ?_, ?_, ?_, ?_, ?_⟩ <;> (unfold State.startDrive; with_reducible rfl)

@[simp] theorem State.chooseNext_frame (s : State) :
    (s.chooseNext).time = s.time ∧ (s.chooseNext).loader = s.loader ∧ (s.chooseNext).lines = s.lines ∧
    (s.chooseNext).doors = s.doors ∧ (s.chooseNext).personnel = s.personnel ∧ (s.chooseNext).schedules = s.schedules ∧
    (s.chooseNext).occupancy = s.occupancy ∧ (s.chooseNext).zones = s.zones ∧ (s.chooseNext).valves = s.valves ∧
    (s.chooseNext).banks = s.banks ∧ (s.chooseNext).containers = s.containers ∧ (s.chooseNext).alarms = s.alarms ∧
    (s.chooseNext).link = s.link ∧ (s.chooseNext).ports = s.ports ∧ (s.chooseNext).pending = s.pending := by
  refine ⟨?_, ?_, ?_, ?_, ?_, ?_, ?_, ?_, ?_, ?_, ?_, ?_, ?_, ?_, ?_⟩ <;> (unfold State.chooseNext; repeat' first | with_reducible rfl | split | simp)

@[simp] theorem State.busFree_frame (s : State) :
    (s.busFree).time = s.time ∧ (s.busFree).loader = s.loader ∧ (s.busFree).lines = s.lines ∧ (s.busFree).doors = s.doors ∧
    (s.busFree).personnel = s.personnel ∧ (s.busFree).schedules = s.schedules ∧ (s.busFree).occupancy = s.occupancy ∧
    (s.busFree).zones = s.zones ∧ (s.busFree).valves = s.valves ∧ (s.busFree).banks = s.banks ∧
    (s.busFree).containers = s.containers ∧ (s.busFree).alarms = s.alarms ∧ (s.busFree).link = s.link ∧
    (s.busFree).ports = s.ports ∧ (s.busFree).pending = s.pending := by
  refine ⟨?_, ?_, ?_, ?_, ?_, ?_, ?_, ?_, ?_, ?_, ?_, ?_, ?_, ?_, ?_⟩ <;> (unfold State.busFree; repeat' first | with_reducible rfl | split | simp)

@[simp] theorem State.handDrive_frame (s : State) (module : Option Module) (d : Drive) :
    (s.handDrive module d).time = s.time ∧ (s.handDrive module d).loader = s.loader ∧ (s.handDrive module d).lines = s.lines ∧
    (s.handDrive module d).doors = s.doors ∧ (s.handDrive module d).personnel = s.personnel ∧
    (s.handDrive module d).schedules = s.schedules ∧ (s.handDrive module d).occupancy = s.occupancy ∧
    (s.handDrive module d).zones = s.zones ∧ (s.handDrive module d).valves = s.valves ∧
    (s.handDrive module d).banks = s.banks ∧ (s.handDrive module d).containers = s.containers ∧
    (s.handDrive module d).alarms = s.alarms ∧ (s.handDrive module d).link = s.link ∧ (s.handDrive module d).ports = s.ports ∧
    (s.handDrive module d).pending = s.pending := by
  refine ⟨?_, ?_, ?_, ?_, ?_, ?_, ?_, ?_, ?_, ?_, ?_, ?_, ?_, ?_, ?_⟩ <;> (unfold State.handDrive; repeat' first | with_reducible rfl | split | simp)


/-! ## Doors -/

@[simp] theorem State.refreshDrive_frame (s : State) (d : Door) :
    (s.refreshDrive d).time = s.time ∧ (s.refreshDrive d).loader = s.loader ∧ (s.refreshDrive d).lines = s.lines ∧
    (s.refreshDrive d).personnel = s.personnel ∧ (s.refreshDrive d).schedules = s.schedules ∧
    (s.refreshDrive d).occupancy = s.occupancy ∧ (s.refreshDrive d).zones = s.zones ∧ (s.refreshDrive d).valves = s.valves ∧
    (s.refreshDrive d).banks = s.banks ∧ (s.refreshDrive d).containers = s.containers ∧ (s.refreshDrive d).alarms = s.alarms ∧
    (s.refreshDrive d).link = s.link ∧ (s.refreshDrive d).ports = s.ports ∧ (s.refreshDrive d).pending = s.pending := by
  refine ⟨?_, ?_, ?_, ?_, ?_, ?_, ?_, ?_, ?_, ?_, ?_, ?_, ?_, ?_⟩ <;> (unfold State.refreshDrive; repeat' first | with_reducible rfl | split | simp)

@[simp] theorem State.startDenial_frame (s : State) (d : Door) :
    (s.startDenial d).time = s.time ∧ (s.startDenial d).loader = s.loader ∧ (s.startDenial d).lines = s.lines ∧
    (s.startDenial d).personnel = s.personnel ∧ (s.startDenial d).schedules = s.schedules ∧
    (s.startDenial d).occupancy = s.occupancy ∧ (s.startDenial d).zones = s.zones ∧ (s.startDenial d).valves = s.valves ∧
    (s.startDenial d).banks = s.banks ∧ (s.startDenial d).containers = s.containers ∧ (s.startDenial d).alarms = s.alarms ∧
    (s.startDenial d).link = s.link ∧ (s.startDenial d).ports = s.ports ∧ (s.startDenial d).pending = s.pending := by
  refine ⟨?_, ?_, ?_, ?_, ?_, ?_, ?_, ?_, ?_, ?_, ?_, ?_, ?_, ?_⟩ <;> (unfold State.startDenial; repeat' first | with_reducible rfl | split | simp)

@[simp] theorem State.notifyDoor_frame (s : State) (d : Door) (previous : DoorState) (cause : DoorCause) (grant : Option Grant) :
    (s.notifyDoor d previous cause grant).time = s.time ∧ (s.notifyDoor d previous cause grant).loader = s.loader ∧
    (s.notifyDoor d previous cause grant).lines = s.lines ∧ (s.notifyDoor d previous cause grant).bus = s.bus ∧
    (s.notifyDoor d previous cause grant).doors = s.doors ∧ (s.notifyDoor d previous cause grant).personnel = s.personnel ∧
    (s.notifyDoor d previous cause grant).schedules = s.schedules ∧
    (s.notifyDoor d previous cause grant).occupancy = s.occupancy ∧ (s.notifyDoor d previous cause grant).zones = s.zones ∧
    (s.notifyDoor d previous cause grant).valves = s.valves ∧ (s.notifyDoor d previous cause grant).banks = s.banks ∧
    (s.notifyDoor d previous cause grant).containers = s.containers ∧ (s.notifyDoor d previous cause grant).alarms = s.alarms ∧
    (s.notifyDoor d previous cause grant).link = s.link ∧ (s.notifyDoor d previous cause grant).pending = s.pending := by
  refine ⟨?_, ?_, ?_, ?_, ?_, ?_, ?_, ?_, ?_, ?_, ?_, ?_, ?_, ?_, ?_⟩ <;> (unfold State.notifyDoor; repeat' first | with_reducible rfl | split | simp)

@[simp] theorem State.recordSummary_frame (s : State) (z : Zone) :
    (s.recordSummary z).time = s.time ∧ (s.recordSummary z).loader = s.loader ∧ (s.recordSummary z).lines = s.lines ∧
    (s.recordSummary z).bus = s.bus ∧ (s.recordSummary z).doors = s.doors ∧ (s.recordSummary z).personnel = s.personnel ∧
    (s.recordSummary z).schedules = s.schedules ∧ (s.recordSummary z).occupancy = s.occupancy ∧
    (s.recordSummary z).valves = s.valves ∧ (s.recordSummary z).banks = s.banks ∧
    (s.recordSummary z).containers = s.containers ∧ (s.recordSummary z).alarms = s.alarms ∧ (s.recordSummary z).link = s.link ∧
    (s.recordSummary z).ports = s.ports ∧ (s.recordSummary z).pending = s.pending := by
  refine ⟨?_, ?_, ?_, ?_, ?_, ?_, ?_, ?_, ?_, ?_, ?_, ?_, ?_, ?_, ?_⟩ <;> (unfold State.recordSummary; repeat' first | with_reducible rfl | split | simp)

@[simp] theorem State.reservePlaces_frame (s : State) (z : Zone) (n : Nat) :
    (s.reservePlaces z n).time = s.time ∧ (s.reservePlaces z n).loader = s.loader ∧ (s.reservePlaces z n).lines = s.lines ∧
    (s.reservePlaces z n).bus = s.bus ∧ (s.reservePlaces z n).doors = s.doors ∧ (s.reservePlaces z n).personnel = s.personnel ∧
    (s.reservePlaces z n).schedules = s.schedules ∧ (s.reservePlaces z n).valves = s.valves ∧
    (s.reservePlaces z n).banks = s.banks ∧ (s.reservePlaces z n).containers = s.containers ∧
    (s.reservePlaces z n).alarms = s.alarms ∧ (s.reservePlaces z n).link = s.link ∧ (s.reservePlaces z n).ports = s.ports ∧
    (s.reservePlaces z n).pending = s.pending := by
  refine ⟨?_, ?_, ?_, ?_, ?_, ?_, ?_, ?_, ?_, ?_, ?_, ?_, ?_, ?_⟩ <;> (unfold State.reservePlaces; repeat' first | with_reducible rfl | split | simp)

@[simp] theorem State.releasePlaces_frame (s : State) (z : Zone) (n : Nat) :
    (s.releasePlaces z n).time = s.time ∧ (s.releasePlaces z n).loader = s.loader ∧ (s.releasePlaces z n).lines = s.lines ∧
    (s.releasePlaces z n).bus = s.bus ∧ (s.releasePlaces z n).doors = s.doors ∧ (s.releasePlaces z n).personnel = s.personnel ∧
    (s.releasePlaces z n).schedules = s.schedules ∧ (s.releasePlaces z n).valves = s.valves ∧
    (s.releasePlaces z n).banks = s.banks ∧ (s.releasePlaces z n).containers = s.containers ∧
    (s.releasePlaces z n).alarms = s.alarms ∧ (s.releasePlaces z n).link = s.link ∧ (s.releasePlaces z n).ports = s.ports ∧
    (s.releasePlaces z n).pending = s.pending := by
  refine ⟨?_, ?_, ?_, ?_, ?_, ?_, ?_, ?_, ?_, ?_, ?_, ?_, ?_, ?_⟩ <;> (unfold State.releasePlaces; repeat' first | with_reducible rfl | split | simp)

@[simp] theorem State.withdrawPairing_frame (s : State) (d : Door) (cause : WithdrawCause) :
    (s.withdrawPairing d cause).time = s.time ∧ (s.withdrawPairing d cause).loader = s.loader ∧
    (s.withdrawPairing d cause).lines = s.lines ∧ (s.withdrawPairing d cause).bus = s.bus ∧
    (s.withdrawPairing d cause).personnel = s.personnel ∧ (s.withdrawPairing d cause).schedules = s.schedules ∧
    (s.withdrawPairing d cause).occupancy = s.occupancy ∧ (s.withdrawPairing d cause).zones = s.zones ∧
    (s.withdrawPairing d cause).valves = s.valves ∧ (s.withdrawPairing d cause).banks = s.banks ∧
    (s.withdrawPairing d cause).containers = s.containers ∧ (s.withdrawPairing d cause).alarms = s.alarms ∧
    (s.withdrawPairing d cause).link = s.link ∧ (s.withdrawPairing d cause).pending = s.pending := by
  refine ⟨?_, ?_, ?_, ?_, ?_, ?_, ?_, ?_, ?_, ?_, ?_, ?_, ?_, ?_⟩ <;> (unfold State.withdrawPairing; repeat' first | with_reducible rfl | split | simp)

@[simp] theorem State.withdrawGrant_frame (s : State) (d : Door) (cause : WithdrawCause) :
    (s.withdrawGrant d cause).time = s.time ∧ (s.withdrawGrant d cause).loader = s.loader ∧
    (s.withdrawGrant d cause).lines = s.lines ∧ (s.withdrawGrant d cause).bus = s.bus ∧
    (s.withdrawGrant d cause).personnel = s.personnel ∧ (s.withdrawGrant d cause).schedules = s.schedules ∧
    (s.withdrawGrant d cause).valves = s.valves ∧ (s.withdrawGrant d cause).banks = s.banks ∧
    (s.withdrawGrant d cause).containers = s.containers ∧ (s.withdrawGrant d cause).alarms = s.alarms ∧
    (s.withdrawGrant d cause).link = s.link ∧ (s.withdrawGrant d cause).pending = s.pending := by
  refine ⟨?_, ?_, ?_, ?_, ?_, ?_, ?_, ?_, ?_, ?_, ?_, ?_⟩ <;> (unfold State.withdrawGrant; repeat' first | with_reducible rfl | split | simp)

@[simp] theorem State.withdrawAtDoor_frame (s : State) (d : Door) (entered : ZoneState) :
    (s.withdrawAtDoor d entered).time = s.time ∧ (s.withdrawAtDoor d entered).loader = s.loader ∧
    (s.withdrawAtDoor d entered).lines = s.lines ∧ (s.withdrawAtDoor d entered).personnel = s.personnel ∧
    (s.withdrawAtDoor d entered).schedules = s.schedules ∧ (s.withdrawAtDoor d entered).valves = s.valves ∧
    (s.withdrawAtDoor d entered).banks = s.banks ∧ (s.withdrawAtDoor d entered).containers = s.containers ∧
    (s.withdrawAtDoor d entered).alarms = s.alarms ∧ (s.withdrawAtDoor d entered).link = s.link ∧
    (s.withdrawAtDoor d entered).pending = s.pending := by
  refine ⟨?_, ?_, ?_, ?_, ?_, ?_, ?_, ?_, ?_, ?_, ?_⟩ <;> (unfold State.withdrawAtDoor; repeat' first | with_reducible rfl | split | simp)

@[simp] theorem State.withdrawalOrder_frame (s : State) (z : Zone) (entered : ZoneState) :
    (s.withdrawalOrder z entered).time = s.time ∧ (s.withdrawalOrder z entered).loader = s.loader ∧
    (s.withdrawalOrder z entered).lines = s.lines ∧ (s.withdrawalOrder z entered).personnel = s.personnel ∧
    (s.withdrawalOrder z entered).schedules = s.schedules ∧ (s.withdrawalOrder z entered).valves = s.valves ∧
    (s.withdrawalOrder z entered).banks = s.banks ∧ (s.withdrawalOrder z entered).containers = s.containers ∧
    (s.withdrawalOrder z entered).alarms = s.alarms ∧ (s.withdrawalOrder z entered).link = s.link ∧
    (s.withdrawalOrder z entered).pending = s.pending := by
  refine ⟨?_, ?_, ?_, ?_, ?_, ?_, ?_, ?_, ?_, ?_, ?_⟩ <;> (unfold State.withdrawalOrder; repeat' first | with_reducible rfl | split | simp)

@[simp] theorem State.barringEnded_frame (s : State) (z : Zone) :
    (s.barringEnded z).time = s.time ∧ (s.barringEnded z).loader = s.loader ∧ (s.barringEnded z).lines = s.lines ∧
    (s.barringEnded z).personnel = s.personnel ∧ (s.barringEnded z).schedules = s.schedules ∧
    (s.barringEnded z).occupancy = s.occupancy ∧ (s.barringEnded z).zones = s.zones ∧ (s.barringEnded z).valves = s.valves ∧
    (s.barringEnded z).banks = s.banks ∧ (s.barringEnded z).containers = s.containers ∧ (s.barringEnded z).alarms = s.alarms ∧
    (s.barringEnded z).link = s.link ∧ (s.barringEnded z).ports = s.ports ∧ (s.barringEnded z).pending = s.pending := by
  refine ⟨?_, ?_, ?_, ?_, ?_, ?_, ?_, ?_, ?_, ?_, ?_, ?_, ?_, ?_⟩ <;> (unfold State.barringEnded; repeat' first | with_reducible rfl | split | simp)


/-! ## Panels and valves -/

@[simp] theorem State.refreshPanel_frame (s : State) (z : Zone) :
    (s.refreshPanel z).time = s.time ∧ (s.refreshPanel z).loader = s.loader ∧ (s.refreshPanel z).lines = s.lines ∧
    (s.refreshPanel z).bus = s.bus ∧ (s.refreshPanel z).doors = s.doors ∧ (s.refreshPanel z).personnel = s.personnel ∧
    (s.refreshPanel z).schedules = s.schedules ∧ (s.refreshPanel z).occupancy = s.occupancy ∧
    (s.refreshPanel z).zones = s.zones ∧ (s.refreshPanel z).valves = s.valves ∧ (s.refreshPanel z).banks = s.banks ∧
    (s.refreshPanel z).containers = s.containers ∧ (s.refreshPanel z).alarms = s.alarms ∧ (s.refreshPanel z).ports = s.ports ∧
    (s.refreshPanel z).pending = s.pending := by
  refine ⟨?_, ?_, ?_, ?_, ?_, ?_, ?_, ?_, ?_, ?_, ?_, ?_, ?_, ?_, ?_⟩ <;> (unfold State.refreshPanel; repeat' first | with_reducible rfl | split | simp)

@[simp] theorem State.handPathFault_frame (s : State) (o : Output) (present : Bool) :
    (s.handPathFault o present).time = s.time ∧ (s.handPathFault o present).loader = s.loader ∧
    (s.handPathFault o present).lines = s.lines ∧ (s.handPathFault o present).bus = s.bus ∧
    (s.handPathFault o present).doors = s.doors ∧ (s.handPathFault o present).personnel = s.personnel ∧
    (s.handPathFault o present).schedules = s.schedules ∧ (s.handPathFault o present).occupancy = s.occupancy ∧
    (s.handPathFault o present).valves = s.valves ∧ (s.handPathFault o present).banks = s.banks ∧
    (s.handPathFault o present).containers = s.containers ∧ (s.handPathFault o present).alarms = s.alarms ∧
    (s.handPathFault o present).link = s.link ∧ (s.handPathFault o present).ports = s.ports ∧
    (s.handPathFault o present).pending = s.pending := by
  simp only [State.handPathFault]
  split
  · simp
  · exact ⟨State.forEach_time _ _ _ fun _ _ => rfl,
      State.forEach_loader _ _ _ fun _ _ => rfl,
      State.forEach_lines _ _ _ fun _ _ => rfl,
      State.forEach_bus _ _ _ fun _ _ => rfl,
      State.forEach_doors _ _ _ fun _ _ => rfl,
      State.forEach_personnel _ _ _ fun _ _ => rfl,
      State.forEach_schedules _ _ _ fun _ _ => rfl,
      State.forEach_occupancy _ _ _ fun _ _ => rfl,
      State.forEach_valves _ _ _ fun _ _ => rfl,
      State.forEach_banks _ _ _ fun _ _ => rfl,
      State.forEach_containers _ _ _ fun _ _ => rfl,
      State.forEach_alarms _ _ _ fun _ _ => rfl,
      State.forEach_link _ _ _ fun _ _ => rfl,
      State.forEach_ports _ _ _ fun _ _ => rfl,
      State.forEach_pending _ _ _ fun _ _ => rfl⟩

@[simp] theorem State.setPathFault_frame (s : State) (o : Output) (fault : Option PathFault) (edge : Option Nat) :
    (s.setPathFault o fault edge).time = s.time ∧ (s.setPathFault o fault edge).loader = s.loader ∧
    (s.setPathFault o fault edge).lines = s.lines ∧ (s.setPathFault o fault edge).bus = s.bus ∧
    (s.setPathFault o fault edge).doors = s.doors ∧ (s.setPathFault o fault edge).personnel = s.personnel ∧
    (s.setPathFault o fault edge).schedules = s.schedules ∧ (s.setPathFault o fault edge).occupancy = s.occupancy ∧
    (s.setPathFault o fault edge).banks = s.banks ∧ (s.setPathFault o fault edge).containers = s.containers ∧
    (s.setPathFault o fault edge).alarms = s.alarms ∧ (s.setPathFault o fault edge).link = s.link ∧
    (s.setPathFault o fault edge).pending = s.pending := by
  refine ⟨?_, ?_, ?_, ?_, ?_, ?_, ?_, ?_, ?_, ?_, ?_, ?_, ?_⟩ <;> (unfold State.setPathFault; repeat' first | with_reducible rfl | split | simp)

@[simp] theorem State.endTest_frame (s : State) (z : Zone) (offPassed : Bool) :
    (s.endTest z offPassed).time = s.time ∧ (s.endTest z offPassed).loader = s.loader ∧
    (s.endTest z offPassed).lines = s.lines ∧ (s.endTest z offPassed).bus = s.bus ∧ (s.endTest z offPassed).doors = s.doors ∧
    (s.endTest z offPassed).personnel = s.personnel ∧ (s.endTest z offPassed).schedules = s.schedules ∧
    (s.endTest z offPassed).occupancy = s.occupancy ∧ (s.endTest z offPassed).zones = s.zones ∧
    (s.endTest z offPassed).banks = s.banks ∧ (s.endTest z offPassed).containers = s.containers ∧
    (s.endTest z offPassed).alarms = s.alarms ∧ (s.endTest z offPassed).link = s.link ∧
    (s.endTest z offPassed).pending = s.pending := by
  refine ⟨?_, ?_, ?_, ?_, ?_, ?_, ?_, ?_, ?_, ?_, ?_, ?_, ?_, ?_⟩ <;> (unfold State.endTest; repeat' first | with_reducible rfl | split | simp)

@[simp] theorem State.testChecked_frame (s : State) (o : Output) (kind : CheckKind) (passed : Bool) :
    (s.testChecked o kind passed).time = s.time ∧ (s.testChecked o kind passed).loader = s.loader ∧
    (s.testChecked o kind passed).lines = s.lines ∧ (s.testChecked o kind passed).bus = s.bus ∧
    (s.testChecked o kind passed).doors = s.doors ∧ (s.testChecked o kind passed).personnel = s.personnel ∧
    (s.testChecked o kind passed).schedules = s.schedules ∧ (s.testChecked o kind passed).occupancy = s.occupancy ∧
    (s.testChecked o kind passed).zones = s.zones ∧ (s.testChecked o kind passed).banks = s.banks ∧
    (s.testChecked o kind passed).containers = s.containers ∧ (s.testChecked o kind passed).alarms = s.alarms ∧
    (s.testChecked o kind passed).link = s.link ∧ (s.testChecked o kind passed).pending = s.pending := by
  refine ⟨?_, ?_, ?_, ?_, ?_, ?_, ?_, ?_, ?_, ?_, ?_, ?_, ?_, ?_⟩ <;> (unfold State.testChecked; repeat' first | with_reducible rfl | split | simp)

@[simp] theorem State.passCheck_frame (s : State) (o : Output) (kind : CheckKind) :
    (s.passCheck o kind).time = s.time ∧ (s.passCheck o kind).loader = s.loader ∧ (s.passCheck o kind).lines = s.lines ∧
    (s.passCheck o kind).bus = s.bus ∧ (s.passCheck o kind).doors = s.doors ∧ (s.passCheck o kind).personnel = s.personnel ∧
    (s.passCheck o kind).schedules = s.schedules ∧ (s.passCheck o kind).occupancy = s.occupancy ∧
    (s.passCheck o kind).banks = s.banks ∧ (s.passCheck o kind).containers = s.containers ∧
    (s.passCheck o kind).alarms = s.alarms ∧ (s.passCheck o kind).link = s.link ∧ (s.passCheck o kind).pending = s.pending := by
  refine ⟨?_, ?_, ?_, ?_, ?_, ?_, ?_, ?_, ?_, ?_, ?_, ?_, ?_⟩ <;> (unfold State.passCheck; repeat' first | with_reducible rfl | split | simp)

@[simp] theorem State.failCheck_frame (s : State) (o : Output) (check : Check) :
    (s.failCheck o check).time = s.time ∧ (s.failCheck o check).loader = s.loader ∧ (s.failCheck o check).lines = s.lines ∧
    (s.failCheck o check).bus = s.bus ∧ (s.failCheck o check).doors = s.doors ∧ (s.failCheck o check).personnel = s.personnel ∧
    (s.failCheck o check).schedules = s.schedules ∧ (s.failCheck o check).occupancy = s.occupancy ∧
    (s.failCheck o check).banks = s.banks ∧ (s.failCheck o check).containers = s.containers ∧
    (s.failCheck o check).alarms = s.alarms ∧ (s.failCheck o check).link = s.link ∧ (s.failCheck o check).pending = s.pending := by
  refine ⟨?_, ?_, ?_, ?_, ?_, ?_, ?_, ?_, ?_, ?_, ?_, ?_, ?_⟩ <;> (unfold State.failCheck; repeat' first | with_reducible rfl | split | simp)

@[simp] theorem State.judgeCheck_frame (s : State) (o : Output) :
    (s.judgeCheck o).time = s.time ∧ (s.judgeCheck o).loader = s.loader ∧ (s.judgeCheck o).lines = s.lines ∧
    (s.judgeCheck o).bus = s.bus ∧ (s.judgeCheck o).doors = s.doors ∧ (s.judgeCheck o).personnel = s.personnel ∧
    (s.judgeCheck o).schedules = s.schedules ∧ (s.judgeCheck o).occupancy = s.occupancy ∧ (s.judgeCheck o).banks = s.banks ∧
    (s.judgeCheck o).containers = s.containers ∧ (s.judgeCheck o).alarms = s.alarms ∧ (s.judgeCheck o).link = s.link ∧
    (s.judgeCheck o).pending = s.pending := by
  refine ⟨?_, ?_, ?_, ?_, ?_, ?_, ?_, ?_, ?_, ?_, ?_, ?_, ?_⟩ <;> (unfold State.judgeCheck; repeat' first | with_reducible rfl | split | simp)

@[simp] theorem State.switchOutput_frame (s : State) (o : Output) (on : Bool) :
    (s.switchOutput o on).time = s.time ∧ (s.switchOutput o on).loader = s.loader ∧ (s.switchOutput o on).lines = s.lines ∧
    (s.switchOutput o on).bus = s.bus ∧ (s.switchOutput o on).doors = s.doors ∧ (s.switchOutput o on).personnel = s.personnel ∧
    (s.switchOutput o on).schedules = s.schedules ∧ (s.switchOutput o on).occupancy = s.occupancy ∧
    (s.switchOutput o on).banks = s.banks ∧ (s.switchOutput o on).containers = s.containers ∧
    (s.switchOutput o on).alarms = s.alarms ∧ (s.switchOutput o on).link = s.link ∧ (s.switchOutput o on).pending = s.pending := by
  refine ⟨?_, ?_, ?_, ?_, ?_, ?_, ?_, ?_, ?_, ?_, ?_, ?_, ?_⟩ <;> (unfold State.switchOutput; repeat' first | with_reducible rfl | split | simp)

@[simp] theorem State.feedbackReport_frame (s : State) (o : Output) (new : LineClass) :
    (s.feedbackReport o new).time = s.time ∧ (s.feedbackReport o new).loader = s.loader ∧
    (s.feedbackReport o new).lines = s.lines ∧ (s.feedbackReport o new).bus = s.bus ∧
    (s.feedbackReport o new).doors = s.doors ∧ (s.feedbackReport o new).personnel = s.personnel ∧
    (s.feedbackReport o new).schedules = s.schedules ∧ (s.feedbackReport o new).occupancy = s.occupancy ∧
    (s.feedbackReport o new).banks = s.banks ∧ (s.feedbackReport o new).containers = s.containers ∧
    (s.feedbackReport o new).alarms = s.alarms ∧ (s.feedbackReport o new).link = s.link ∧
    (s.feedbackReport o new).pending = s.pending := by
  refine ⟨?_, ?_, ?_, ?_, ?_, ?_, ?_, ?_, ?_, ?_, ?_, ?_, ?_⟩ <;> (unfold State.feedbackReport; repeat' first | with_reducible rfl | split | simp)

@[simp] theorem State.testSecondStage_frame (s : State) (z : Zone) :
    (s.testSecondStage z).time = s.time ∧ (s.testSecondStage z).loader = s.loader ∧ (s.testSecondStage z).lines = s.lines ∧
    (s.testSecondStage z).bus = s.bus ∧ (s.testSecondStage z).doors = s.doors ∧ (s.testSecondStage z).personnel = s.personnel ∧
    (s.testSecondStage z).schedules = s.schedules ∧ (s.testSecondStage z).occupancy = s.occupancy ∧
    (s.testSecondStage z).banks = s.banks ∧ (s.testSecondStage z).containers = s.containers ∧
    (s.testSecondStage z).alarms = s.alarms ∧ (s.testSecondStage z).link = s.link ∧ (s.testSecondStage z).pending = s.pending := by
  refine ⟨?_, ?_, ?_, ?_, ?_, ?_, ?_, ?_, ?_, ?_, ?_, ?_, ?_⟩ <;> (unfold State.testSecondStage; repeat' first | with_reducible rfl | split | simp)

@[simp] theorem State.beginTest_frame (s : State) (z : Zone) :
    (s.beginTest z).time = s.time ∧ (s.beginTest z).loader = s.loader ∧ (s.beginTest z).lines = s.lines ∧
    (s.beginTest z).bus = s.bus ∧ (s.beginTest z).doors = s.doors ∧ (s.beginTest z).personnel = s.personnel ∧
    (s.beginTest z).schedules = s.schedules ∧ (s.beginTest z).occupancy = s.occupancy ∧ (s.beginTest z).banks = s.banks ∧
    (s.beginTest z).containers = s.containers ∧ (s.beginTest z).alarms = s.alarms ∧ (s.beginTest z).link = s.link ∧
    (s.beginTest z).pending = s.pending := by
  refine ⟨?_, ?_, ?_, ?_, ?_, ?_, ?_, ?_, ?_, ?_, ?_, ?_, ?_⟩ <;> (unfold State.beginTest; repeat' first | with_reducible rfl | split | simp)

@[simp] theorem State.openMainValve_frame (s : State) (bank : Bank) :
    (s.openMainValve bank).time = s.time ∧ (s.openMainValve bank).loader = s.loader ∧ (s.openMainValve bank).lines = s.lines ∧
    (s.openMainValve bank).bus = s.bus ∧ (s.openMainValve bank).doors = s.doors ∧
    (s.openMainValve bank).personnel = s.personnel ∧ (s.openMainValve bank).schedules = s.schedules ∧
    (s.openMainValve bank).occupancy = s.occupancy ∧ (s.openMainValve bank).containers = s.containers ∧
    (s.openMainValve bank).alarms = s.alarms ∧ (s.openMainValve bank).link = s.link ∧
    (s.openMainValve bank).pending = s.pending := by
  refine ⟨?_, ?_, ?_, ?_, ?_, ?_, ?_, ?_, ?_, ?_, ?_, ?_⟩ <;> (unfold State.openMainValve; repeat' first | with_reducible rfl | split | simp)

@[simp] theorem State.settleMainValve_frame (s : State) (bank : Bank) :
    (s.settleMainValve bank).time = s.time ∧ (s.settleMainValve bank).loader = s.loader ∧
    (s.settleMainValve bank).lines = s.lines ∧ (s.settleMainValve bank).bus = s.bus ∧
    (s.settleMainValve bank).doors = s.doors ∧ (s.settleMainValve bank).personnel = s.personnel ∧
    (s.settleMainValve bank).schedules = s.schedules ∧ (s.settleMainValve bank).occupancy = s.occupancy ∧
    (s.settleMainValve bank).banks = s.banks ∧ (s.settleMainValve bank).containers = s.containers ∧
    (s.settleMainValve bank).alarms = s.alarms ∧ (s.settleMainValve bank).link = s.link ∧
    (s.settleMainValve bank).pending = s.pending := by
  refine ⟨?_, ?_, ?_, ?_, ?_, ?_, ?_, ?_, ?_, ?_, ?_, ?_, ?_⟩ <;> (unfold State.settleMainValve; repeat' first | with_reducible rfl | split | simp)

@[simp] theorem State.cutTests_frame (s : State) (z : Zone) (bank : Bank) :
    (s.cutTests z bank).time = s.time ∧ (s.cutTests z bank).loader = s.loader ∧ (s.cutTests z bank).lines = s.lines ∧
    (s.cutTests z bank).bus = s.bus ∧ (s.cutTests z bank).doors = s.doors ∧ (s.cutTests z bank).personnel = s.personnel ∧
    (s.cutTests z bank).schedules = s.schedules ∧ (s.cutTests z bank).occupancy = s.occupancy ∧
    (s.cutTests z bank).banks = s.banks ∧ (s.cutTests z bank).containers = s.containers ∧
    (s.cutTests z bank).alarms = s.alarms ∧ (s.cutTests z bank).link = s.link ∧ (s.cutTests z bank).pending = s.pending := by
  refine ⟨?_, ?_, ?_, ?_, ?_, ?_, ?_, ?_, ?_, ?_, ?_, ?_, ?_⟩ <;> (unfold State.cutTests; repeat' first | with_reducible rfl | split | simp)

@[simp] theorem State.startDischargeValves_frame (s : State) (z : Zone) :
    (s.startDischargeValves z).time = s.time ∧ (s.startDischargeValves z).loader = s.loader ∧
    (s.startDischargeValves z).lines = s.lines ∧ (s.startDischargeValves z).bus = s.bus ∧
    (s.startDischargeValves z).doors = s.doors ∧ (s.startDischargeValves z).personnel = s.personnel ∧
    (s.startDischargeValves z).schedules = s.schedules ∧ (s.startDischargeValves z).occupancy = s.occupancy ∧
    (s.startDischargeValves z).containers = s.containers ∧ (s.startDischargeValves z).alarms = s.alarms ∧
    (s.startDischargeValves z).link = s.link ∧ (s.startDischargeValves z).pending = s.pending := by
  refine ⟨?_, ?_, ?_, ?_, ?_, ?_, ?_, ?_, ?_, ?_, ?_, ?_⟩ <;> (unfold State.startDischargeValves; repeat' first | with_reducible rfl | split | simp)

@[simp] theorem State.endDischargeValves_frame (s : State) (z : Zone) :
    (s.endDischargeValves z).time = s.time ∧ (s.endDischargeValves z).loader = s.loader ∧
    (s.endDischargeValves z).lines = s.lines ∧ (s.endDischargeValves z).bus = s.bus ∧
    (s.endDischargeValves z).doors = s.doors ∧ (s.endDischargeValves z).personnel = s.personnel ∧
    (s.endDischargeValves z).schedules = s.schedules ∧ (s.endDischargeValves z).occupancy = s.occupancy ∧
    (s.endDischargeValves z).containers = s.containers ∧ (s.endDischargeValves z).alarms = s.alarms ∧
    (s.endDischargeValves z).link = s.link ∧ (s.endDischargeValves z).pending = s.pending := by
  refine ⟨?_, ?_, ?_, ?_, ?_, ?_, ?_, ?_, ?_, ?_, ?_, ?_⟩ <;> (unfold State.endDischargeValves; repeat' first | with_reducible rfl | split | simp)


/-! ## Zones -/

@[simp] theorem State.changeRecord_frame (s : State) (z : Zone) (cause : ZoneCause) (f : ZoneRec → ZoneRec) :
    (s.changeRecord z cause f).time = s.time ∧ (s.changeRecord z cause f).loader = s.loader ∧
    (s.changeRecord z cause f).lines = s.lines ∧ (s.changeRecord z cause f).bus = s.bus ∧
    (s.changeRecord z cause f).doors = s.doors ∧ (s.changeRecord z cause f).personnel = s.personnel ∧
    (s.changeRecord z cause f).schedules = s.schedules ∧ (s.changeRecord z cause f).occupancy = s.occupancy ∧
    (s.changeRecord z cause f).valves = s.valves ∧ (s.changeRecord z cause f).banks = s.banks ∧
    (s.changeRecord z cause f).containers = s.containers ∧ (s.changeRecord z cause f).alarms = s.alarms ∧
    (s.changeRecord z cause f).link = s.link ∧ (s.changeRecord z cause f).pending = s.pending := by
  refine ⟨?_, ?_, ?_, ?_, ?_, ?_, ?_, ?_, ?_, ?_, ?_, ?_, ?_, ?_⟩ <;> (unfold State.changeRecord; repeat' first | with_reducible rfl | split | simp)

@[simp] theorem State.followChange_frame (s : State) (z : Zone) (r : ZoneRec) :
    (s.followChange z r).time = s.time ∧ (s.followChange z r).loader = s.loader ∧ (s.followChange z r).lines = s.lines ∧
    (s.followChange z r).personnel = s.personnel ∧ (s.followChange z r).schedules = s.schedules ∧
    (s.followChange z r).valves = s.valves ∧ (s.followChange z r).banks = s.banks ∧
    (s.followChange z r).containers = s.containers ∧ (s.followChange z r).alarms = s.alarms ∧
    (s.followChange z r).pending = s.pending := by
  refine ⟨?_, ?_, ?_, ?_, ?_, ?_, ?_, ?_, ?_, ?_⟩ <;> (unfold State.followChange; repeat' first | with_reducible rfl | split | simp)

@[simp] theorem State.changeZone_frame (s : State) (z : Zone) (cause : ZoneCause) (f : ZoneRec → ZoneRec) :
    (s.changeZone z cause f).time = s.time ∧ (s.changeZone z cause f).loader = s.loader ∧
    (s.changeZone z cause f).lines = s.lines ∧ (s.changeZone z cause f).personnel = s.personnel ∧
    (s.changeZone z cause f).schedules = s.schedules ∧ (s.changeZone z cause f).valves = s.valves ∧
    (s.changeZone z cause f).banks = s.banks ∧ (s.changeZone z cause f).containers = s.containers ∧
    (s.changeZone z cause f).alarms = s.alarms ∧ (s.changeZone z cause f).pending = s.pending := by
  refine ⟨?_, ?_, ?_, ?_, ?_, ?_, ?_, ?_, ?_, ?_⟩ <;> (unfold State.changeZone; repeat' first | with_reducible rfl | split | simp)

@[simp] theorem State.startCountdown_frame (s : State) (z : Zone) (kind : ReleaseKind) (cause : ZoneCause) :
    (s.startCountdown z kind cause).time = s.time ∧ (s.startCountdown z kind cause).loader = s.loader ∧
    (s.startCountdown z kind cause).lines = s.lines ∧ (s.startCountdown z kind cause).personnel = s.personnel ∧
    (s.startCountdown z kind cause).schedules = s.schedules ∧ (s.startCountdown z kind cause).valves = s.valves ∧
    (s.startCountdown z kind cause).banks = s.banks ∧ (s.startCountdown z kind cause).containers = s.containers ∧
    (s.startCountdown z kind cause).alarms = s.alarms ∧ (s.startCountdown z kind cause).pending = s.pending := by
  refine ⟨?_, ?_, ?_, ?_, ?_, ?_, ?_, ?_, ?_, ?_⟩ <;> (unfold State.startCountdown; repeat' first | with_reducible rfl | split | simp)

@[simp] theorem State.enterDischarge_frame (s : State) (z : Zone) :
    (s.enterDischarge z).time = s.time ∧ (s.enterDischarge z).loader = s.loader ∧ (s.enterDischarge z).lines = s.lines ∧
    (s.enterDischarge z).personnel = s.personnel ∧ (s.enterDischarge z).schedules = s.schedules ∧
    (s.enterDischarge z).containers = s.containers ∧ (s.enterDischarge z).alarms = s.alarms ∧
    (s.enterDischarge z).pending = s.pending := by
  refine ⟨?_, ?_, ?_, ?_, ?_, ?_, ?_, ?_⟩ <;> (unfold State.enterDischarge; repeat' first | with_reducible rfl | split | simp)

@[simp] theorem State.leaveDischarge_frame (s : State) (z : Zone) :
    (s.leaveDischarge z).time = s.time ∧ (s.leaveDischarge z).loader = s.loader ∧ (s.leaveDischarge z).lines = s.lines ∧
    (s.leaveDischarge z).personnel = s.personnel ∧ (s.leaveDischarge z).schedules = s.schedules ∧
    (s.leaveDischarge z).containers = s.containers ∧ (s.leaveDischarge z).alarms = s.alarms ∧
    (s.leaveDischarge z).pending = s.pending := by
  refine ⟨?_, ?_, ?_, ?_, ?_, ?_, ?_, ?_⟩ <;> (unfold State.leaveDischarge; repeat' first | with_reducible rfl | split | simp)

@[simp] theorem State.tickZone_frame (s : State) (z : Zone) :
    (s.tickZone z).time = s.time ∧ (s.tickZone z).loader = s.loader ∧ (s.tickZone z).lines = s.lines ∧
    (s.tickZone z).personnel = s.personnel ∧ (s.tickZone z).schedules = s.schedules ∧
    (s.tickZone z).containers = s.containers ∧ (s.tickZone z).alarms = s.alarms ∧ (s.tickZone z).pending = s.pending := by
  refine ⟨?_, ?_, ?_, ?_, ?_, ?_, ?_, ?_⟩ <;> (unfold State.tickZone; repeat' first | with_reducible rfl | split | simp)

@[simp] theorem State.afterJoin_frame (s : State) (z : Zone) :
    (s.afterJoin z).time = s.time ∧ (s.afterJoin z).loader = s.loader ∧ (s.afterJoin z).lines = s.lines ∧
    (s.afterJoin z).personnel = s.personnel ∧ (s.afterJoin z).schedules = s.schedules ∧ (s.afterJoin z).valves = s.valves ∧
    (s.afterJoin z).banks = s.banks ∧ (s.afterJoin z).containers = s.containers ∧ (s.afterJoin z).alarms = s.alarms ∧
    (s.afterJoin z).pending = s.pending := by
  refine ⟨?_, ?_, ?_, ?_, ?_, ?_, ?_, ?_, ?_, ?_⟩ <;> (unfold State.afterJoin; repeat' first | with_reducible rfl | split | simp)

@[simp] theorem State.afterLeave_frame (s : State) (z : Zone) :
    (s.afterLeave z).time = s.time ∧ (s.afterLeave z).loader = s.loader ∧ (s.afterLeave z).lines = s.lines ∧
    (s.afterLeave z).personnel = s.personnel ∧ (s.afterLeave z).schedules = s.schedules ∧ (s.afterLeave z).valves = s.valves ∧
    (s.afterLeave z).banks = s.banks ∧ (s.afterLeave z).containers = s.containers ∧ (s.afterLeave z).alarms = s.alarms ∧
    (s.afterLeave z).pending = s.pending := by
  refine ⟨?_, ?_, ?_, ?_, ?_, ?_, ?_, ?_, ?_, ?_⟩ <;> (unfold State.afterLeave; repeat' first | with_reducible rfl | split | simp)

@[simp] theorem State.joinHoldLine_frame (s : State) (z : Zone) (l : Line) :
    (s.joinHoldLine z l).time = s.time ∧ (s.joinHoldLine z l).loader = s.loader ∧ (s.joinHoldLine z l).lines = s.lines ∧
    (s.joinHoldLine z l).personnel = s.personnel ∧ (s.joinHoldLine z l).schedules = s.schedules ∧
    (s.joinHoldLine z l).valves = s.valves ∧ (s.joinHoldLine z l).banks = s.banks ∧
    (s.joinHoldLine z l).containers = s.containers ∧ (s.joinHoldLine z l).alarms = s.alarms ∧
    (s.joinHoldLine z l).pending = s.pending := by
  refine ⟨?_, ?_, ?_, ?_, ?_, ?_, ?_, ?_, ?_, ?_⟩ <;> (unfold State.joinHoldLine; repeat' first | with_reducible rfl | split | simp)

@[simp] theorem State.leaveHoldLine_frame (s : State) (z : Zone) (l : Line) :
    (s.leaveHoldLine z l).time = s.time ∧ (s.leaveHoldLine z l).loader = s.loader ∧ (s.leaveHoldLine z l).lines = s.lines ∧
    (s.leaveHoldLine z l).personnel = s.personnel ∧ (s.leaveHoldLine z l).schedules = s.schedules ∧
    (s.leaveHoldLine z l).valves = s.valves ∧ (s.leaveHoldLine z l).banks = s.banks ∧
    (s.leaveHoldLine z l).containers = s.containers ∧ (s.leaveHoldLine z l).alarms = s.alarms ∧
    (s.leaveHoldLine z l).pending = s.pending := by
  refine ⟨?_, ?_, ?_, ?_, ?_, ?_, ?_, ?_, ?_, ?_⟩ <;> (unfold State.leaveHoldLine; repeat' first | with_reducible rfl | split | simp)

@[simp] theorem State.joinHoldAlarm_frame (s : State) (z : Zone) (number : Nat) :
    (s.joinHoldAlarm z number).time = s.time ∧ (s.joinHoldAlarm z number).loader = s.loader ∧
    (s.joinHoldAlarm z number).lines = s.lines ∧ (s.joinHoldAlarm z number).personnel = s.personnel ∧
    (s.joinHoldAlarm z number).schedules = s.schedules ∧ (s.joinHoldAlarm z number).valves = s.valves ∧
    (s.joinHoldAlarm z number).banks = s.banks ∧ (s.joinHoldAlarm z number).containers = s.containers ∧
    (s.joinHoldAlarm z number).alarms = s.alarms ∧ (s.joinHoldAlarm z number).pending = s.pending := by
  refine ⟨?_, ?_, ?_, ?_, ?_, ?_, ?_, ?_, ?_, ?_⟩ <;> (unfold State.joinHoldAlarm; repeat' first | with_reducible rfl | split | simp)

@[simp] theorem State.leaveHoldAlarm_frame (s : State) (z : Zone) (number : Nat) :
    (s.leaveHoldAlarm z number).time = s.time ∧ (s.leaveHoldAlarm z number).loader = s.loader ∧
    (s.leaveHoldAlarm z number).lines = s.lines ∧ (s.leaveHoldAlarm z number).personnel = s.personnel ∧
    (s.leaveHoldAlarm z number).schedules = s.schedules ∧ (s.leaveHoldAlarm z number).valves = s.valves ∧
    (s.leaveHoldAlarm z number).banks = s.banks ∧ (s.leaveHoldAlarm z number).containers = s.containers ∧
    (s.leaveHoldAlarm z number).alarms = s.alarms ∧ (s.leaveHoldAlarm z number).pending = s.pending := by
  refine ⟨?_, ?_, ?_, ?_, ?_, ?_, ?_, ?_, ?_, ?_⟩ <;> (unfold State.leaveHoldAlarm; repeat' first | with_reducible rfl | split | simp)

@[simp] theorem State.handSummary_frame (s : State) (z : Zone) :
    (s.handSummary z).time = s.time ∧ (s.handSummary z).loader = s.loader ∧ (s.handSummary z).lines = s.lines ∧
    (s.handSummary z).personnel = s.personnel ∧ (s.handSummary z).schedules = s.schedules ∧
    (s.handSummary z).valves = s.valves ∧ (s.handSummary z).banks = s.banks ∧ (s.handSummary z).containers = s.containers ∧
    (s.handSummary z).alarms = s.alarms ∧ (s.handSummary z).pending = s.pending := by
  refine ⟨?_, ?_, ?_, ?_, ?_, ?_, ?_, ?_, ?_, ?_⟩ <;> (unfold State.handSummary; repeat' first | with_reducible rfl | split | simp)


/-! ## Alarms -/

@[simp] theorem State.notifyChanged_frame (s : State) (r : AlarmRec) (change : AlarmChange) :
    (s.notifyChanged r change).time = s.time ∧ (s.notifyChanged r change).loader = s.loader ∧
    (s.notifyChanged r change).lines = s.lines ∧ (s.notifyChanged r change).bus = s.bus ∧
    (s.notifyChanged r change).doors = s.doors ∧ (s.notifyChanged r change).personnel = s.personnel ∧
    (s.notifyChanged r change).schedules = s.schedules ∧ (s.notifyChanged r change).occupancy = s.occupancy ∧
    (s.notifyChanged r change).zones = s.zones ∧ (s.notifyChanged r change).valves = s.valves ∧
    (s.notifyChanged r change).banks = s.banks ∧ (s.notifyChanged r change).containers = s.containers ∧
    (s.notifyChanged r change).alarms = s.alarms ∧ (s.notifyChanged r change).link = s.link ∧
    (s.notifyChanged r change).pending = s.pending := by
  refine ⟨?_, ?_, ?_, ?_, ?_, ?_, ?_, ?_, ?_, ?_, ?_, ?_, ?_, ?_, ?_⟩ <;> (unfold State.notifyChanged; repeat' first | with_reducible rfl | split | simp)

@[simp] theorem State.settleNotRecorded_frame (s : State) :
    (s.settleNotRecorded).time = s.time ∧ (s.settleNotRecorded).loader = s.loader ∧ (s.settleNotRecorded).lines = s.lines ∧
    (s.settleNotRecorded).bus = s.bus ∧ (s.settleNotRecorded).doors = s.doors ∧ (s.settleNotRecorded).personnel = s.personnel ∧
    (s.settleNotRecorded).schedules = s.schedules ∧ (s.settleNotRecorded).occupancy = s.occupancy ∧
    (s.settleNotRecorded).zones = s.zones ∧ (s.settleNotRecorded).valves = s.valves ∧ (s.settleNotRecorded).banks = s.banks ∧
    (s.settleNotRecorded).containers = s.containers ∧ (s.settleNotRecorded).link = s.link ∧
    (s.settleNotRecorded).ports = s.ports ∧ (s.settleNotRecorded).pending = s.pending := by
  refine ⟨?_, ?_, ?_, ?_, ?_, ?_, ?_, ?_, ?_, ?_, ?_, ?_, ?_, ?_, ?_⟩ <;> (unfold State.settleNotRecorded; repeat' first | with_reducible rfl | split | simp)

@[simp] theorem State.refreshAlarmPanel_frame (s : State) (zone : Option Zone) :
    (s.refreshAlarmPanel zone).time = s.time ∧ (s.refreshAlarmPanel zone).loader = s.loader ∧
    (s.refreshAlarmPanel zone).lines = s.lines ∧ (s.refreshAlarmPanel zone).bus = s.bus ∧
    (s.refreshAlarmPanel zone).doors = s.doors ∧ (s.refreshAlarmPanel zone).personnel = s.personnel ∧
    (s.refreshAlarmPanel zone).schedules = s.schedules ∧ (s.refreshAlarmPanel zone).occupancy = s.occupancy ∧
    (s.refreshAlarmPanel zone).zones = s.zones ∧ (s.refreshAlarmPanel zone).valves = s.valves ∧
    (s.refreshAlarmPanel zone).banks = s.banks ∧ (s.refreshAlarmPanel zone).containers = s.containers ∧
    (s.refreshAlarmPanel zone).alarms = s.alarms ∧ (s.refreshAlarmPanel zone).ports = s.ports ∧
    (s.refreshAlarmPanel zone).pending = s.pending := by
  refine ⟨?_, ?_, ?_, ?_, ?_, ?_, ?_, ?_, ?_, ?_, ?_, ?_, ?_, ?_, ?_⟩ <;> (unfold State.refreshAlarmPanel; repeat' first | with_reducible rfl | split | simp)

@[simp] theorem State.joinAlarm_frame (s : State) (r : AlarmRec) :
    (s.joinAlarm r).time = s.time ∧ (s.joinAlarm r).loader = s.loader ∧ (s.joinAlarm r).lines = s.lines ∧
    (s.joinAlarm r).personnel = s.personnel ∧ (s.joinAlarm r).schedules = s.schedules ∧ (s.joinAlarm r).valves = s.valves ∧
    (s.joinAlarm r).banks = s.banks ∧ (s.joinAlarm r).containers = s.containers ∧ (s.joinAlarm r).alarms = s.alarms ∧
    (s.joinAlarm r).pending = s.pending := by
  refine ⟨?_, ?_, ?_, ?_, ?_, ?_, ?_, ?_, ?_, ?_⟩ <;> (unfold State.joinAlarm; repeat' first | with_reducible rfl | split | simp)

@[simp] theorem State.leaveAlarm_frame (s : State) (r : AlarmRec) :
    (s.leaveAlarm r).time = s.time ∧ (s.leaveAlarm r).loader = s.loader ∧ (s.leaveAlarm r).lines = s.lines ∧
    (s.leaveAlarm r).personnel = s.personnel ∧ (s.leaveAlarm r).schedules = s.schedules ∧ (s.leaveAlarm r).valves = s.valves ∧
    (s.leaveAlarm r).banks = s.banks ∧ (s.leaveAlarm r).containers = s.containers ∧ (s.leaveAlarm r).alarms = s.alarms ∧
    (s.leaveAlarm r).pending = s.pending := by
  refine ⟨?_, ?_, ?_, ?_, ?_, ?_, ?_, ?_, ?_, ?_⟩ <;> (unfold State.leaveAlarm; repeat' first | with_reducible rfl | split | simp)

@[simp] theorem State.handReplacement_frame (s : State) (old new : AlarmRec) :
    (s.handReplacement old new).time = s.time ∧ (s.handReplacement old new).loader = s.loader ∧
    (s.handReplacement old new).lines = s.lines ∧ (s.handReplacement old new).personnel = s.personnel ∧
    (s.handReplacement old new).schedules = s.schedules ∧ (s.handReplacement old new).valves = s.valves ∧
    (s.handReplacement old new).banks = s.banks ∧ (s.handReplacement old new).containers = s.containers ∧
    (s.handReplacement old new).alarms = s.alarms ∧ (s.handReplacement old new).pending = s.pending := by
  refine ⟨?_, ?_, ?_, ?_, ?_, ?_, ?_, ?_, ?_, ?_⟩ <;> (unfold State.handReplacement; repeat' first | with_reducible rfl | split | simp)

@[simp] theorem State.appendAlarm_frame (s : State) (r : AlarmRec) :
    (s.appendAlarm r).time = s.time ∧ (s.appendAlarm r).loader = s.loader ∧ (s.appendAlarm r).lines = s.lines ∧
    (s.appendAlarm r).bus = s.bus ∧ (s.appendAlarm r).doors = s.doors ∧ (s.appendAlarm r).personnel = s.personnel ∧
    (s.appendAlarm r).schedules = s.schedules ∧ (s.appendAlarm r).occupancy = s.occupancy ∧ (s.appendAlarm r).zones = s.zones ∧
    (s.appendAlarm r).valves = s.valves ∧ (s.appendAlarm r).banks = s.banks ∧ (s.appendAlarm r).containers = s.containers ∧
    (s.appendAlarm r).link = s.link ∧ (s.appendAlarm r).pending = s.pending := by
  refine ⟨?_, ?_, ?_, ?_, ?_, ?_, ?_, ?_, ?_, ?_, ?_, ?_, ?_, ?_⟩ <;> (unfold State.appendAlarm; repeat' first | with_reducible rfl | split | simp)

@[simp] theorem State.dropAlarm_frame (s : State) (r : AlarmRec) :
    (s.dropAlarm r).time = s.time ∧ (s.dropAlarm r).loader = s.loader ∧ (s.dropAlarm r).lines = s.lines ∧
    (s.dropAlarm r).bus = s.bus ∧ (s.dropAlarm r).doors = s.doors ∧ (s.dropAlarm r).personnel = s.personnel ∧
    (s.dropAlarm r).schedules = s.schedules ∧ (s.dropAlarm r).occupancy = s.occupancy ∧ (s.dropAlarm r).zones = s.zones ∧
    (s.dropAlarm r).valves = s.valves ∧ (s.dropAlarm r).banks = s.banks ∧ (s.dropAlarm r).containers = s.containers ∧
    (s.dropAlarm r).link = s.link ∧ (s.dropAlarm r).ports = s.ports ∧ (s.dropAlarm r).pending = s.pending := by
  refine ⟨?_, ?_, ?_, ?_, ?_, ?_, ?_, ?_, ?_, ?_, ?_, ?_, ?_, ?_, ?_⟩ <;> (unfold State.dropAlarm; repeat' first | with_reducible rfl | split | simp)

@[simp] theorem State.raiseAlarm_frame (s : State) (kind : AlarmKind) (source : AlarmSource) (zone : Option Zone) :
    (s.raiseAlarm kind source zone).time = s.time ∧ (s.raiseAlarm kind source zone).loader = s.loader ∧
    (s.raiseAlarm kind source zone).lines = s.lines ∧ (s.raiseAlarm kind source zone).personnel = s.personnel ∧
    (s.raiseAlarm kind source zone).schedules = s.schedules ∧ (s.raiseAlarm kind source zone).valves = s.valves ∧
    (s.raiseAlarm kind source zone).banks = s.banks ∧ (s.raiseAlarm kind source zone).containers = s.containers ∧
    (s.raiseAlarm kind source zone).pending = s.pending := by
  refine ⟨?_, ?_, ?_, ?_, ?_, ?_, ?_, ?_, ?_⟩ <;> (unfold State.raiseAlarm; repeat' first | with_reducible rfl | split | simp)

@[simp] theorem State.conditionGone_frame (s : State) (kind : AlarmKind) (source : AlarmSource) :
    (s.conditionGone kind source).time = s.time ∧ (s.conditionGone kind source).loader = s.loader ∧
    (s.conditionGone kind source).lines = s.lines ∧ (s.conditionGone kind source).bus = s.bus ∧
    (s.conditionGone kind source).doors = s.doors ∧ (s.conditionGone kind source).personnel = s.personnel ∧
    (s.conditionGone kind source).schedules = s.schedules ∧ (s.conditionGone kind source).occupancy = s.occupancy ∧
    (s.conditionGone kind source).zones = s.zones ∧ (s.conditionGone kind source).valves = s.valves ∧
    (s.conditionGone kind source).banks = s.banks ∧ (s.conditionGone kind source).containers = s.containers ∧
    (s.conditionGone kind source).link = s.link ∧ (s.conditionGone kind source).pending = s.pending := by
  refine ⟨?_, ?_, ?_, ?_, ?_, ?_, ?_, ?_, ?_, ?_, ?_, ?_, ?_, ?_⟩ <;> (unfold State.conditionGone; repeat' first | with_reducible rfl | split | simp)

@[simp] theorem State.acknowledgeAlarm_frame (s : State) (old : AlarmRec) :
    (s.acknowledgeAlarm old).time = s.time ∧ (s.acknowledgeAlarm old).loader = s.loader ∧
    (s.acknowledgeAlarm old).lines = s.lines ∧ (s.acknowledgeAlarm old).bus = s.bus ∧
    (s.acknowledgeAlarm old).doors = s.doors ∧ (s.acknowledgeAlarm old).personnel = s.personnel ∧
    (s.acknowledgeAlarm old).schedules = s.schedules ∧ (s.acknowledgeAlarm old).occupancy = s.occupancy ∧
    (s.acknowledgeAlarm old).zones = s.zones ∧ (s.acknowledgeAlarm old).valves = s.valves ∧
    (s.acknowledgeAlarm old).banks = s.banks ∧ (s.acknowledgeAlarm old).containers = s.containers ∧
    (s.acknowledgeAlarm old).link = s.link ∧ (s.acknowledgeAlarm old).pending = s.pending := by
  refine ⟨?_, ?_, ?_, ?_, ?_, ?_, ?_, ?_, ?_, ?_, ?_, ?_, ?_, ?_⟩ <;> (unfold State.acknowledgeAlarm; repeat' first | with_reducible rfl | split | simp)

@[simp] theorem State.clearAlarm_frame (s : State) (r : AlarmRec) :
    (s.clearAlarm r).time = s.time ∧ (s.clearAlarm r).loader = s.loader ∧ (s.clearAlarm r).lines = s.lines ∧
    (s.clearAlarm r).personnel = s.personnel ∧ (s.clearAlarm r).schedules = s.schedules ∧ (s.clearAlarm r).valves = s.valves ∧
    (s.clearAlarm r).banks = s.banks ∧ (s.clearAlarm r).containers = s.containers ∧ (s.clearAlarm r).pending = s.pending := by
  refine ⟨?_, ?_, ?_, ?_, ?_, ?_, ?_, ?_, ?_⟩ <;> (unfold State.clearAlarm; repeat' first | with_reducible rfl | split | simp)


/-! ## Occupancy -/

@[simp] theorem State.refreshWarning_frame (s : State) (z : Zone) :
    (s.refreshWarning z).time = s.time ∧ (s.refreshWarning z).loader = s.loader ∧ (s.refreshWarning z).lines = s.lines ∧
    (s.refreshWarning z).bus = s.bus ∧ (s.refreshWarning z).doors = s.doors ∧ (s.refreshWarning z).personnel = s.personnel ∧
    (s.refreshWarning z).schedules = s.schedules ∧ (s.refreshWarning z).zones = s.zones ∧
    (s.refreshWarning z).valves = s.valves ∧ (s.refreshWarning z).banks = s.banks ∧
    (s.refreshWarning z).containers = s.containers ∧ (s.refreshWarning z).alarms = s.alarms ∧
    (s.refreshWarning z).ports = s.ports ∧ (s.refreshWarning z).pending = s.pending := by
  refine ⟨?_, ?_, ?_, ?_, ?_, ?_, ?_, ?_, ?_, ?_, ?_, ?_, ?_, ?_⟩ <;> (unfold State.refreshWarning; repeat' first | with_reducible rfl | split | simp)

@[simp] theorem State.setLone_frame (s : State) (z : Zone) (t : LoneTimer) :
    (s.setLone z t).time = s.time ∧ (s.setLone z t).loader = s.loader ∧ (s.setLone z t).lines = s.lines ∧
    (s.setLone z t).bus = s.bus ∧ (s.setLone z t).doors = s.doors ∧ (s.setLone z t).personnel = s.personnel ∧
    (s.setLone z t).schedules = s.schedules ∧ (s.setLone z t).zones = s.zones ∧ (s.setLone z t).valves = s.valves ∧
    (s.setLone z t).banks = s.banks ∧ (s.setLone z t).containers = s.containers ∧ (s.setLone z t).alarms = s.alarms ∧
    (s.setLone z t).link = s.link ∧ (s.setLone z t).ports = s.ports ∧ (s.setLone z t).pending = s.pending := by
  refine ⟨?_, ?_, ?_, ?_, ?_, ?_, ?_, ?_, ?_, ?_, ?_, ?_, ?_, ?_, ?_⟩ <;> (unfold State.setLone; repeat' first | with_reducible rfl | split | simp)

@[simp] theorem State.loneGone_frame (s : State) (p : Option Person) :
    (s.loneGone p).time = s.time ∧ (s.loneGone p).loader = s.loader ∧ (s.loneGone p).lines = s.lines ∧
    (s.loneGone p).bus = s.bus ∧ (s.loneGone p).doors = s.doors ∧ (s.loneGone p).personnel = s.personnel ∧
    (s.loneGone p).schedules = s.schedules ∧ (s.loneGone p).occupancy = s.occupancy ∧ (s.loneGone p).zones = s.zones ∧
    (s.loneGone p).valves = s.valves ∧ (s.loneGone p).banks = s.banks ∧ (s.loneGone p).containers = s.containers ∧
    (s.loneGone p).link = s.link ∧ (s.loneGone p).pending = s.pending := by
  refine ⟨?_, ?_, ?_, ?_, ?_, ?_, ?_, ?_, ?_, ?_, ?_, ?_, ?_, ?_⟩ <;> (unfold State.loneGone; repeat' first | with_reducible rfl | split | simp)

@[simp] theorem State.retestLone_frame (s : State) (z : Zone) :
    (s.retestLone z).time = s.time ∧ (s.retestLone z).loader = s.loader ∧ (s.retestLone z).lines = s.lines ∧
    (s.retestLone z).bus = s.bus ∧ (s.retestLone z).doors = s.doors ∧ (s.retestLone z).personnel = s.personnel ∧
    (s.retestLone z).schedules = s.schedules ∧ (s.retestLone z).zones = s.zones ∧ (s.retestLone z).valves = s.valves ∧
    (s.retestLone z).banks = s.banks ∧ (s.retestLone z).containers = s.containers ∧ (s.retestLone z).link = s.link ∧
    (s.retestLone z).pending = s.pending := by
  refine ⟨?_, ?_, ?_, ?_, ?_, ?_, ?_, ?_, ?_, ?_, ?_, ?_, ?_⟩ <;> (unfold State.retestLone; repeat' first | with_reducible rfl | split | simp)

@[simp] theorem State.announce_frame (s : State) (c : OccChange) :
    (s.announce c).time = s.time ∧ (s.announce c).loader = s.loader ∧ (s.announce c).lines = s.lines ∧
    (s.announce c).personnel = s.personnel ∧ (s.announce c).schedules = s.schedules ∧ (s.announce c).valves = s.valves ∧
    (s.announce c).banks = s.banks ∧ (s.announce c).containers = s.containers ∧ (s.announce c).alarms = s.alarms ∧
    (s.announce c).pending = s.pending := by
  refine ⟨?_, ?_, ?_, ?_, ?_, ?_, ?_, ?_, ?_, ?_⟩ <;> (unfold State.announce; repeat' first | with_reducible rfl | split | simp)

/-- A new event of the Occupancy Unit stands on the state it began with. -/
@[simp] theorem State.occEvent_state (s : State) : s.occEvent.state = s := rfl

/-- A zone that counts as changed leaves the state alone. -/
@[simp] theorem OccEvent.touch_state (ev : OccEvent) (z : Zone) (cause : OccCause) (persons : List Person) :
    (ev.touch z cause persons).state = ev.state := rfl

/-- What every change of an event keeps, a sequence of changes keeps. -/
theorem OccEvent.foldl_keeps {α β : Type} (l : List α) (f : OccEvent → α → OccEvent) (g : State → β)
    (h : ∀ ev a, g (f ev a).state = g ev.state) (ev : OccEvent) : g (l.foldl f ev).state = g ev.state := by
  induction l generalizing ev with
  | nil => rfl
  | cons a l ih => exact (ih (f ev a)).trans (h ev a)

@[simp] theorem OccEvent.conclude_frame (ev : OccEvent) :
    (ev.conclude).time = ev.state.time ∧ (ev.conclude).loader = ev.state.loader ∧ (ev.conclude).lines = ev.state.lines ∧
    (ev.conclude).personnel = ev.state.personnel ∧ (ev.conclude).schedules = ev.state.schedules ∧
    (ev.conclude).valves = ev.state.valves ∧ (ev.conclude).banks = ev.state.banks ∧
    (ev.conclude).containers = ev.state.containers ∧ (ev.conclude).pending = ev.state.pending := by
  refine ⟨?_, ?_, ?_, ?_, ?_, ?_, ?_, ?_, ?_⟩ <;> (unfold OccEvent.conclude; repeat' first | with_reducible rfl | split | simp)

@[simp] theorem OccEvent.remove_frame (ev : OccEvent) (e : Entry) (cause : OccCause) :
    (ev.remove e cause).state.time = ev.state.time ∧ (ev.remove e cause).state.loader = ev.state.loader ∧
    (ev.remove e cause).state.lines = ev.state.lines ∧ (ev.remove e cause).state.bus = ev.state.bus ∧
    (ev.remove e cause).state.doors = ev.state.doors ∧ (ev.remove e cause).state.personnel = ev.state.personnel ∧
    (ev.remove e cause).state.schedules = ev.state.schedules ∧ (ev.remove e cause).state.zones = ev.state.zones ∧
    (ev.remove e cause).state.valves = ev.state.valves ∧ (ev.remove e cause).state.banks = ev.state.banks ∧
    (ev.remove e cause).state.containers = ev.state.containers ∧ (ev.remove e cause).state.alarms = ev.state.alarms ∧
    (ev.remove e cause).state.link = ev.state.link ∧ (ev.remove e cause).state.ports = ev.state.ports ∧
    (ev.remove e cause).state.pending = ev.state.pending := by
  refine ⟨?_, ?_, ?_, ?_, ?_, ?_, ?_, ?_, ?_, ?_, ?_, ?_, ?_, ?_, ?_⟩ <;> (unfold OccEvent.remove; repeat' first | with_reducible rfl | split | simp)

@[simp] theorem OccEvent.make_frame (ev : OccEvent) (e : Entry) (cause : OccCause) :
    (ev.make e cause).state.time = ev.state.time ∧ (ev.make e cause).state.loader = ev.state.loader ∧
    (ev.make e cause).state.lines = ev.state.lines ∧ (ev.make e cause).state.bus = ev.state.bus ∧
    (ev.make e cause).state.doors = ev.state.doors ∧ (ev.make e cause).state.personnel = ev.state.personnel ∧
    (ev.make e cause).state.schedules = ev.state.schedules ∧ (ev.make e cause).state.zones = ev.state.zones ∧
    (ev.make e cause).state.valves = ev.state.valves ∧ (ev.make e cause).state.banks = ev.state.banks ∧
    (ev.make e cause).state.containers = ev.state.containers ∧ (ev.make e cause).state.alarms = ev.state.alarms ∧
    (ev.make e cause).state.link = ev.state.link ∧ (ev.make e cause).state.ports = ev.state.ports ∧
    (ev.make e cause).state.pending = ev.state.pending := by
  refine ⟨?_, ?_, ?_, ?_, ?_, ?_, ?_, ?_, ?_, ?_, ?_, ?_, ?_, ?_, ?_⟩ <;> (unfold OccEvent.make; repeat' first | with_reducible rfl | split | simp)

@[simp] theorem OccEvent.uncertain_frame (ev : OccEvent) (z : Zone) (cause : OccCause) :
    (ev.uncertain z cause).state.time = ev.state.time ∧ (ev.uncertain z cause).state.loader = ev.state.loader ∧
    (ev.uncertain z cause).state.lines = ev.state.lines ∧ (ev.uncertain z cause).state.bus = ev.state.bus ∧
    (ev.uncertain z cause).state.doors = ev.state.doors ∧ (ev.uncertain z cause).state.personnel = ev.state.personnel ∧
    (ev.uncertain z cause).state.schedules = ev.state.schedules ∧ (ev.uncertain z cause).state.zones = ev.state.zones ∧
    (ev.uncertain z cause).state.valves = ev.state.valves ∧ (ev.uncertain z cause).state.banks = ev.state.banks ∧
    (ev.uncertain z cause).state.containers = ev.state.containers ∧ (ev.uncertain z cause).state.alarms = ev.state.alarms ∧
    (ev.uncertain z cause).state.link = ev.state.link ∧ (ev.uncertain z cause).state.ports = ev.state.ports ∧
    (ev.uncertain z cause).state.pending = ev.state.pending := by
  refine ⟨?_, ?_, ?_, ?_, ?_, ?_, ?_, ?_, ?_, ?_, ?_, ?_, ?_, ?_, ?_⟩ <;> (unfold OccEvent.uncertain; repeat' first | with_reducible rfl | split | simp)

@[simp] theorem OccEvent.uncertainOutside_frame (ev : OccEvent) (outside : Option Zone) (cause : OccCause) :
    (ev.uncertainOutside outside cause).state.time = ev.state.time ∧
    (ev.uncertainOutside outside cause).state.loader = ev.state.loader ∧
    (ev.uncertainOutside outside cause).state.lines = ev.state.lines ∧
    (ev.uncertainOutside outside cause).state.bus = ev.state.bus ∧
    (ev.uncertainOutside outside cause).state.doors = ev.state.doors ∧
    (ev.uncertainOutside outside cause).state.personnel = ev.state.personnel ∧
    (ev.uncertainOutside outside cause).state.schedules = ev.state.schedules ∧
    (ev.uncertainOutside outside cause).state.zones = ev.state.zones ∧
    (ev.uncertainOutside outside cause).state.valves = ev.state.valves ∧
    (ev.uncertainOutside outside cause).state.banks = ev.state.banks ∧
    (ev.uncertainOutside outside cause).state.containers = ev.state.containers ∧
    (ev.uncertainOutside outside cause).state.alarms = ev.state.alarms ∧
    (ev.uncertainOutside outside cause).state.link = ev.state.link ∧
    (ev.uncertainOutside outside cause).state.ports = ev.state.ports ∧
    (ev.uncertainOutside outside cause).state.pending = ev.state.pending := by
  refine ⟨?_, ?_, ?_, ?_, ?_, ?_, ?_, ?_, ?_, ?_, ?_, ?_, ?_, ?_, ?_⟩ <;> (unfold OccEvent.uncertainOutside; repeat' first | with_reducible rfl | split | simp)

@[simp] theorem OccEvent.commitPerson_frame (ev : OccEvent) (d : Door) (cfg : DoorCfg) (persons : List GrantPerson) (g : GrantPerson) :
    (ev.commitPerson d cfg persons g).state.time = ev.state.time ∧
    (ev.commitPerson d cfg persons g).state.loader = ev.state.loader ∧
    (ev.commitPerson d cfg persons g).state.lines = ev.state.lines ∧
    (ev.commitPerson d cfg persons g).state.bus = ev.state.bus ∧
    (ev.commitPerson d cfg persons g).state.doors = ev.state.doors ∧
    (ev.commitPerson d cfg persons g).state.personnel = ev.state.personnel ∧
    (ev.commitPerson d cfg persons g).state.schedules = ev.state.schedules ∧
    (ev.commitPerson d cfg persons g).state.zones = ev.state.zones ∧
    (ev.commitPerson d cfg persons g).state.valves = ev.state.valves ∧
    (ev.commitPerson d cfg persons g).state.banks = ev.state.banks ∧
    (ev.commitPerson d cfg persons g).state.containers = ev.state.containers ∧
    (ev.commitPerson d cfg persons g).state.alarms = ev.state.alarms ∧
    (ev.commitPerson d cfg persons g).state.link = ev.state.link ∧
    (ev.commitPerson d cfg persons g).state.ports = ev.state.ports ∧
    (ev.commitPerson d cfg persons g).state.pending = ev.state.pending := by
  refine ⟨?_, ?_, ?_, ?_, ?_, ?_, ?_, ?_, ?_, ?_, ?_, ?_, ?_, ?_, ?_⟩ <;> (unfold OccEvent.commitPerson; repeat' first | with_reducible rfl | split | simp)

@[simp] theorem State.commitPersons_frame (s : State) (d : Door) (cfg : DoorCfg) (g : Grant) :
    (s.commitPersons d cfg g).time = s.time ∧ (s.commitPersons d cfg g).loader = s.loader ∧
    (s.commitPersons d cfg g).lines = s.lines ∧ (s.commitPersons d cfg g).personnel = s.personnel ∧
    (s.commitPersons d cfg g).schedules = s.schedules ∧ (s.commitPersons d cfg g).valves = s.valves ∧
    (s.commitPersons d cfg g).banks = s.banks ∧ (s.commitPersons d cfg g).containers = s.containers ∧
    (s.commitPersons d cfg g).pending = s.pending := by
  refine ⟨?_, ?_, ?_, ?_, ?_, ?_, ?_, ?_, ?_⟩ <;>
    (unfold State.commitPersons; simp only [OccEvent.conclude_frame]; exact (OccEvent.foldl_keeps _ _ _ (fun ev a => by simp) _).trans (by simp))

@[simp] theorem State.commitExit_frame (s : State) (d : Door) (cfg : DoorCfg) (p : Person) :
    (s.commitExit d cfg p).time = s.time ∧ (s.commitExit d cfg p).loader = s.loader ∧ (s.commitExit d cfg p).lines = s.lines ∧
    (s.commitExit d cfg p).personnel = s.personnel ∧ (s.commitExit d cfg p).schedules = s.schedules ∧
    (s.commitExit d cfg p).valves = s.valves ∧ (s.commitExit d cfg p).banks = s.banks ∧
    (s.commitExit d cfg p).containers = s.containers ∧ (s.commitExit d cfg p).pending = s.pending := by
  refine ⟨?_, ?_, ?_, ?_, ?_, ?_, ?_, ?_, ?_⟩ <;> (unfold State.commitExit; repeat' first | with_reducible rfl | split | simp)

@[simp] theorem State.commitGrant_frame (s : State) (d : Door) (cfg : DoorCfg) (g : Grant) :
    (s.commitGrant d cfg g).time = s.time ∧ (s.commitGrant d cfg g).loader = s.loader ∧
    (s.commitGrant d cfg g).lines = s.lines ∧ (s.commitGrant d cfg g).personnel = s.personnel ∧
    (s.commitGrant d cfg g).schedules = s.schedules ∧ (s.commitGrant d cfg g).valves = s.valves ∧
    (s.commitGrant d cfg g).banks = s.banks ∧ (s.commitGrant d cfg g).containers = s.containers ∧
    (s.commitGrant d cfg g).pending = s.pending := by
  refine ⟨?_, ?_, ?_, ?_, ?_, ?_, ?_, ?_, ?_⟩ <;> (unfold State.commitGrant; repeat' first | with_reducible rfl | split | simp)

@[simp] theorem State.unidentifiedExit_frame (s : State) (cfg : DoorCfg) :
    (s.unidentifiedExit cfg).time = s.time ∧ (s.unidentifiedExit cfg).loader = s.loader ∧
    (s.unidentifiedExit cfg).lines = s.lines ∧ (s.unidentifiedExit cfg).personnel = s.personnel ∧
    (s.unidentifiedExit cfg).schedules = s.schedules ∧ (s.unidentifiedExit cfg).valves = s.valves ∧
    (s.unidentifiedExit cfg).banks = s.banks ∧ (s.unidentifiedExit cfg).containers = s.containers ∧
    (s.unidentifiedExit cfg).pending = s.pending := by
  refine ⟨?_, ?_, ?_, ?_, ?_, ?_, ?_, ?_, ?_⟩ <;> (unfold State.unidentifiedExit; repeat' first | with_reducible rfl | split | simp)

@[simp] theorem State.forcedPassage_frame (s : State) (cfg : DoorCfg) :
    (s.forcedPassage cfg).time = s.time ∧ (s.forcedPassage cfg).loader = s.loader ∧ (s.forcedPassage cfg).lines = s.lines ∧
    (s.forcedPassage cfg).personnel = s.personnel ∧ (s.forcedPassage cfg).schedules = s.schedules ∧
    (s.forcedPassage cfg).valves = s.valves ∧ (s.forcedPassage cfg).banks = s.banks ∧
    (s.forcedPassage cfg).containers = s.containers ∧ (s.forcedPassage cfg).pending = s.pending := by
  refine ⟨?_, ?_, ?_, ?_, ?_, ?_, ?_, ?_, ?_⟩ <;> (unfold State.forcedPassage; repeat' first | with_reducible rfl | split | simp)

@[simp] theorem State.entryAfterWithdrawal_frame (s : State) (cfg : DoorCfg) :
    (s.entryAfterWithdrawal cfg).time = s.time ∧ (s.entryAfterWithdrawal cfg).loader = s.loader ∧
    (s.entryAfterWithdrawal cfg).lines = s.lines ∧ (s.entryAfterWithdrawal cfg).personnel = s.personnel ∧
    (s.entryAfterWithdrawal cfg).schedules = s.schedules ∧ (s.entryAfterWithdrawal cfg).valves = s.valves ∧
    (s.entryAfterWithdrawal cfg).banks = s.banks ∧ (s.entryAfterWithdrawal cfg).containers = s.containers ∧
    (s.entryAfterWithdrawal cfg).pending = s.pending := by
  refine ⟨?_, ?_, ?_, ?_, ?_, ?_, ?_, ?_, ?_⟩ <;> (unfold State.entryAfterWithdrawal; repeat' first | with_reducible rfl | split | simp)

@[simp] theorem State.checkIn_frame (s : State) (p : Person) :
    (s.checkIn p).time = s.time ∧ (s.checkIn p).loader = s.loader ∧ (s.checkIn p).lines = s.lines ∧
    (s.checkIn p).personnel = s.personnel ∧ (s.checkIn p).schedules = s.schedules ∧ (s.checkIn p).valves = s.valves ∧
    (s.checkIn p).banks = s.banks ∧ (s.checkIn p).containers = s.containers ∧ (s.checkIn p).pending = s.pending := by
  refine ⟨?_, ?_, ?_, ?_, ?_, ?_, ?_, ?_, ?_⟩ <;> (unfold State.checkIn; repeat' first | with_reducible rfl | split | simp)

@[simp] theorem State.changeMode_frame (s : State) (z : Zone) (mode : Mode) :
    (s.changeMode z mode).time = s.time ∧ (s.changeMode z mode).loader = s.loader ∧ (s.changeMode z mode).lines = s.lines ∧
    (s.changeMode z mode).bus = s.bus ∧ (s.changeMode z mode).doors = s.doors ∧ (s.changeMode z mode).personnel = s.personnel ∧
    (s.changeMode z mode).zones = s.zones ∧ (s.changeMode z mode).valves = s.valves ∧ (s.changeMode z mode).banks = s.banks ∧
    (s.changeMode z mode).containers = s.containers ∧ (s.changeMode z mode).pending = s.pending := by
  refine ⟨?_, ?_, ?_, ?_, ?_, ?_, ?_, ?_, ?_, ?_, ?_⟩ <;> (unfold State.changeMode; repeat' first | with_reducible rfl | split | simp)

@[simp] theorem State.markDeleted_frame (s : State) (p : Person) :
    (s.markDeleted p).time = s.time ∧ (s.markDeleted p).loader = s.loader ∧ (s.markDeleted p).lines = s.lines ∧
    (s.markDeleted p).personnel = s.personnel ∧ (s.markDeleted p).schedules = s.schedules ∧
    (s.markDeleted p).valves = s.valves ∧ (s.markDeleted p).banks = s.banks ∧ (s.markDeleted p).containers = s.containers ∧
    (s.markDeleted p).pending = s.pending := by
  refine ⟨?_, ?_, ?_, ?_, ?_, ?_, ?_, ?_, ?_⟩ <;> (unfold State.markDeleted; repeat' first | with_reducible rfl | split | simp)

@[simp] theorem State.forceOut_frame (s : State) (e : Entry) :
    (s.forceOut e).time = s.time ∧ (s.forceOut e).loader = s.loader ∧ (s.forceOut e).lines = s.lines ∧
    (s.forceOut e).personnel = s.personnel ∧ (s.forceOut e).schedules = s.schedules ∧ (s.forceOut e).valves = s.valves ∧
    (s.forceOut e).banks = s.banks ∧ (s.forceOut e).containers = s.containers ∧ (s.forceOut e).pending = s.pending := by
  refine ⟨?_, ?_, ?_, ?_, ?_, ?_, ?_, ?_, ?_⟩ <;> (unfold State.forceOut; repeat' first | with_reducible rfl | split | simp)

@[simp] theorem State.sweep_frame (s : State) (z : Zone) (persons : List Person) :
    (s.sweep z persons).time = s.time ∧ (s.sweep z persons).loader = s.loader ∧ (s.sweep z persons).lines = s.lines ∧
    (s.sweep z persons).personnel = s.personnel ∧ (s.sweep z persons).schedules = s.schedules ∧
    (s.sweep z persons).valves = s.valves ∧ (s.sweep z persons).banks = s.banks ∧
    (s.sweep z persons).containers = s.containers ∧ (s.sweep z persons).pending = s.pending := by
  refine ⟨?_, ?_, ?_, ?_, ?_, ?_, ?_, ?_, ?_⟩ <;>
    (unfold State.sweep; simp only [OccEvent.conclude_frame, State.updOccupancy_time, State.updOccupancy_loader, State.updOccupancy_lines, State.updOccupancy_personnel, State.updOccupancy_schedules, State.updOccupancy_valves, State.updOccupancy_banks, State.updOccupancy_containers, State.updOccupancy_pending];
      refine ((OccEvent.foldl_keeps _ _ _ (fun ev a => by simp) _).trans (OccEvent.foldl_keeps _ _ _ (fun ev a => by simp) _)).trans ?_;
      exact (OccEvent.foldl_keeps _ _ _ (fun ev a => by simp) _).trans (by simp))

@[simp] theorem State.missCheckin_frame (s : State) (e : Entry) :
    (s.missCheckin e).time = s.time ∧ (s.missCheckin e).loader = s.loader ∧ (s.missCheckin e).lines = s.lines ∧
    (s.missCheckin e).personnel = s.personnel ∧ (s.missCheckin e).schedules = s.schedules ∧
    (s.missCheckin e).valves = s.valves ∧ (s.missCheckin e).banks = s.banks ∧ (s.missCheckin e).containers = s.containers ∧
    (s.missCheckin e).pending = s.pending := by
  refine ⟨?_, ?_, ?_, ?_, ?_, ?_, ?_, ?_, ?_⟩ <;> (unfold State.missCheckin; repeat' first | with_reducible rfl | split | simp)


/-! ## Schedules -/

@[simp] theorem State.evaluateMode_frame (s : State) (z : Zone) :
    (s.evaluateMode z).time = s.time ∧ (s.evaluateMode z).loader = s.loader ∧ (s.evaluateMode z).lines = s.lines ∧
    (s.evaluateMode z).bus = s.bus ∧ (s.evaluateMode z).doors = s.doors ∧ (s.evaluateMode z).personnel = s.personnel ∧
    (s.evaluateMode z).zones = s.zones ∧ (s.evaluateMode z).valves = s.valves ∧ (s.evaluateMode z).banks = s.banks ∧
    (s.evaluateMode z).containers = s.containers ∧ (s.evaluateMode z).pending = s.pending := by
  refine ⟨?_, ?_, ?_, ?_, ?_, ?_, ?_, ?_, ?_, ?_, ?_⟩ <;> (unfold State.evaluateMode; repeat' first | with_reducible rfl | split | simp)

@[simp] theorem State.evaluateModes_frame (s : State) :
    (s.evaluateModes).time = s.time ∧ (s.evaluateModes).loader = s.loader ∧ (s.evaluateModes).lines = s.lines ∧
    (s.evaluateModes).bus = s.bus ∧ (s.evaluateModes).doors = s.doors ∧ (s.evaluateModes).personnel = s.personnel ∧
    (s.evaluateModes).zones = s.zones ∧ (s.evaluateModes).valves = s.valves ∧ (s.evaluateModes).banks = s.banks ∧
    (s.evaluateModes).containers = s.containers ∧ (s.evaluateModes).pending = s.pending := by
  refine ⟨?_, ?_, ?_, ?_, ?_, ?_, ?_, ?_, ?_, ?_, ?_⟩ <;> (unfold State.evaluateModes; repeat' first | with_reducible rfl | split | simp)

@[simp] theorem State.swapSchedules_frame (s : State) :
    (s.swapSchedules).time = s.time ∧ (s.swapSchedules).loader = s.loader ∧ (s.swapSchedules).lines = s.lines ∧
    (s.swapSchedules).bus = s.bus ∧ (s.swapSchedules).doors = s.doors ∧ (s.swapSchedules).personnel = s.personnel ∧
    (s.swapSchedules).occupancy = s.occupancy ∧ (s.swapSchedules).zones = s.zones ∧ (s.swapSchedules).valves = s.valves ∧
    (s.swapSchedules).banks = s.banks ∧ (s.swapSchedules).containers = s.containers ∧ (s.swapSchedules).alarms = s.alarms ∧
    (s.swapSchedules).link = s.link ∧ (s.swapSchedules).pending = s.pending := by
  refine ⟨?_, ?_, ?_, ?_, ?_, ?_, ?_, ?_, ?_, ?_, ?_, ?_, ?_, ?_⟩ <;> (unfold State.swapSchedules; repeat' first | with_reducible rfl | split | simp)

@[simp] theorem State.minuteBoundary_frame (s : State) :
    (s.minuteBoundary).time = s.time ∧ (s.minuteBoundary).loader = s.loader ∧ (s.minuteBoundary).lines = s.lines ∧
    (s.minuteBoundary).bus = s.bus ∧ (s.minuteBoundary).doors = s.doors ∧ (s.minuteBoundary).personnel = s.personnel ∧
    (s.minuteBoundary).zones = s.zones ∧ (s.minuteBoundary).valves = s.valves ∧ (s.minuteBoundary).banks = s.banks ∧
    (s.minuteBoundary).containers = s.containers ∧ (s.minuteBoundary).pending = s.pending := by
  refine ⟨?_, ?_, ?_, ?_, ?_, ?_, ?_, ?_, ?_, ?_, ?_⟩ <;> (unfold State.minuteBoundary; repeat' first | with_reducible rfl | split | simp)

@[simp] theorem State.advanceSecond_frame (s : State) (t : DateTime) :
    (s.advanceSecond t).loader = s.loader ∧ (s.advanceSecond t).lines = s.lines ∧ (s.advanceSecond t).bus = s.bus ∧
    (s.advanceSecond t).doors = s.doors ∧ (s.advanceSecond t).personnel = s.personnel ∧ (s.advanceSecond t).zones = s.zones ∧
    (s.advanceSecond t).valves = s.valves ∧ (s.advanceSecond t).banks = s.banks ∧
    (s.advanceSecond t).containers = s.containers ∧ (s.advanceSecond t).pending = s.pending := by
  refine ⟨?_, ?_, ?_, ?_, ?_, ?_, ?_, ?_, ?_, ?_⟩ <;> (unfold State.advanceSecond; repeat' first | with_reducible rfl | split | simp)

@[simp] theorem State.setTime_frame (s : State) (t : DateTime) :
    (s.setTime t).loader = s.loader ∧ (s.setTime t).lines = s.lines ∧ (s.setTime t).bus = s.bus ∧
    (s.setTime t).doors = s.doors ∧ (s.setTime t).personnel = s.personnel ∧ (s.setTime t).zones = s.zones ∧
    (s.setTime t).valves = s.valves ∧ (s.setTime t).banks = s.banks ∧ (s.setTime t).containers = s.containers ∧
    (s.setTime t).pending = s.pending := by
  refine ⟨?_, ?_, ?_, ?_, ?_, ?_, ?_, ?_, ?_, ?_⟩ <;> (unfold State.setTime; repeat' first | with_reducible rfl | split | simp)


/-! ## Decisions -/

@[simp] theorem State.supersedePairing_frame (s : State) (d : Door) (r : DoorRec) (g : Grant) :
    (s.supersedePairing d r g).time = s.time ∧ (s.supersedePairing d r g).loader = s.loader ∧
    (s.supersedePairing d r g).lines = s.lines ∧ (s.supersedePairing d r g).bus = s.bus ∧
    (s.supersedePairing d r g).personnel = s.personnel ∧ (s.supersedePairing d r g).schedules = s.schedules ∧
    (s.supersedePairing d r g).occupancy = s.occupancy ∧ (s.supersedePairing d r g).zones = s.zones ∧
    (s.supersedePairing d r g).valves = s.valves ∧ (s.supersedePairing d r g).banks = s.banks ∧
    (s.supersedePairing d r g).containers = s.containers ∧ (s.supersedePairing d r g).alarms = s.alarms ∧
    (s.supersedePairing d r g).link = s.link ∧ (s.supersedePairing d r g).pending = s.pending := by
  refine ⟨?_, ?_, ?_, ?_, ?_, ?_, ?_, ?_, ?_, ?_, ?_, ?_, ?_, ?_⟩ <;> (unfold State.supersedePairing; repeat' first | with_reducible rfl | split | simp)

@[simp] theorem State.installGrant_frame (s : State) (d : Door) (r : DoorRec) (kind : GrantKind) (persons : List GrantPerson) (places : Nat) :
    (s.installGrant d r kind persons places).time = s.time ∧ (s.installGrant d r kind persons places).loader = s.loader ∧
    (s.installGrant d r kind persons places).lines = s.lines ∧
    (s.installGrant d r kind persons places).personnel = s.personnel ∧
    (s.installGrant d r kind persons places).schedules = s.schedules ∧
    (s.installGrant d r kind persons places).valves = s.valves ∧ (s.installGrant d r kind persons places).banks = s.banks ∧
    (s.installGrant d r kind persons places).containers = s.containers ∧
    (s.installGrant d r kind persons places).alarms = s.alarms ∧ (s.installGrant d r kind persons places).link = s.link ∧
    (s.installGrant d r kind persons places).pending = s.pending := by
  refine ⟨?_, ?_, ?_, ?_, ?_, ?_, ?_, ?_, ?_, ?_, ?_⟩ <;> (unfold State.installGrant; repeat' first | with_reducible rfl | split | simp)

@[simp] theorem State.denyPresentation_frame (s : State) (d : Door) (x : Presentation) (person : Option Person) (reason : DenialReason) (duress : Bool) :
    (s.denyPresentation d x person reason duress).time = s.time ∧
    (s.denyPresentation d x person reason duress).loader = s.loader ∧
    (s.denyPresentation d x person reason duress).lines = s.lines ∧
    (s.denyPresentation d x person reason duress).personnel = s.personnel ∧
    (s.denyPresentation d x person reason duress).schedules = s.schedules ∧
    (s.denyPresentation d x person reason duress).occupancy = s.occupancy ∧
    (s.denyPresentation d x person reason duress).zones = s.zones ∧
    (s.denyPresentation d x person reason duress).valves = s.valves ∧
    (s.denyPresentation d x person reason duress).banks = s.banks ∧
    (s.denyPresentation d x person reason duress).containers = s.containers ∧
    (s.denyPresentation d x person reason duress).alarms = s.alarms ∧
    (s.denyPresentation d x person reason duress).link = s.link ∧
    (s.denyPresentation d x person reason duress).pending = s.pending := by
  refine ⟨?_, ?_, ?_, ?_, ?_, ?_, ?_, ?_, ?_, ?_, ?_, ?_, ?_⟩ <;> (unfold State.denyPresentation; repeat' first | with_reducible rfl | split | simp)

@[simp] theorem State.createPairing_frame (s : State) (d : Door) (r : DoorRec) (first : GrantPerson) :
    (s.createPairing d r first).time = s.time ∧ (s.createPairing d r first).loader = s.loader ∧
    (s.createPairing d r first).lines = s.lines ∧ (s.createPairing d r first).personnel = s.personnel ∧
    (s.createPairing d r first).schedules = s.schedules ∧ (s.createPairing d r first).occupancy = s.occupancy ∧
    (s.createPairing d r first).zones = s.zones ∧ (s.createPairing d r first).valves = s.valves ∧
    (s.createPairing d r first).banks = s.banks ∧ (s.createPairing d r first).containers = s.containers ∧
    (s.createPairing d r first).alarms = s.alarms ∧ (s.createPairing d r first).link = s.link ∧
    (s.createPairing d r first).pending = s.pending := by
  refine ⟨?_, ?_, ?_, ?_, ?_, ?_, ?_, ?_, ?_, ?_, ?_, ?_, ?_⟩ <;> (unfold State.createPairing; repeat' first | with_reducible rfl | split | simp)

@[simp] theorem State.applyDecision_frame (s : State) (d : Door) (r : DoorRec) (x : Presentation) (person : Option Person) (duress : Bool) (y : Decision) :
    (s.applyDecision d r x person duress y).time = s.time ∧ (s.applyDecision d r x person duress y).loader = s.loader ∧
    (s.applyDecision d r x person duress y).lines = s.lines ∧ (s.applyDecision d r x person duress y).personnel = s.personnel ∧
    (s.applyDecision d r x person duress y).schedules = s.schedules ∧
    (s.applyDecision d r x person duress y).valves = s.valves ∧ (s.applyDecision d r x person duress y).banks = s.banks ∧
    (s.applyDecision d r x person duress y).containers = s.containers ∧
    (s.applyDecision d r x person duress y).pending = s.pending := by
  refine ⟨?_, ?_, ?_, ?_, ?_, ?_, ?_, ?_, ?_⟩ <;>
    (unfold State.applyDecision State.offerGrant; repeat' first | with_reducible rfl | split | (simp_all; done) | (rename_i h; split at h <;> simp_all <;> (try subst h) <;> (try simp)))

@[simp] theorem State.raiseDuress_frame (s : State) (zone : Zone) (person : Option Person) (duress : Bool) :
    (s.raiseDuress zone person duress).time = s.time ∧ (s.raiseDuress zone person duress).loader = s.loader ∧
    (s.raiseDuress zone person duress).lines = s.lines ∧ (s.raiseDuress zone person duress).personnel = s.personnel ∧
    (s.raiseDuress zone person duress).schedules = s.schedules ∧ (s.raiseDuress zone person duress).valves = s.valves ∧
    (s.raiseDuress zone person duress).banks = s.banks ∧ (s.raiseDuress zone person duress).containers = s.containers ∧
    (s.raiseDuress zone person duress).pending = s.pending := by
  refine ⟨?_, ?_, ?_, ?_, ?_, ?_, ?_, ?_, ?_⟩ <;> (unfold State.raiseDuress; repeat' first | with_reducible rfl | split | simp)

@[simp] theorem State.present_frame (s : State) (d : Door) (x : Presentation) :
    (s.present d x).time = s.time ∧ (s.present d x).loader = s.loader ∧ (s.present d x).lines = s.lines ∧
    (s.present d x).personnel = s.personnel ∧ (s.present d x).schedules = s.schedules ∧ (s.present d x).valves = s.valves ∧
    (s.present d x).banks = s.banks ∧ (s.present d x).containers = s.containers ∧ (s.present d x).pending = s.pending := by
  refine ⟨?_, ?_, ?_, ?_, ?_, ?_, ?_, ?_, ?_⟩ <;> (unfold State.present; repeat' first | with_reducible rfl | split | simp)


/-! ## Door events -/

@[simp] theorem State.releaseUnused_frame (s : State) (z : Zone) (g : Grant) :
    (s.releaseUnused z g).time = s.time ∧ (s.releaseUnused z g).loader = s.loader ∧ (s.releaseUnused z g).lines = s.lines ∧
    (s.releaseUnused z g).bus = s.bus ∧ (s.releaseUnused z g).doors = s.doors ∧ (s.releaseUnused z g).personnel = s.personnel ∧
    (s.releaseUnused z g).schedules = s.schedules ∧ (s.releaseUnused z g).valves = s.valves ∧
    (s.releaseUnused z g).banks = s.banks ∧ (s.releaseUnused z g).containers = s.containers ∧
    (s.releaseUnused z g).alarms = s.alarms ∧ (s.releaseUnused z g).link = s.link ∧ (s.releaseUnused z g).ports = s.ports ∧
    (s.releaseUnused z g).pending = s.pending := by
  refine ⟨?_, ?_, ?_, ?_, ?_, ?_, ?_, ?_, ?_, ?_, ?_, ?_, ?_, ?_⟩ <;> (unfold State.releaseUnused; repeat' first | with_reducible rfl | split | simp)

@[simp] theorem State.grantedOpening_frame (s : State) (d : Door) (r : DoorRec) (stamp : Nat) :
    (s.grantedOpening d r stamp).time = s.time ∧ (s.grantedOpening d r stamp).loader = s.loader ∧
    (s.grantedOpening d r stamp).lines = s.lines ∧ (s.grantedOpening d r stamp).personnel = s.personnel ∧
    (s.grantedOpening d r stamp).schedules = s.schedules ∧ (s.grantedOpening d r stamp).valves = s.valves ∧
    (s.grantedOpening d r stamp).banks = s.banks ∧ (s.grantedOpening d r stamp).containers = s.containers ∧
    (s.grantedOpening d r stamp).pending = s.pending := by
  refine ⟨?_, ?_, ?_, ?_, ?_, ?_, ?_, ?_, ?_⟩ <;> (unfold State.grantedOpening; repeat' first | with_reducible rfl | split | simp)

@[simp] theorem State.egressOpening_frame (s : State) (d : Door) (r : DoorRec) (stamp : Nat) :
    (s.egressOpening d r stamp).time = s.time ∧ (s.egressOpening d r stamp).loader = s.loader ∧
    (s.egressOpening d r stamp).lines = s.lines ∧ (s.egressOpening d r stamp).personnel = s.personnel ∧
    (s.egressOpening d r stamp).schedules = s.schedules ∧ (s.egressOpening d r stamp).valves = s.valves ∧
    (s.egressOpening d r stamp).banks = s.banks ∧ (s.egressOpening d r stamp).containers = s.containers ∧
    (s.egressOpening d r stamp).pending = s.pending := by
  refine ⟨?_, ?_, ?_, ?_, ?_, ?_, ?_, ?_, ?_⟩ <;> (unfold State.egressOpening; repeat' first | with_reducible rfl | split | simp)

@[simp] theorem State.forcedOpening_frame (s : State) (d : Door) (r : DoorRec) (stamp : Nat) :
    (s.forcedOpening d r stamp).time = s.time ∧ (s.forcedOpening d r stamp).loader = s.loader ∧
    (s.forcedOpening d r stamp).lines = s.lines ∧ (s.forcedOpening d r stamp).personnel = s.personnel ∧
    (s.forcedOpening d r stamp).schedules = s.schedules ∧ (s.forcedOpening d r stamp).valves = s.valves ∧
    (s.forcedOpening d r stamp).banks = s.banks ∧ (s.forcedOpening d r stamp).containers = s.containers ∧
    (s.forcedOpening d r stamp).pending = s.pending := by
  refine ⟨?_, ?_, ?_, ?_, ?_, ?_, ?_, ?_, ?_⟩ <;> (unfold State.forcedOpening; repeat' first | with_reducible rfl | split | simp)

@[simp] theorem State.openingAfterWithdrawal_frame (s : State) (d : Door) (r : DoorRec) (stamp : Nat) :
    (s.openingAfterWithdrawal d r stamp).time = s.time ∧ (s.openingAfterWithdrawal d r stamp).loader = s.loader ∧
    (s.openingAfterWithdrawal d r stamp).lines = s.lines ∧ (s.openingAfterWithdrawal d r stamp).personnel = s.personnel ∧
    (s.openingAfterWithdrawal d r stamp).schedules = s.schedules ∧ (s.openingAfterWithdrawal d r stamp).valves = s.valves ∧
    (s.openingAfterWithdrawal d r stamp).banks = s.banks ∧ (s.openingAfterWithdrawal d r stamp).containers = s.containers ∧
    (s.openingAfterWithdrawal d r stamp).pending = s.pending := by
  refine ⟨?_, ?_, ?_, ?_, ?_, ?_, ?_, ?_, ?_⟩ <;> (unfold State.openingAfterWithdrawal; repeat' first | with_reducible rfl | split | simp)

@[simp] theorem State.secureOpening_frame (s : State) (d : Door) (r : DoorRec) (stamp : Nat) :
    (s.secureOpening d r stamp).time = s.time ∧ (s.secureOpening d r stamp).loader = s.loader ∧
    (s.secureOpening d r stamp).lines = s.lines ∧ (s.secureOpening d r stamp).personnel = s.personnel ∧
    (s.secureOpening d r stamp).schedules = s.schedules ∧ (s.secureOpening d r stamp).valves = s.valves ∧
    (s.secureOpening d r stamp).banks = s.banks ∧ (s.secureOpening d r stamp).containers = s.containers ∧
    (s.secureOpening d r stamp).pending = s.pending := by
  refine ⟨?_, ?_, ?_, ?_, ?_, ?_, ?_, ?_, ?_⟩ <;> (unfold State.secureOpening; repeat' first | with_reducible rfl | split | simp)

@[simp] theorem State.offlineOpening_frame (s : State) (d : Door) (r : DoorRec) (stamp : Nat) :
    (s.offlineOpening d r stamp).time = s.time ∧ (s.offlineOpening d r stamp).loader = s.loader ∧
    (s.offlineOpening d r stamp).lines = s.lines ∧ (s.offlineOpening d r stamp).personnel = s.personnel ∧
    (s.offlineOpening d r stamp).schedules = s.schedules ∧ (s.offlineOpening d r stamp).valves = s.valves ∧
    (s.offlineOpening d r stamp).banks = s.banks ∧ (s.offlineOpening d r stamp).containers = s.containers ∧
    (s.offlineOpening d r stamp).pending = s.pending := by
  refine ⟨?_, ?_, ?_, ?_, ?_, ?_, ?_, ?_, ?_⟩ <;> (unfold State.offlineOpening; repeat' first | with_reducible rfl | split | simp)

@[simp] theorem State.doorCloses_frame (s : State) (d : Door) (r : DoorRec) :
    (s.doorCloses d r).time = s.time ∧ (s.doorCloses d r).loader = s.loader ∧ (s.doorCloses d r).lines = s.lines ∧
    (s.doorCloses d r).personnel = s.personnel ∧ (s.doorCloses d r).schedules = s.schedules ∧
    (s.doorCloses d r).occupancy = s.occupancy ∧ (s.doorCloses d r).zones = s.zones ∧ (s.doorCloses d r).valves = s.valves ∧
    (s.doorCloses d r).banks = s.banks ∧ (s.doorCloses d r).containers = s.containers ∧ (s.doorCloses d r).alarms = s.alarms ∧
    (s.doorCloses d r).link = s.link ∧ (s.doorCloses d r).pending = s.pending := by
  refine ⟨?_, ?_, ?_, ?_, ?_, ?_, ?_, ?_, ?_, ?_, ?_, ?_, ?_⟩ <;> (unfold State.doorCloses; repeat' first | with_reducible rfl | split | simp)

@[simp] theorem State.leaveOffline_frame (s : State) (d : Door) (r : DoorRec) (opened : Bool) :
    (s.leaveOffline d r opened).time = s.time ∧ (s.leaveOffline d r opened).loader = s.loader ∧
    (s.leaveOffline d r opened).lines = s.lines ∧ (s.leaveOffline d r opened).personnel = s.personnel ∧
    (s.leaveOffline d r opened).schedules = s.schedules ∧ (s.leaveOffline d r opened).occupancy = s.occupancy ∧
    (s.leaveOffline d r opened).zones = s.zones ∧ (s.leaveOffline d r opened).valves = s.valves ∧
    (s.leaveOffline d r opened).banks = s.banks ∧ (s.leaveOffline d r opened).containers = s.containers ∧
    (s.leaveOffline d r opened).alarms = s.alarms ∧ (s.leaveOffline d r opened).link = s.link ∧
    (s.leaveOffline d r opened).pending = s.pending := by
  refine ⟨?_, ?_, ?_, ?_, ?_, ?_, ?_, ?_, ?_, ?_, ?_, ?_, ?_⟩ <;> (unfold State.leaveOffline; repeat' first | with_reducible rfl | split | simp)

@[simp] theorem State.doorLost_frame (s : State) (d : Door) (r : DoorRec) (state : DoorState) (cause : DoorCause) :
    (s.doorLost d r state cause).time = s.time ∧ (s.doorLost d r state cause).loader = s.loader ∧
    (s.doorLost d r state cause).lines = s.lines ∧ (s.doorLost d r state cause).personnel = s.personnel ∧
    (s.doorLost d r state cause).schedules = s.schedules ∧ (s.doorLost d r state cause).valves = s.valves ∧
    (s.doorLost d r state cause).banks = s.banks ∧ (s.doorLost d r state cause).containers = s.containers ∧
    (s.doorLost d r state cause).alarms = s.alarms ∧ (s.doorLost d r state cause).link = s.link ∧
    (s.doorLost d r state cause).pending = s.pending := by
  refine ⟨?_, ?_, ?_, ?_, ?_, ?_, ?_, ?_, ?_, ?_, ?_⟩ <;> (unfold State.doorLost; repeat' first | with_reducible rfl | split | simp)

@[simp] theorem State.contactRestored_frame (s : State) (d : Door) (r : DoorRec) (opened : Bool) :
    (s.contactRestored d r opened).time = s.time ∧ (s.contactRestored d r opened).loader = s.loader ∧
    (s.contactRestored d r opened).lines = s.lines ∧ (s.contactRestored d r opened).personnel = s.personnel ∧
    (s.contactRestored d r opened).schedules = s.schedules ∧ (s.contactRestored d r opened).valves = s.valves ∧
    (s.contactRestored d r opened).banks = s.banks ∧ (s.contactRestored d r opened).containers = s.containers ∧
    (s.contactRestored d r opened).pending = s.pending := by
  refine ⟨?_, ?_, ?_, ?_, ?_, ?_, ?_, ?_, ?_⟩ <;> (unfold State.contactRestored; repeat' first | with_reducible rfl | split | simp)

@[simp] theorem State.contactReport_frame (s : State) (d : Door) (previous : Option LineClass) (new : LineClass) (stamp : Nat) :
    (s.contactReport d previous new stamp).time = s.time ∧ (s.contactReport d previous new stamp).loader = s.loader ∧
    (s.contactReport d previous new stamp).lines = s.lines ∧ (s.contactReport d previous new stamp).personnel = s.personnel ∧
    (s.contactReport d previous new stamp).schedules = s.schedules ∧ (s.contactReport d previous new stamp).valves = s.valves ∧
    (s.contactReport d previous new stamp).banks = s.banks ∧ (s.contactReport d previous new stamp).containers = s.containers ∧
    (s.contactReport d previous new stamp).pending = s.pending := by
  refine ⟨?_, ?_, ?_, ?_, ?_, ?_, ?_, ?_, ?_⟩ <;> (unfold State.contactReport; repeat' first | with_reducible rfl | split | simp)

@[simp] theorem State.handleReport_frame (s : State) (d : Door) (new : LineClass) (stamp : Nat) :
    (s.handleReport d new stamp).time = s.time ∧ (s.handleReport d new stamp).loader = s.loader ∧
    (s.handleReport d new stamp).lines = s.lines ∧ (s.handleReport d new stamp).bus = s.bus ∧
    (s.handleReport d new stamp).personnel = s.personnel ∧ (s.handleReport d new stamp).schedules = s.schedules ∧
    (s.handleReport d new stamp).occupancy = s.occupancy ∧ (s.handleReport d new stamp).zones = s.zones ∧
    (s.handleReport d new stamp).valves = s.valves ∧ (s.handleReport d new stamp).banks = s.banks ∧
    (s.handleReport d new stamp).containers = s.containers ∧ (s.handleReport d new stamp).alarms = s.alarms ∧
    (s.handleReport d new stamp).link = s.link ∧ (s.handleReport d new stamp).ports = s.ports ∧
    (s.handleReport d new stamp).pending = s.pending := by
  refine ⟨?_, ?_, ?_, ?_, ?_, ?_, ?_, ?_, ?_, ?_, ?_, ?_, ?_, ?_, ?_⟩ <;> (unfold State.handleReport; repeat' first | with_reducible rfl | split | simp)

@[simp] theorem State.doorModuleOffline_frame (s : State) (d : Door) :
    (s.doorModuleOffline d).time = s.time ∧ (s.doorModuleOffline d).loader = s.loader ∧
    (s.doorModuleOffline d).lines = s.lines ∧ (s.doorModuleOffline d).personnel = s.personnel ∧
    (s.doorModuleOffline d).schedules = s.schedules ∧ (s.doorModuleOffline d).valves = s.valves ∧
    (s.doorModuleOffline d).banks = s.banks ∧ (s.doorModuleOffline d).containers = s.containers ∧
    (s.doorModuleOffline d).alarms = s.alarms ∧ (s.doorModuleOffline d).link = s.link ∧
    (s.doorModuleOffline d).pending = s.pending := by
  refine ⟨?_, ?_, ?_, ?_, ?_, ?_, ?_, ?_, ?_, ?_, ?_⟩ <;> (unfold State.doorModuleOffline; repeat' first | with_reducible rfl | split | simp)

@[simp] theorem State.doorModuleBack_frame (s : State) (d : Door) :
    (s.doorModuleBack d).time = s.time ∧ (s.doorModuleBack d).loader = s.loader ∧ (s.doorModuleBack d).lines = s.lines ∧
    (s.doorModuleBack d).personnel = s.personnel ∧ (s.doorModuleBack d).schedules = s.schedules ∧
    (s.doorModuleBack d).occupancy = s.occupancy ∧ (s.doorModuleBack d).zones = s.zones ∧
    (s.doorModuleBack d).valves = s.valves ∧ (s.doorModuleBack d).banks = s.banks ∧
    (s.doorModuleBack d).containers = s.containers ∧ (s.doorModuleBack d).alarms = s.alarms ∧
    (s.doorModuleBack d).link = s.link ∧ (s.doorModuleBack d).pending = s.pending := by
  refine ⟨?_, ?_, ?_, ?_, ?_, ?_, ?_, ?_, ?_, ?_, ?_, ?_, ?_⟩ <;> (unfold State.doorModuleBack; repeat' first | with_reducible rfl | split | simp)

@[simp] theorem State.lockFeedbackReport_frame (s : State) (d : Door) (f : LockFeedback) :
    (s.lockFeedbackReport d f).time = s.time ∧ (s.lockFeedbackReport d f).loader = s.loader ∧
    (s.lockFeedbackReport d f).lines = s.lines ∧ (s.lockFeedbackReport d f).bus = s.bus ∧
    (s.lockFeedbackReport d f).personnel = s.personnel ∧ (s.lockFeedbackReport d f).schedules = s.schedules ∧
    (s.lockFeedbackReport d f).occupancy = s.occupancy ∧ (s.lockFeedbackReport d f).zones = s.zones ∧
    (s.lockFeedbackReport d f).valves = s.valves ∧ (s.lockFeedbackReport d f).banks = s.banks ∧
    (s.lockFeedbackReport d f).containers = s.containers ∧ (s.lockFeedbackReport d f).alarms = s.alarms ∧
    (s.lockFeedbackReport d f).link = s.link ∧ (s.lockFeedbackReport d f).ports = s.ports ∧
    (s.lockFeedbackReport d f).pending = s.pending := by
  refine ⟨?_, ?_, ?_, ?_, ?_, ?_, ?_, ?_, ?_, ?_, ?_, ?_, ?_, ?_, ?_⟩ <;> (unfold State.lockFeedbackReport; repeat' first | with_reducible rfl | split | simp)

@[simp] theorem State.lapseGrant_frame (s : State) (d : Door) (r : DoorRec) (g : Grant) :
    (s.lapseGrant d r g).time = s.time ∧ (s.lapseGrant d r g).loader = s.loader ∧ (s.lapseGrant d r g).lines = s.lines ∧
    (s.lapseGrant d r g).personnel = s.personnel ∧ (s.lapseGrant d r g).schedules = s.schedules ∧
    (s.lapseGrant d r g).valves = s.valves ∧ (s.lapseGrant d r g).banks = s.banks ∧
    (s.lapseGrant d r g).containers = s.containers ∧ (s.lapseGrant d r g).alarms = s.alarms ∧
    (s.lapseGrant d r g).link = s.link ∧ (s.lapseGrant d r g).pending = s.pending := by
  refine ⟨?_, ?_, ?_, ?_, ?_, ?_, ?_, ?_, ?_, ?_, ?_⟩ <;> (unfold State.lapseGrant; repeat' first | with_reducible rfl | split | simp)

@[simp] theorem State.expirePairing_frame (s : State) (d : Door) (p : Pairing) :
    (s.expirePairing d p).time = s.time ∧ (s.expirePairing d p).loader = s.loader ∧ (s.expirePairing d p).lines = s.lines ∧
    (s.expirePairing d p).personnel = s.personnel ∧ (s.expirePairing d p).schedules = s.schedules ∧
    (s.expirePairing d p).occupancy = s.occupancy ∧ (s.expirePairing d p).zones = s.zones ∧
    (s.expirePairing d p).valves = s.valves ∧ (s.expirePairing d p).banks = s.banks ∧
    (s.expirePairing d p).containers = s.containers ∧ (s.expirePairing d p).alarms = s.alarms ∧
    (s.expirePairing d p).link = s.link ∧ (s.expirePairing d p).pending = s.pending := by
  refine ⟨?_, ?_, ?_, ?_, ?_, ?_, ?_, ?_, ?_, ?_, ?_, ?_, ?_⟩ <;> (unfold State.expirePairing; repeat' first | with_reducible rfl | split | simp)


/-! ## Scans, polls, containers, telegrams, slots -/

@[simp] theorem State.abortReport_frame (s : State) (z : Zone) (l : Line) (previous : Option LineClass) (new : LineClass) :
    (s.abortReport z l previous new).time = s.time ∧ (s.abortReport z l previous new).loader = s.loader ∧
    (s.abortReport z l previous new).lines = s.lines ∧ (s.abortReport z l previous new).personnel = s.personnel ∧
    (s.abortReport z l previous new).schedules = s.schedules ∧ (s.abortReport z l previous new).valves = s.valves ∧
    (s.abortReport z l previous new).banks = s.banks ∧ (s.abortReport z l previous new).containers = s.containers ∧
    (s.abortReport z l previous new).alarms = s.alarms ∧ (s.abortReport z l previous new).pending = s.pending := by
  refine ⟨?_, ?_, ?_, ?_, ?_, ?_, ?_, ?_, ?_, ?_⟩ <;> (unfold State.abortReport; repeat' first | with_reducible rfl | split | simp)

@[simp] theorem State.buttonReport_frame (s : State) (z : Zone) (l : Line) (previous : Option LineClass) (new : LineClass) :
    (s.buttonReport z l previous new).time = s.time ∧ (s.buttonReport z l previous new).loader = s.loader ∧
    (s.buttonReport z l previous new).lines = s.lines ∧ (s.buttonReport z l previous new).personnel = s.personnel ∧
    (s.buttonReport z l previous new).schedules = s.schedules ∧ (s.buttonReport z l previous new).valves = s.valves ∧
    (s.buttonReport z l previous new).banks = s.banks ∧ (s.buttonReport z l previous new).containers = s.containers ∧
    (s.buttonReport z l previous new).pending = s.pending := by
  refine ⟨?_, ?_, ?_, ?_, ?_, ?_, ?_, ?_, ?_⟩ <;> (unfold State.buttonReport; repeat' first | with_reducible rfl | split | simp)

@[simp] theorem State.notifyLineFault_frame (s : State) (l : Line) (role : LineRole) (previous : Option LineClass) (new : LineClass) :
    (s.notifyLineFault l role previous new).time = s.time ∧ (s.notifyLineFault l role previous new).loader = s.loader ∧
    (s.notifyLineFault l role previous new).lines = s.lines ∧ (s.notifyLineFault l role previous new).bus = s.bus ∧
    (s.notifyLineFault l role previous new).doors = s.doors ∧ (s.notifyLineFault l role previous new).personnel = s.personnel ∧
    (s.notifyLineFault l role previous new).schedules = s.schedules ∧
    (s.notifyLineFault l role previous new).occupancy = s.occupancy ∧ (s.notifyLineFault l role previous new).zones = s.zones ∧
    (s.notifyLineFault l role previous new).valves = s.valves ∧ (s.notifyLineFault l role previous new).banks = s.banks ∧
    (s.notifyLineFault l role previous new).containers = s.containers ∧
    (s.notifyLineFault l role previous new).alarms = s.alarms ∧ (s.notifyLineFault l role previous new).link = s.link ∧
    (s.notifyLineFault l role previous new).pending = s.pending := by
  refine ⟨?_, ?_, ?_, ?_, ?_, ?_, ?_, ?_, ?_, ?_, ?_, ?_, ?_, ?_, ?_⟩ <;> (unfold State.notifyLineFault; repeat' first | with_reducible rfl | split | simp)

@[simp] theorem State.handReport_frame (s : State) (l : Line) (role : LineRole) (previous : Option LineClass) (new : LineClass) (stamp : Nat) :
    (s.handReport l role previous new stamp).time = s.time ∧ (s.handReport l role previous new stamp).loader = s.loader ∧
    (s.handReport l role previous new stamp).lines = s.lines ∧
    (s.handReport l role previous new stamp).personnel = s.personnel ∧
    (s.handReport l role previous new stamp).schedules = s.schedules ∧
    (s.handReport l role previous new stamp).banks = s.banks ∧
    (s.handReport l role previous new stamp).containers = s.containers ∧
    (s.handReport l role previous new stamp).pending = s.pending := by
  refine ⟨?_, ?_, ?_, ?_, ?_, ?_, ?_, ?_⟩ <;> (unfold State.handReport; repeat' first | with_reducible rfl | split | simp)

@[simp] theorem State.reportScan_frame (s : State) (l : Line) (r : LineRec) (previous : Option LineClass) (stamp : Nat) :
    (s.reportScan l r previous stamp).time = s.time ∧ (s.reportScan l r previous stamp).loader = s.loader ∧
    (s.reportScan l r previous stamp).lines = s.lines ∧ (s.reportScan l r previous stamp).personnel = s.personnel ∧
    (s.reportScan l r previous stamp).schedules = s.schedules ∧ (s.reportScan l r previous stamp).banks = s.banks ∧
    (s.reportScan l r previous stamp).containers = s.containers ∧ (s.reportScan l r previous stamp).pending = s.pending := by
  refine ⟨?_, ?_, ?_, ?_, ?_, ?_, ?_, ?_⟩ <;> (unfold State.reportScan; repeat' first | with_reducible rfl | split | simp)

@[simp] theorem State.scanLine_frame (s : State) (l : Line) (r : LineRec) (code : Byte) :
    (s.scanLine l r code).time = s.time ∧ (s.scanLine l r code).loader = s.loader ∧
    (s.scanLine l r code).personnel = s.personnel ∧ (s.scanLine l r code).schedules = s.schedules ∧
    (s.scanLine l r code).banks = s.banks ∧ (s.scanLine l r code).containers = s.containers ∧
    (s.scanLine l r code).pending = s.pending := by
  refine ⟨?_, ?_, ?_, ?_, ?_, ?_, ?_⟩ <;> (unfold State.scanLine; repeat' first | with_reducible rfl | split | simp)

@[simp] theorem State.notifyModule_frame (s : State) (m : Module) (failure : Option PollFailure) :
    (s.notifyModule m failure).time = s.time ∧ (s.notifyModule m failure).loader = s.loader ∧
    (s.notifyModule m failure).lines = s.lines ∧ (s.notifyModule m failure).bus = s.bus ∧
    (s.notifyModule m failure).doors = s.doors ∧ (s.notifyModule m failure).personnel = s.personnel ∧
    (s.notifyModule m failure).schedules = s.schedules ∧ (s.notifyModule m failure).occupancy = s.occupancy ∧
    (s.notifyModule m failure).zones = s.zones ∧ (s.notifyModule m failure).valves = s.valves ∧
    (s.notifyModule m failure).banks = s.banks ∧ (s.notifyModule m failure).containers = s.containers ∧
    (s.notifyModule m failure).alarms = s.alarms ∧ (s.notifyModule m failure).link = s.link ∧
    (s.notifyModule m failure).pending = s.pending := by
  refine ⟨?_, ?_, ?_, ?_, ?_, ?_, ?_, ?_, ?_, ?_, ?_, ?_, ?_, ?_, ?_⟩ <;> (unfold State.notifyModule; repeat' first | with_reducible rfl | split | simp)

@[simp] theorem State.moduleOffline_frame (s : State) (m : Module) (r : ModuleRec) (failure : PollFailure) :
    (s.moduleOffline m r failure).time = s.time ∧ (s.moduleOffline m r failure).loader = s.loader ∧
    (s.moduleOffline m r failure).lines = s.lines ∧ (s.moduleOffline m r failure).personnel = s.personnel ∧
    (s.moduleOffline m r failure).schedules = s.schedules ∧ (s.moduleOffline m r failure).valves = s.valves ∧
    (s.moduleOffline m r failure).banks = s.banks ∧ (s.moduleOffline m r failure).containers = s.containers ∧
    (s.moduleOffline m r failure).alarms = s.alarms ∧ (s.moduleOffline m r failure).link = s.link ∧
    (s.moduleOffline m r failure).pending = s.pending := by
  refine ⟨?_, ?_, ?_, ?_, ?_, ?_, ?_, ?_, ?_, ?_, ?_⟩ <;> (unfold State.moduleOffline; repeat' first | with_reducible rfl | split | simp)

@[simp] theorem State.countFailure_frame (s : State) (m : Module) (failure : PollFailure) :
    (s.countFailure m failure).time = s.time ∧ (s.countFailure m failure).loader = s.loader ∧
    (s.countFailure m failure).lines = s.lines ∧ (s.countFailure m failure).personnel = s.personnel ∧
    (s.countFailure m failure).schedules = s.schedules ∧ (s.countFailure m failure).valves = s.valves ∧
    (s.countFailure m failure).banks = s.banks ∧ (s.countFailure m failure).containers = s.containers ∧
    (s.countFailure m failure).alarms = s.alarms ∧ (s.countFailure m failure).link = s.link ∧
    (s.countFailure m failure).pending = s.pending := by
  refine ⟨?_, ?_, ?_, ?_, ?_, ?_, ?_, ?_, ?_, ?_, ?_⟩ <;> (unfold State.countFailure; repeat' first | with_reducible rfl | split | simp)

@[simp] theorem State.answerPresence_frame (s : State) (m : Module) (r : ModuleRec) :
    (s.answerPresence m r).time = s.time ∧ (s.answerPresence m r).loader = s.loader ∧ (s.answerPresence m r).lines = s.lines ∧
    (s.answerPresence m r).personnel = s.personnel ∧ (s.answerPresence m r).schedules = s.schedules ∧
    (s.answerPresence m r).occupancy = s.occupancy ∧ (s.answerPresence m r).zones = s.zones ∧
    (s.answerPresence m r).valves = s.valves ∧ (s.answerPresence m r).banks = s.banks ∧
    (s.answerPresence m r).containers = s.containers ∧ (s.answerPresence m r).alarms = s.alarms ∧
    (s.answerPresence m r).link = s.link ∧ (s.answerPresence m r).pending = s.pending := by
  refine ⟨?_, ?_, ?_, ?_, ?_, ?_, ?_, ?_, ?_, ?_, ?_, ?_, ?_⟩ <;> (unfold State.answerPresence; repeat' first | with_reducible rfl | split | simp)

@[simp] theorem State.answerTamper_frame (s : State) (m : Module) (r : ModuleRec) (a : PollAnswer) :
    (s.answerTamper m r a).time = s.time ∧ (s.answerTamper m r a).loader = s.loader ∧ (s.answerTamper m r a).lines = s.lines ∧
    (s.answerTamper m r a).doors = s.doors ∧ (s.answerTamper m r a).personnel = s.personnel ∧
    (s.answerTamper m r a).schedules = s.schedules ∧ (s.answerTamper m r a).occupancy = s.occupancy ∧
    (s.answerTamper m r a).zones = s.zones ∧ (s.answerTamper m r a).valves = s.valves ∧
    (s.answerTamper m r a).banks = s.banks ∧ (s.answerTamper m r a).containers = s.containers ∧
    (s.answerTamper m r a).alarms = s.alarms ∧ (s.answerTamper m r a).link = s.link ∧
    (s.answerTamper m r a).pending = s.pending := by
  refine ⟨?_, ?_, ?_, ?_, ?_, ?_, ?_, ?_, ?_, ?_, ?_, ?_, ?_, ?_⟩ <;> (unfold State.answerTamper; repeat' first | with_reducible rfl | split | simp)

@[simp] theorem State.answerLockFeedback_frame (s : State) (m : Module) (r : ModuleRec) (a : PollAnswer) :
    (s.answerLockFeedback m r a).time = s.time ∧ (s.answerLockFeedback m r a).loader = s.loader ∧
    (s.answerLockFeedback m r a).lines = s.lines ∧ (s.answerLockFeedback m r a).personnel = s.personnel ∧
    (s.answerLockFeedback m r a).schedules = s.schedules ∧ (s.answerLockFeedback m r a).occupancy = s.occupancy ∧
    (s.answerLockFeedback m r a).zones = s.zones ∧ (s.answerLockFeedback m r a).valves = s.valves ∧
    (s.answerLockFeedback m r a).banks = s.banks ∧ (s.answerLockFeedback m r a).containers = s.containers ∧
    (s.answerLockFeedback m r a).alarms = s.alarms ∧ (s.answerLockFeedback m r a).link = s.link ∧
    (s.answerLockFeedback m r a).ports = s.ports ∧ (s.answerLockFeedback m r a).pending = s.pending := by
  refine ⟨?_, ?_, ?_, ?_, ?_, ?_, ?_, ?_, ?_, ?_, ?_, ?_, ?_, ?_⟩ <;> (unfold State.answerLockFeedback; repeat' first | with_reducible rfl | split | simp)

@[simp] theorem State.recoveryDrive_frame (s : State) (m : Module) (d : Door) :
    (s.recoveryDrive m d).time = s.time ∧ (s.recoveryDrive m d).loader = s.loader ∧ (s.recoveryDrive m d).lines = s.lines ∧
    (s.recoveryDrive m d).doors = s.doors ∧ (s.recoveryDrive m d).personnel = s.personnel ∧
    (s.recoveryDrive m d).schedules = s.schedules ∧ (s.recoveryDrive m d).occupancy = s.occupancy ∧
    (s.recoveryDrive m d).zones = s.zones ∧ (s.recoveryDrive m d).valves = s.valves ∧ (s.recoveryDrive m d).banks = s.banks ∧
    (s.recoveryDrive m d).containers = s.containers ∧ (s.recoveryDrive m d).alarms = s.alarms ∧
    (s.recoveryDrive m d).link = s.link ∧ (s.recoveryDrive m d).ports = s.ports ∧ (s.recoveryDrive m d).pending = s.pending := by
  refine ⟨?_, ?_, ?_, ?_, ?_, ?_, ?_, ?_, ?_, ?_, ?_, ?_, ?_, ?_, ?_⟩ <;> (unfold State.recoveryDrive; repeat' first | with_reducible rfl | split | simp)

@[simp] theorem State.answerRecovery_frame (s : State) (m : Module) (r : ModuleRec) (a : PollAnswer) :
    (s.answerRecovery m r a).time = s.time ∧ (s.answerRecovery m r a).loader = s.loader ∧
    (s.answerRecovery m r a).lines = s.lines ∧ (s.answerRecovery m r a).doors = s.doors ∧
    (s.answerRecovery m r a).personnel = s.personnel ∧ (s.answerRecovery m r a).schedules = s.schedules ∧
    (s.answerRecovery m r a).occupancy = s.occupancy ∧ (s.answerRecovery m r a).zones = s.zones ∧
    (s.answerRecovery m r a).valves = s.valves ∧ (s.answerRecovery m r a).banks = s.banks ∧
    (s.answerRecovery m r a).containers = s.containers ∧ (s.answerRecovery m r a).alarms = s.alarms ∧
    (s.answerRecovery m r a).link = s.link ∧ (s.answerRecovery m r a).ports = s.ports ∧
    (s.answerRecovery m r a).pending = s.pending := by
  refine ⟨?_, ?_, ?_, ?_, ?_, ?_, ?_, ?_, ?_, ?_, ?_, ?_, ?_, ?_, ?_⟩ <;> (unfold State.answerRecovery; repeat' first | with_reducible rfl | split | simp)

@[simp] theorem State.answerEvent_frame (s : State) (m : Module) (r : ModuleRec) (a : PollAnswer) :
    (s.answerEvent m r a).time = s.time ∧ (s.answerEvent m r a).loader = s.loader ∧ (s.answerEvent m r a).lines = s.lines ∧
    (s.answerEvent m r a).personnel = s.personnel ∧ (s.answerEvent m r a).schedules = s.schedules ∧
    (s.answerEvent m r a).valves = s.valves ∧ (s.answerEvent m r a).banks = s.banks ∧
    (s.answerEvent m r a).containers = s.containers ∧ (s.answerEvent m r a).pending = s.pending := by
  refine ⟨?_, ?_, ?_, ?_, ?_, ?_, ?_, ?_, ?_⟩ <;> (unfold State.answerEvent; repeat' first | with_reducible rfl | split | simp)

@[simp] theorem State.goodAnswer_frame (s : State) (m : Module) (a : PollAnswer) :
    (s.goodAnswer m a).time = s.time ∧ (s.goodAnswer m a).loader = s.loader ∧ (s.goodAnswer m a).lines = s.lines ∧
    (s.goodAnswer m a).personnel = s.personnel ∧ (s.goodAnswer m a).schedules = s.schedules ∧
    (s.goodAnswer m a).valves = s.valves ∧ (s.goodAnswer m a).banks = s.banks ∧ (s.goodAnswer m a).containers = s.containers ∧
    (s.goodAnswer m a).pending = s.pending := by
  refine ⟨?_, ?_, ?_, ?_, ?_, ?_, ?_, ?_, ?_⟩ <;> (unfold State.goodAnswer; repeat' first | with_reducible rfl | split | simp)

@[simp] theorem State.endPoll_frame (s : State) (m : Module) (answer : Option PollAnswer) :
    (s.endPoll m answer).time = s.time ∧ (s.endPoll m answer).loader = s.loader ∧ (s.endPoll m answer).lines = s.lines ∧
    (s.endPoll m answer).personnel = s.personnel ∧ (s.endPoll m answer).schedules = s.schedules ∧
    (s.endPoll m answer).valves = s.valves ∧ (s.endPoll m answer).banks = s.banks ∧
    (s.endPoll m answer).containers = s.containers ∧ (s.endPoll m answer).pending = s.pending := by
  refine ⟨?_, ?_, ?_, ?_, ?_, ?_, ?_, ?_, ?_⟩ <;> (unfold State.endPoll; repeat' first | with_reducible rfl | split | simp)

@[simp] theorem State.refreshBank_frame (s : State) (bank : Bank) :
    (s.refreshBank bank).time = s.time ∧ (s.refreshBank bank).loader = s.loader ∧ (s.refreshBank bank).lines = s.lines ∧
    (s.refreshBank bank).bus = s.bus ∧ (s.refreshBank bank).doors = s.doors ∧ (s.refreshBank bank).personnel = s.personnel ∧
    (s.refreshBank bank).schedules = s.schedules ∧ (s.refreshBank bank).occupancy = s.occupancy ∧
    (s.refreshBank bank).valves = s.valves ∧ (s.refreshBank bank).containers = s.containers ∧
    (s.refreshBank bank).alarms = s.alarms ∧ (s.refreshBank bank).link = s.link ∧ (s.refreshBank bank).pending = s.pending := by
  simp only [State.refreshBank]
  split
  · simp
  · refine ⟨?_, ?_, ?_, ?_, ?_, ?_, ?_, ?_, ?_, ?_, ?_, ?_, ?_⟩
    · rw [State.forEach_time]
      · simp
      · intro a t; rfl
    · rw [State.forEach_loader]
      · simp
      · intro a t; rfl
    · rw [State.forEach_lines]
      · simp
      · intro a t; rfl
    · rw [State.forEach_bus]
      · simp
      · intro a t; rfl
    · rw [State.forEach_doors]
      · simp
      · intro a t; rfl
    · rw [State.forEach_personnel]
      · simp
      · intro a t; rfl
    · rw [State.forEach_schedules]
      · simp
      · intro a t; rfl
    · rw [State.forEach_occupancy]
      · simp
      · intro a t; rfl
    · rw [State.forEach_valves]
      · simp
      · intro a t; rfl
    · rw [State.forEach_containers]
      · simp
      · intro a t; rfl
    · rw [State.forEach_alarms]
      · simp
      · intro a t; rfl
    · rw [State.forEach_link]
      · simp
      · intro a t; rfl
    · rw [State.forEach_pending]
      · simp
      · intro a t; rfl

@[simp] theorem State.settleContainer_frame (s : State) (c : Container) (previous : ContainerState) (r : ContainerRec) :
    (s.settleContainer c previous r).time = s.time ∧ (s.settleContainer c previous r).loader = s.loader ∧
    (s.settleContainer c previous r).lines = s.lines ∧ (s.settleContainer c previous r).bus = s.bus ∧
    (s.settleContainer c previous r).doors = s.doors ∧ (s.settleContainer c previous r).personnel = s.personnel ∧
    (s.settleContainer c previous r).schedules = s.schedules ∧ (s.settleContainer c previous r).occupancy = s.occupancy ∧
    (s.settleContainer c previous r).valves = s.valves ∧ (s.settleContainer c previous r).alarms = s.alarms ∧
    (s.settleContainer c previous r).link = s.link ∧ (s.settleContainer c previous r).pending = s.pending := by
  refine ⟨?_, ?_, ?_, ?_, ?_, ?_, ?_, ?_, ?_, ?_, ?_, ?_⟩ <;> (unfold State.settleContainer; repeat' first | with_reducible rfl | split | simp)

@[simp] theorem State.handleTelegram_frame (s : State) (kind : PendantKind) (id : Nat) :
    (s.handleTelegram kind id).time = s.time ∧ (s.handleTelegram kind id).loader = s.loader ∧
    (s.handleTelegram kind id).lines = s.lines ∧ (s.handleTelegram kind id).personnel = s.personnel ∧
    (s.handleTelegram kind id).schedules = s.schedules ∧ (s.handleTelegram kind id).valves = s.valves ∧
    (s.handleTelegram kind id).banks = s.banks ∧ (s.handleTelegram kind id).containers = s.containers ∧
    (s.handleTelegram kind id).pending = s.pending := by
  refine ⟨?_, ?_, ?_, ?_, ?_, ?_, ?_, ?_, ?_⟩ <;> (unfold State.handleTelegram; repeat' first | with_reducible rfl | split | simp)

@[simp] theorem State.takeTelegram_frame (s : State) (telegram : List Byte) :
    (s.takeTelegram telegram).time = s.time ∧ (s.takeTelegram telegram).loader = s.loader ∧
    (s.takeTelegram telegram).lines = s.lines ∧ (s.takeTelegram telegram).personnel = s.personnel ∧
    (s.takeTelegram telegram).schedules = s.schedules ∧ (s.takeTelegram telegram).valves = s.valves ∧
    (s.takeTelegram telegram).banks = s.banks ∧ (s.takeTelegram telegram).containers = s.containers ∧
    (s.takeTelegram telegram).pending = s.pending := by
  refine ⟨?_, ?_, ?_, ?_, ?_, ?_, ?_, ?_, ?_⟩ <;> (unfold State.takeTelegram; repeat' first | with_reducible rfl | split | simp)

@[simp] theorem State.serveSlot_frame (s : State) (z : Zone) :
    (s.serveSlot z).time = s.time ∧ (s.serveSlot z).loader = s.loader ∧ (s.serveSlot z).lines = s.lines ∧
    (s.serveSlot z).bus = s.bus ∧ (s.serveSlot z).doors = s.doors ∧ (s.serveSlot z).personnel = s.personnel ∧
    (s.serveSlot z).schedules = s.schedules ∧ (s.serveSlot z).occupancy = s.occupancy ∧ (s.serveSlot z).zones = s.zones ∧
    (s.serveSlot z).valves = s.valves ∧ (s.serveSlot z).banks = s.banks ∧ (s.serveSlot z).containers = s.containers ∧
    (s.serveSlot z).alarms = s.alarms ∧ (s.serveSlot z).ports = s.ports ∧ (s.serveSlot z).pending = s.pending := by
  refine ⟨?_, ?_, ?_, ?_, ?_, ?_, ?_, ?_, ?_, ?_, ?_, ?_, ?_, ?_, ?_⟩ <;> (unfold State.serveSlot; repeat' first | with_reducible rfl | split)

@[simp] theorem State.takeBoundary_frame (s : State) :
    (s.takeBoundary).time = s.time ∧ (s.takeBoundary).loader = s.loader ∧ (s.takeBoundary).lines = s.lines ∧
    (s.takeBoundary).bus = s.bus ∧ (s.takeBoundary).doors = s.doors ∧ (s.takeBoundary).personnel = s.personnel ∧
    (s.takeBoundary).schedules = s.schedules ∧ (s.takeBoundary).occupancy = s.occupancy ∧ (s.takeBoundary).zones = s.zones ∧
    (s.takeBoundary).valves = s.valves ∧ (s.takeBoundary).banks = s.banks ∧ (s.takeBoundary).containers = s.containers ∧
    (s.takeBoundary).alarms = s.alarms ∧ (s.takeBoundary).ports = s.ports ∧ (s.takeBoundary).pending = s.pending := by
  refine ⟨?_, ?_, ?_, ?_, ?_, ?_, ?_, ?_, ?_, ?_, ?_, ?_, ?_, ?_, ?_⟩ <;>
    (unfold State.takeBoundary State.quietBoundary State.returnToService State.fallQuiet; repeat' first | with_reducible rfl | split | simp)

@[simp] theorem State.tickCountdowns_frame (s : State) :
    (s.tickCountdowns).time = s.time ∧ (s.tickCountdowns).loader = s.loader ∧ (s.tickCountdowns).lines = s.lines ∧
    (s.tickCountdowns).personnel = s.personnel ∧ (s.tickCountdowns).schedules = s.schedules ∧
    (s.tickCountdowns).containers = s.containers ∧ (s.tickCountdowns).alarms = s.alarms ∧
    (s.tickCountdowns).pending = s.pending := by
  refine ⟨?_, ?_, ?_, ?_, ?_, ?_, ?_, ?_⟩ <;> (unfold State.tickCountdowns; repeat' first | with_reducible rfl | split | simp)


/-! ## Requests -/

@[simp] theorem State.retestPerson_frame (s : State) (index : Nat) (old : Option PersonRec) (new : PersonRec) :
    (s.retestPerson index old new).time = s.time ∧ (s.retestPerson index old new).loader = s.loader ∧
    (s.retestPerson index old new).lines = s.lines ∧ (s.retestPerson index old new).bus = s.bus ∧
    (s.retestPerson index old new).doors = s.doors ∧ (s.retestPerson index old new).personnel = s.personnel ∧
    (s.retestPerson index old new).schedules = s.schedules ∧ (s.retestPerson index old new).zones = s.zones ∧
    (s.retestPerson index old new).valves = s.valves ∧ (s.retestPerson index old new).banks = s.banks ∧
    (s.retestPerson index old new).containers = s.containers ∧ (s.retestPerson index old new).link = s.link ∧
    (s.retestPerson index old new).pending = s.pending := by
  refine ⟨?_, ?_, ?_, ?_, ?_, ?_, ?_, ?_, ?_, ?_, ?_, ?_, ?_⟩ <;> (unfold State.retestPerson; repeat' first | with_reducible rfl | split | simp)

@[simp] theorem State.writePerson_frame (s : State) (index : Nat) (r : PersonRec) :
    (s.writePerson index r).time = s.time ∧ (s.writePerson index r).loader = s.loader ∧
    (s.writePerson index r).lines = s.lines ∧ (s.writePerson index r).bus = s.bus ∧ (s.writePerson index r).doors = s.doors ∧
    (s.writePerson index r).schedules = s.schedules ∧ (s.writePerson index r).zones = s.zones ∧
    (s.writePerson index r).valves = s.valves ∧ (s.writePerson index r).banks = s.banks ∧
    (s.writePerson index r).containers = s.containers ∧ (s.writePerson index r).link = s.link ∧
    (s.writePerson index r).pending = s.pending := by
  refine ⟨?_, ?_, ?_, ?_, ?_, ?_, ?_, ?_, ?_, ?_, ?_, ?_⟩ <;> (unfold State.writePerson; repeat' first | with_reducible rfl | split | simp)

@[simp] theorem State.deletePerson_frame (s : State) (index : Nat) :
    (s.deletePerson index).time = s.time ∧ (s.deletePerson index).loader = s.loader ∧ (s.deletePerson index).lines = s.lines ∧
    (s.deletePerson index).schedules = s.schedules ∧ (s.deletePerson index).valves = s.valves ∧
    (s.deletePerson index).banks = s.banks ∧ (s.deletePerson index).containers = s.containers ∧
    (s.deletePerson index).pending = s.pending := by
  refine ⟨?_, ?_, ?_, ?_, ?_, ?_, ?_, ?_⟩ <;> (unfold State.deletePerson; repeat' first | with_reducible rfl | split | simp)

end Sys2Proof.Machine
end

