-- ==== Sys2Proof/Laws/Ports.lean ====
section
/-! SUPPORT. What the queuing of notices and the answering of requests do to the ports, said once. -/

namespace Sys2Proof.Machine

/-- Each port has its own place. -/
@[simp] theorem portIndex_inj {p q : Port} : portIndex p = portIndex q ↔ p = q := by cases p <;> cases q <;> decide

/-- Each port has its own place, by its number. -/
@[simp] theorem portIndex_val_inj {p q : Port} : (portIndex p).val = (portIndex q).val ↔ p = q := by
  cases p <;> cases q <;> decide

/-- The port records after a change of one of them. -/
theorem State.updPort_get (s : State) (p q : Port) (f : PortRec → PortRec) :
    (s.updPort p f).ports[(portIndex q).val] = if q = p then f s.ports[(portIndex q).val] else s.ports[(portIndex q).val] := by
  unfold State.updPort
  by_cases h : q = p
  · subst h; simp
  · simp [h, Ne.symm h]

/-- Tables of ports that agree at every port are equal. -/
theorem ports_ext {t u : Tab PortRec 3} (h : ∀ q : Port, t[portIndex q] = u[portIndex q]) : t = u := by
  ext i hi
  have : i = 0 ∨ i = 1 ∨ i = 2 := by omega
  rcases this with rfl | rfl | rfl
  · exact h .access
  · exact h .suppression
  · exact h .console

/-- No notice. -/
@[simp] theorem PortRec.gains_nil (r : PortRec) (s : State) (q : Port) : r.gains s q [] = r := rfl

/-- Some notices and then others are all of them. -/
theorem PortRec.gains_append (r : PortRec) (s : State) (q : Port) (b l : List NoticeBody) :
    (r.gains s q b).gains s q l = r.gains s q (b ++ l) := by simp [PortRec.gains]

/-- A notice's stamp depends on the time alone. -/
theorem PortRec.gains_time (r : PortRec) {s t : State} (h : t.time = s.time) (q : Port) (l : List NoticeBody) :
    r.gains t q l = r.gains s q l := by simp [PortRec.gains, State.stampNotice, State.nowSec, h]

/-- R187: a notice joins the queue of each of its ports, and no other port changes. -/
theorem State.notify_get (s : State) (body : NoticeBody) (q : Port) :
    (s.notify body).ports[portIndex q] = (s.ports[portIndex q]).gains s q [body] := by
  have key (ps : List Port) (h : ps.Nodup) (t : State) (n : Notice) :
      (t.forEach ps fun p u => u.updPort p (·.enqueue n)).ports[(portIndex q).val] =
        if q ∈ ps then t.ports[(portIndex q).val].enqueue n else t.ports[(portIndex q).val] := by
    induction ps generalizing t with
    | nil => simp [State.forEach]
    | cons p ps ih =>
      have := ih (List.nodup_cons.mp h).2 (t.updPort p (·.enqueue n))
      simp only [State.forEach, List.foldl_cons] at this ⊢
      rw [this]
      by_cases hq : q = p
      · subst hq; simp [(List.nodup_cons.mp h).1]
      · simp [hq, Ne.symm hq]
  have := key body.ports (by cases body <;> simp [NoticeBody.ports]) s (s.stampNotice body)
  simp only [State.notify, PortRec.gains]
  by_cases hq : q ∈ body.ports <;> simp_all

/-- States that agree in every field are equal. -/
theorem State.ext_fields {s t : State} (h1 : s.time = t.time) (h2 : s.loader = t.loader) (h3 : s.lines = t.lines)
    (h4 : s.bus = t.bus) (h5 : s.doors = t.doors) (h6 : s.personnel = t.personnel) (h7 : s.schedules = t.schedules)
    (h8 : s.occupancy = t.occupancy) (h9 : s.zones = t.zones) (h10 : s.valves = t.valves) (h11 : s.banks = t.banks)
    (h12 : s.containers = t.containers) (h13 : s.alarms = t.alarms) (h14 : s.link = t.link) (h15 : s.ports = t.ports)
    (h16 : s.pending = t.pending) : s = t := by
  cases s; cases t; simp_all

/-- R182, R183: what taking a request that is to be decided comes to. -/
theorem State.takeRequest_ready {s : State} {p : Port} {b code : Byte} {f : Frame} (h : RequestReady s p b code f) (early : Bool)
    (rights : Rights) (decide : Decide) (hr : rights.allow p = true) :
    s.takeRequest p b code early rights decide = s.answerFrame p f fun t => decide t p f.payload := by
  obtain ⟨h1, h2, h3, h4⟩ := h
  have h1' : ∀ t : State, t.loader = s.loader → t.isRunning = true := fun t ht => by
    simpa [State.isRunning, ht] using h1
  simp only [State.takeRequest, h2, h3, h4, Bool.not_true, Bool.false_eq_true, if_false, if_true]
  unfold State.answerFrame State.checkRequest
  have h5 : (s.updPort p fun x => { x with rx := .hunt }).isRunning = true := h1' _ (by simp)
  simp only [h5, hr, Bool.not_true, Bool.false_and, Bool.false_eq_true, if_false]

end Sys2Proof.Machine
end

