-- ==== Sys2Proof/Laws/Occupancy.lean ====
section
/-! SUPPORT. What finding a check-in warning afresh, re-testing a lone condition and ending an alarm's condition come to, said once. -/

namespace Sys2Proof.Machine

/-! ## Check-in warnings and panels -/

/-- R170: the panel of a configured zone is handed what its zone now shows. -/
theorem State.refreshPanel_link (s : State) (z : Zone) (r : ZoneRec) (h : s.zones[z] = some r) :
    (s.refreshPanel z).link = s.link.shows z r (s.alarms.displayFlag z) s.occupancy.warning[z] := by
  simp only [Fin.getElem_fin] at h
  simp [State.refreshPanel, h, Link.shows]

/-- R88: a zone's warning is found afresh, and nothing else of the occupancy changes. -/
theorem State.refreshWarning_occupancy (s : State) (z : Zone) :
    (s.refreshWarning z).occupancy = { s.occupancy with warning := s.occupancy.warning.put z (s.warningDue z) } := by
  simp [State.refreshWarning]

/-- R88: what the warning of a zone asks. -/
theorem State.warningDue_iff (s : State) (z : Zone) :
    s.warningDue z = true ↔ ∃ e ∈ s.occupancy.entries, e.zone = z ∧ ∃ due, e.deadline = some due ∧ due ≤ s.nowSec + 60 := by
  simp [State.warningDue, Occupancy.entriesIn, Option.any_eq_true]

/-- R88: all that finding a zone's warning afresh does to the warnings. -/
theorem State.refreshWarning_follows (s : State) (z : Zone) : WarningsFollow s (s.refreshWarning z) (· = z) := by
  intro y
  constructor
  · intro h
    have : ¬z.val = y.val := fun e => h (Fin.ext e.symm)
    simp [State.refreshWarning_occupancy, this]
  · rintro rfl
    simpa [State.refreshWarning_occupancy, State.nowSec] using s.warningDue_iff y

/-! ## The lone-occupant timer -/

/-- R89: the lone person of a zone in the lone condition. -/
theorem State.lonePerson_iff (s : State) (z : Zone) (p : Person) : s.lonePerson z = some p ↔ s.loneIn z p := by
  unfold State.lonePerson State.loneIn
  rcases hz : s.zones[z] with _ | r
  · simp
  · rcases he : s.occupancy.entriesIn z with _ | ⟨e, _ | ⟨_, _⟩⟩ <;> simp
    have : (s.personAt e.person).any (·.lonePermitted) = false ↔
        ∀ who, s.personAt e.person = some who → who.lonePermitted = false := by
      cases s.personAt e.person <;> simp
    rw [this]
    constructor
    · rintro ⟨⟨⟨h1, h2⟩, h3⟩, rfl⟩
      exact ⟨h1, h2, rfl, h3⟩
    · rintro ⟨h1, h2, rfl, h3⟩
      exact ⟨⟨⟨h1, h2⟩, h3⟩, rfl⟩

/-- R89: a timer records the person it names. -/
theorem LoneTimer.records_iff (t : LoneTimer) (p : Person) : t.records p ↔ t.person? = some p := by
  cases t <;> simp [LoneTimer.records, LoneTimer.person?]

/-- R89: the condition of a recorded person ends, which leaves the occupancy alone. -/
@[simp] theorem State.loneGone_occupancy (s : State) (p : Option Person) : (s.loneGone p).occupancy = s.occupancy := by
  cases p <;> simp [State.loneGone]

/-- R89: all that re-testing a zone's lone condition does to the timers. -/
theorem State.retestLone_follows (s : State) (z : Zone) : LoneFollows s (s.retestLone z) (· = z) := by
  have hz : (s.retestLone z).zones = s.zones := by simp
  have he : (s.retestLone z).occupancy.entries = s.occupancy.entries := by
    simp only [State.retestLone]
    repeat' split
    all_goals simp [State.setLone]
  have lone (y : Zone) (p : Person) : (s.retestLone z).loneIn y p ↔ s.loneIn y p := by
    simp [State.loneIn, Occupancy.entriesIn, State.personAt, he]
  have now : (s.retestLone z).nowSec = s.nowSec := by simp [State.nowSec]
  intro y
  refine ⟨fun h => ?_, ?_⟩
  · have : ¬z.val = y.val := fun e => h (Fin.ext e.symm)
    unfold State.retestLone
    cases s.lonePerson z with
    | none => simp [State.setLone, this]
    | some p => simp only; split_ifs <;> simp [State.setLone, this]
  · rintro rfl
    simp only [lone, ← State.lonePerson_iff, LoneTimer.records_iff, hz, now]
    refine ⟨fun p h e => ?_, fun p r h e hr => ?_, fun h => ?_⟩
    · simp only [Fin.getElem_fin] at e
      simp [State.retestLone, h, e]
    · simp only [Fin.getElem_fin] at e hr
      simp [State.retestLone, h, e, State.setLone, hr]
    · have : s.lonePerson y = none := Option.eq_none_iff_forall_ne_some.mpr h
      simp [State.retestLone, this, State.setLone]

/-! ## Conditions -/

/-- R159, R160: the cause of an alarm ends: all it does. -/
theorem State.conditionGone_ends (s : State) (kind : AlarmKind) (source : AlarmSource) (h : AlarmListSound s) :
    ConditionEnds s (s.conditionGone kind source) kind source := by
  obtain ⟨-, hd, -, -, hn⟩ := h
  let ends (r : AlarmRec) : Bool := r.kind = kind && r.source = source && r.condition
  have hends (r : AlarmRec) : ends r = true ↔ r.kind = kind ∧ r.source = source ∧ r.condition = true := by
    simp [ends, and_assoc]
  refine ⟨fun h => ?_, fun r hr he => ?_⟩
  · have : s.alarms.records.find? ends = none := by
      rw [List.find?_eq_none]; intro r hr e; exact h r hr ((hends r).mp e)
    simp only [State.conditionGone]
    rw [this]
  · obtain ⟨front, back, split⟩ := List.append_of_mem hr
    rw [split, List.pairwise_append, List.pairwise_cons] at hd
    have one : ∀ x ∈ s.alarms.records, x ≠ r → x.number ≠ r.number ∧ ¬(x.kind = r.kind ∧ x.source = r.source) := by
      intro x hx hne
      rw [split, List.mem_append, List.mem_cons] at hx
      rcases hx with hx | rfl | hx
      · exact hd.2.2 x hx r List.mem_cons_self
      · exact absurd rfl hne
      · have := hd.2.1.1 x hx
        exact ⟨this.1.symm, fun e => this.2 ⟨e.1.symm, e.2.symm⟩⟩
    have found : s.alarms.records.find? ends = some r := by
      rw [split, List.find?_append, List.find?_cons_of_pos ((hends r).mpr he), List.find?_eq_none.mpr, Option.none_or]
      intro x hx e
      have hx' := hd.2.2 x hx r List.mem_cons_self
      have := (hends x).mp e
      exact hx'.2 ⟨this.1.trans he.1.symm, this.2.1.trans he.2.1.symm⟩
    let gone : AlarmRec := { r with condition := false }
    have replaced : (s.alarms.replace gone).records = s.alarms.records.map fun x => if x = r then gone else x := by
      refine List.map_congr_left fun x hx => ?_
      by_cases e : x = r
      · simp [e, gone]
      · simp [e, gone, (one x hx e).1]
    have become : s.conditionGone kind source =
        ((s.updAlarms (·.replace gone)).notifyChanged gone .conditionGone).settleNotRecorded := by
      simp only [State.conditionGone]
      rw [found]
    have alarms : (s.conditionGone kind source).alarms =
        { s.alarms with
          records := s.alarms.records.map fun x => if x = r then gone else x,
          notRecorded := s.alarms.notRecorded && !(s.conditionGone kind source).alarms.hasRoom } := by
      rw [become, ← replaced]
      simp [State.settleNotRecorded, State.notifyChanged, Alarms.hasRoom, Alarms.replace]
    refine ⟨?_, fun q => ?_⟩
    · rw [← alarms]
      apply State.ext_fields <;> simp
    · rw [become]
      have := State.notify_get (s.updAlarms (·.replace gone))
        (.alarmChanged gone.number gone.kind gone.source gone.zone .conditionGone gone.acknowledged gone.condition gone.lastSeen
          ((s.updAlarms (·.replace gone)).sourceZone gone.source)) q
      have zone : (s.updAlarms (·.replace gone)).sourceZone r.source = s.sourceZone r.source := by cases r.source <;> rfl
      simp only [State.settleNotRecorded, State.notifyChanged, State.updAlarms_ports] at this ⊢
      rw [this, ← he.1, ← he.2.1, ← zone]
      rfl

end Sys2Proof.Machine
end

