-- ==== Sys2Proof/Laws/Panels.lean ====
section
/-! SUPPORT. The cadence of a panel: what taking its steps comes to, said once. -/

namespace Sys2Proof.Machine

/-- R173: where execution reaches a timed step after `k` steps that are not timed, taking steps with more than that to spend gives its sound and
the run after it. -/
theorem takeStep_of_reaches {steps : List CadenceStep} {k position : Nat} {stack : List (Nat × Nat)} {sound : Bool}
    {run : CadenceRun} (h : CadenceReaches steps k position stack sound run) (fuel : Nat) :
    takeStep steps (k + 1 + fuel) position stack = some (sound, run) := by
  induction h with
  | on at_ => rw [show 0 + 1 + fuel = fuel + 1 by omega]; simp [takeStep, at_]
  | off at_ => rw [show 0 + 1 + fuel = fuel + 1 by omega]; simp [takeStep, at_]
  | @wrap k _ _ _ _ at_ _ ih => rw [show k + 1 + 1 + fuel = k + 1 + fuel + 1 by omega]; simp [takeStep, at_, ih]
  | @repeatBlock k _ _ _ _ _ at_ _ ih => rw [show k + 1 + 1 + fuel = k + 1 + fuel + 1 by omega]; simp [takeStep, at_, ih]
  | @endAgain k _ _ _ _ _ _ at_ more _ ih =>
    rw [show k + 1 + 1 + fuel = k + 1 + fuel + 1 by omega]; simp [takeStep, at_, more, ih]
  | @endPass k _ _ _ _ _ _ at_ last _ ih =>
    rw [show k + 1 + 1 + fuel = k + 1 + fuel + 1 by omega]; simp [takeStep, at_, Nat.not_lt.mpr last, ih]

end Sys2Proof.Machine
end

