-- ==== Sys2Proof/Laws/Timebase.lean ====
section
/-! SUPPORT. The Timebase at the end of a load: what its accumulator has come to, said once. -/

namespace Sys2Proof.Machine

/-- R194: the cycles that add the old K until a load ends carry nothing out of the accumulator. -/
theorem Timebase.oldCycles_no_carry (t : Timebase) : t.acc.toNat + t.oldCycles * t.k < 4294967296 := by
  have ha : t.acc.toNat < 4294967296 := t.acc.isLt
  have hc : t.oldCycles ≤ (4294967295 - t.acc.toNat) / t.k := Nat.le_of_lt_succ (Nat.mod_lt _ (Nat.succ_pos _))
  have hm := Nat.mul_le_mul_right t.k hc
  have hd := Nat.div_mul_le_self (4294967295 - t.acc.toNat) t.k
  omega

/-- R194: all that the end of a load does to the Timebase: the accumulator has added the old K on some cycles without a carry, and K and f_ref
are those of the load. -/
theorem Timebase.endLoad_adds (t : Timebase) (f : Nat) :
    ∃ cycles, t.acc.toNat + cycles * t.k < 4294967296 ∧ (t.endLoad f).acc.toNat = t.acc.toNat + cycles * t.k ∧
      t.endLoad f =
        { t with
          acc := BitVec.ofNat 32 (t.acc.toNat + cycles * t.k), k := incrementFor f, fRef := f,
          loadsEnded := t.loadsEnded + 1 } :=
  ⟨t.oldCycles, t.oldCycles_no_carry, Nat.mod_eq_of_lt t.oldCycles_no_carry, rfl⟩

/-- The end of a load leaves the counts since reset and the time-of-day as they are. -/
@[simp] theorem Timebase.endLoad_ms (t : Timebase) (f : Nat) : (t.endLoad f).ms = t.ms := rfl
@[simp] theorem Timebase.endLoad_sec (t : Timebase) (f : Nat) : (t.endLoad f).sec = t.sec := rfl
@[simp] theorem Timebase.endLoad_dsDue (t : Timebase) (f : Nat) : (t.endLoad f).dsDue = t.dsDue := rfl
@[simp] theorem Timebase.endLoad_secDue (t : Timebase) (f : Nat) : (t.endLoad f).secDue = t.secDue := rfl
@[simp] theorem Timebase.endLoad_tod (t : Timebase) (f : Nat) : (t.endLoad f).tod = t.tod := rfl
@[simp] theorem Timebase.endLoad_todMs (t : Timebase) (f : Nat) : (t.endLoad f).todMs = t.todMs := rfl
@[simp] theorem Timebase.endLoad_k (t : Timebase) (f : Nat) : (t.endLoad f).k = incrementFor f := rfl
@[simp] theorem Timebase.endLoad_fRef (t : Timebase) (f : Nat) : (t.endLoad f).fRef = f := rfl
@[simp] theorem Timebase.endLoad_loadsEnded (t : Timebase) (f : Nat) : (t.endLoad f).loadsEnded = t.loadsEnded + 1 := rfl

end Sys2Proof.Machine
end

