-- ==== Sys2Proof/Laws/Valves.lean ====
section
/-! SUPPORT. What switching a valve output, its checks and its path fault come to, said once. -/

namespace Sys2Proof.Machine

/-- Each zone has its own selector. -/
@[simp] theorem selectorOf_inj {y z : Zone} : selectorOf y = selectorOf z ↔ y = z := by
  simp [selectorOf, Fin.ext_iff]

/-- A selector is no main valve. -/
@[simp] theorem selectorOf_ne_mainValveOf (z : Zone) (bank : Bank) : selectorOf z ≠ mainValveOf bank := by
  revert z; cases bank <;> decide

/-- A main valve is no selector. -/
@[simp] theorem mainValveOf_ne_selectorOf (z : Zone) (bank : Bank) : mainValveOf bank ≠ selectorOf z :=
  (selectorOf_ne_mainValveOf z bank).symm

/-- Each bank has its own main valve. -/
@[simp] theorem mainValveOf_inj {a b : Bank} : mainValveOf a = mainValveOf b ↔ a = b := by
  cases a <;> cases b <;> decide

/-- The zone of a selector. -/
@[simp] theorem selectorZone_selectorOf (z : Zone) : selectorZone (selectorOf z) = some z := by
  revert z; decide

/-- A main valve serves no single zone. -/
@[simp] theorem selectorZone_mainValveOf (bank : Bank) : selectorZone (mainValveOf bank) = none := by
  cases bank <;> decide

/-- The bank of a main valve. -/
@[simp] theorem mainValveBank_mainValveOf (bank : Bank) : mainValveBank (mainValveOf bank) = some bank := by
  cases bank <;> decide

/-- Every output is a selector or a main valve. -/
theorem output_cases (o : Output) : (∃ z, o = selectorOf z) ∨ ∃ bank, o = mainValveOf bank := by
  have h : ∀ o : Output, (∃ z : Zone, o = selectorOf z) ∨ o = mainValveOf .bankA ∨ o = mainValveOf .bankB := by decide
  exact (h o).imp id fun h => h.elim (fun h => ⟨_, h⟩) fun h => ⟨_, h⟩

/-- R116: what handing over the presence of a path fault does to the zone records. -/
theorem State.handPathFault_zones (s : State) (o : Output) (present : Bool) (z : Zone) :
    (s.handPathFault o present).zones[z] = (s.zones[z]).map fun y =>
      if o = selectorOf z then { y with selectorFault := present }
      else if o = mainValveOf y.cfg.bank then { y with mainFault := present }
      else y := by
  rcases output_cases o with ⟨x, rfl⟩ | ⟨bank, rfl⟩
  · by_cases h : x = z
    · subst h
      simp [State.handPathFault]
    · have : ¬x.val = z.val := fun e => h (Fin.ext e)
      simp [State.handPathFault, h, this]
  · have key : ∀ (l : List Zone) (t : State), l.Nodup →
        (t.forEach l fun z u => u.updZone z fun r =>
          if mainValveBank (mainValveOf bank) = some r.cfg.bank then { r with mainFault := present } else r).zones[z] =
        (t.zones[z]).map fun y => if z ∈ l ∧ bank = y.cfg.bank then { y with mainFault := present } else y := by
      intro l
      induction l with
      | nil => intro t _; simp [State.forEach]
      | cons a l ih =>
        intro t hl
        have := ih (t.updZone a fun r =>
          if mainValveBank (mainValveOf bank) = some r.cfg.bank then { r with mainFault := present } else r)
          (List.nodup_cons.mp hl).2
        simp only [State.forEach, List.foldl_cons] at this ⊢
        rw [this]
        by_cases h : a = z
        · subst h
          have : a ∉ l := (List.nodup_cons.mp hl).1
          simp [this]
          rfl
        · have h' : ¬a.val = z.val := fun e => h (Fin.ext e)
          simp [h', Ne.symm h]
    have := key (List.finRange 8) s (List.nodup_finRange 8)
    simp only [State.handPathFault, selectorZone_mainValveOf]
    rw [this]
    simp

/-- R116, R130: an output's record changes but for its path fault, which is then set to another or removed: all it does. -/
theorem State.setPathFault_becomes (s : State) (o : Output) (f : OutputRec → OutputRec) (fault : Option PathFault) (edge : Option Nat)
    (hf : (f s.valves.outputs[o]).fault = (s.valves.outputs[o]).fault) :
    OutputBecomes s ((s.updOutput o f).setPathFault o fault edge) o { f s.valves.outputs[o] with fault := fault } s.valves.tests edge
      [] := by
  simp only [Fin.getElem_fin] at hf
  by_cases h : fault = (s.valves.outputs[o]).fault
  · have e : { f s.valves.outputs[o] with fault := fault } = f s.valves.outputs[o] := by
      rw [h]; cases hx : f s.valves.outputs[o]; simp_all
    rw [e]
    have e' : (s.updOutput o f).setPathFault o fault edge = s.updOutput o f := by
      simp only [Fin.getElem_fin] at h
      simp [State.setPathFault, hf, h]
    rw [e']
    refine ⟨State.ext_fields rfl rfl rfl rfl rfl rfl rfl rfl rfl rfl rfl rfl rfl rfl rfl rfl, fun _ => rfl, fun n => absurd (by simpa using hf) n, ?_⟩
    intro q
    simp [faultTold, hf]
  · simp only [Fin.getElem_fin] at h
    have e' : (s.updOutput o f).setPathFault o fault edge =
        (((s.updOutput o f).updOutput o fun x => { x with fault := fault }).notify
          (.releasePathFault o fault (s.valves.outputs[o]).fault (f s.valves.outputs[o]).drive (f s.valves.outputs[o]).feedback edge)).handPathFault
            o fault.isSome := by
      simp [State.setPathFault, hf, Ne.symm h]
    rw [e']
    refine ⟨?_, fun n => absurd n h, ?_, ?_⟩
    · apply State.ext_fields <;> simp
    · intro _ z
      rw [State.handPathFault_zones]
      simp
    · intro q
      simp [faultTold, h]
      exact State.notify_get _ _ q

/-- The running tests change besides. -/
theorem OutputBecomes.setTest {s u : State} {o : Output} {x : OutputRec} {tests : Tab (Option TestRec) 8} {edge : Option Nat}
    {more : List NoticeBody} (h : OutputBecomes s u o x tests edge more) (z : Zone) (y : Option TestRec) :
    OutputBecomes s (u.setTest z y) o x (tests.put z y) edge more := by
  obtain ⟨h1, h2, h3, h4⟩ := h
  refine ⟨?_, h2, h3, h4⟩
  have hv : u.valves = { outputs := s.valves.outputs.put o x, tests := tests } := by rw [h1]
  rw [State.setTest, hv]
  conv_lhs => rw [h1]

/-- A notice joins the others. -/
theorem OutputBecomes.notify {s u : State} {o : Output} {x : OutputRec} {tests : Tab (Option TestRec) 8} {edge : Option Nat}
    {more : List NoticeBody} (h : OutputBecomes s u o x tests edge more) (b : NoticeBody) :
    OutputBecomes s (u.notify b) o x tests edge (more ++ [b]) := by
  obtain ⟨h1, h2, h3, h4⟩ := h
  have f := State.notify_frame u b
  refine ⟨?_, fun e => f.2.2.2.2.2.2.2.2.1.trans (h2 e), fun e z => ?_, fun q => ?_⟩
  · apply State.ext_fields <;> simp <;> rw [h1]
  · rw [f.2.2.2.2.2.2.2.2.1]; exact h3 e z
  · rw [State.notify_get, h4 q, PortRec.gains_time _ (t := u) (s := s) (by rw [h1]), PortRec.gains_append, List.append_assoc]

/-- What a test release holds bears on nothing that becomes of an output. -/
theorem outputBecomes_setTest {s t : State} {o : Output} {x : OutputRec} {tests : Tab (Option TestRec) 8} {edge : Option Nat}
    {more : List NoticeBody} {z : Zone} {y : Option TestRec} :
    OutputBecomes (s.setTest z y) t o x tests edge more ↔ OutputBecomes s t o x tests edge more := Iff.rfl

/-- An output's record changes but for its path fault, and nothing else. -/
theorem State.updOutput_becomes (s : State) (o : Output) (f : OutputRec → OutputRec) (edge : Option Nat)
    (hf : (f s.valves.outputs[o]).fault = (s.valves.outputs[o]).fault) :
    OutputBecomes s (s.updOutput o f) o (f s.valves.outputs[o]) s.valves.tests edge [] :=
  ⟨rfl, fun _ => rfl, fun n => absurd hf n, fun q => by simp only [faultTold, if_pos hf]; rfl⟩

/-- An output's record stays. -/
theorem outputBecomes_self (s : State) (o : Output) (edge : Option Nat) :
    OutputBecomes s s o s.valves.outputs[o] s.valves.tests edge [] := by
  refine ⟨?_, fun _ => rfl, fun n => absurd rfl n, fun q => by simp only [faultTold, if_pos]; rfl⟩
  rw [Tab.put_self]

/-- Two changes of one output's record. -/
theorem State.updOutput_updOutput (s : State) (o : Output) (f g : OutputRec → OutputRec) :
    (s.updOutput o f).updOutput o g = s.updOutput o fun x => g (f x) := by
  apply State.ext_fields <;> simp

/-- R121, R125 to R127: what a switching comes to before a running test release takes the result of a check that passes at once. -/
theorem State.switchOutput_cases (s : State) (o : Output) (on : Bool) :
    let r := s.valves.outputs[o]
    let kind : CheckKind := if on then .onCheck else .offCheck
    ∃ u, OutputBecomes s u o (r.switched on s.nowMs) s.valves.tests none [] ∧
      s.switchOutput o on =
        if r.inService = true ∧ r.drive ≠ on ∧ r.feedbackLine ≠ none ∧ r.feedback = some kind.wanted then
          u.testChecked o kind true
        else u := by
  intro r kind
  have hr : s.valves.outputs[o] = r := rfl
  by_cases h1 : r.inService = false ∨ r.drive = on
  · refine ⟨s, ?_, ?_⟩
    · simpa [OutputRec.switched, h1, hr] using outputBecomes_self s o none
    · have : ¬(r.inService = true ∧ r.drive ≠ on ∧ r.feedbackLine ≠ none ∧ r.feedback = some kind.wanted) := by
        rintro ⟨a, b, -⟩; rcases h1 with h | h <;> simp_all
      rw [if_neg this]
      simp only [State.switchOutput, hr]
      rw [if_pos (by rcases h1 with h | h <;> simp [h])]
  · have h1' : (!r.inService || Decidable.decide (r.drive = on)) = false := by
      simp only [not_or] at h1; simp [h1]
    by_cases h2 : r.feedbackLine = none
    · refine ⟨s.updOutput o fun x => { x with drive := on }, ?_, ?_⟩
      · have := s.updOutput_becomes o (fun x => { x with drive := on }) none rfl
        simpa [OutputRec.switched, h1, h2, hr] using this
      · simp only [State.switchOutput, hr, h1', h2]; simp
    · have h2' : r.feedbackLine.isNone = false := by simpa [Option.isSome_iff_ne_none] using h2
      let g (x : OutputRec) : OutputRec :=
        { x with drive := on, check := some { kind := kind, edge := s.nowMs, expiry := s.nowMs + checkTime } }
      have e : s.switchOutput o on = (s.updOutput o g).judgeCheck o := by
        simp only [State.switchOutput, hr, h1', h2']; rfl
      have eo : (s.updOutput o g).valves.outputs[o] = g r := by simp [← hr]
      by_cases h3 : r.feedback = some kind.wanted
      · refine ⟨((s.updOutput o g).updOutput o fun x => { x with check := none }).setPathFault o none none, ?_, ?_⟩
        · rw [State.updOutput_updOutput]
          have := s.setPathFault_becomes o (fun x => { g x with check := none }) none none rfl
          have w : r.feedback = some (if on = true then .active else .normal) := by rw [h3]; cases on <;> rfl
          simpa [OutputRec.switched, h1, h2, w, hr, g] using this
        · rw [if_pos ⟨by simpa using fun h => h1 (.inl h), fun h => h1 (.inr h), h2, h3⟩, e, State.judgeCheck, eo]
          simp only [g, h3, if_true]
          rfl
      · refine ⟨s.updOutput o g, ?_, ?_⟩
        · have := s.updOutput_becomes o g none rfl
          have w : ¬r.feedback = some (if on = true then .active else .normal) := by
            intro h; apply h3; rw [h]; cases on <;> rfl
          rw [hr] at this
          simpa [OutputRec.switched, h1, h2, w, hr, g, kind, checkTime] using this
        · rw [if_neg fun h => h3 h.2.2.2, e, State.judgeCheck, eo]
          simp only [g, h3, if_false]

/-- R121, R125 to R127, R130: an output is switched while no test release runs in its zone: all it does. -/
theorem State.switchOutput_becomes (s : State) (o : Output) (on : Bool) (h : ∀ z, o = selectorOf z → s.valves.tests[z] = none) :
    OutputBecomes s (s.switchOutput o on) o ((s.valves.outputs[o]).switched on s.nowMs) s.valves.tests none [] := by
  obtain ⟨u, hu, e⟩ := s.switchOutput_cases o on
  have same (kind : CheckKind) : u.testChecked o kind true = u := by
    rcases output_cases o with ⟨z, rfl⟩ | ⟨bank, rfl⟩
    · have ht : u.valves.tests[z.val] = none := by rw [hu.1]; exact h z rfl
      cases kind <;> simp [State.testChecked, State.endTest, ht]
    · simp [State.testChecked]
  rw [e, same, ite_self]
  exact hu

/-- R116, R125, R127, R130, R132: a test release in its first stage passes to its second: all it does. -/
theorem State.testSecondStage_becomes (s : State) (z : Zone) (start : Nat) (passed : Bool)
    (h : s.valves.tests[z] = some ⟨start, .first passed⟩) :
    let r := s.valves.outputs[selectorOf z]
    let next := secondStage z r start passed
    OutputBecomes s (s.testSecondStage z) (selectorOf z) (r.switched false s.nowMs) (s.valves.tests.put z next.1) none next.2 := by
  intro r next
  have hr : s.valves.outputs[selectorOf z] = r := rfl
  simp only [State.testSecondStage, h, hr]
  by_cases h1 : r.feedbackLine = none
  · obtain ⟨u, hu, e⟩ := s.switchOutput_cases (selectorOf z) false
    rw [hr] at hu e
    rw [if_neg (by simp [h1])] at e
    simpa [h1, e, next, secondStage] using (hu.setTest z none).notify (.testResult z false false true)
  · obtain ⟨u, hu, e⟩ := (s.setTest z (some ⟨start, .second passed⟩)).switchOutput_cases (selectorOf z) false
    have hu : OutputBecomes s u (selectorOf z) (r.switched false s.nowMs) (s.valves.tests.put z (some ⟨start, .second passed⟩)) none [] := hu
    have h1' : r.feedbackLine.isNone = false := by simpa [Option.isSome_iff_ne_none] using h1
    have e' : (s.setTest z (some ⟨start, .second passed⟩)).valves.outputs[selectorOf z] = r := rfl
    rw [e'] at e
    simp only [h1']
    rw [if_neg (by simp), e]
    by_cases h2 : r.inService = true ∧ r.drive = true ∧ r.feedback = some .normal
    · rw [if_pos ⟨h2.1, by simp [h2.2.1], h1, h2.2.2⟩]
      have ht : u.valves.tests[z] = some ⟨start, .second passed⟩ := by rw [hu.1]; simp
      have := (hu.setTest z none).notify (.testResult z passed true false)
      simp only [Tab.put_put] at this
      simp only [Fin.getElem_fin] at ht
      simpa [State.testChecked, State.endTest, ht, next, secondStage, h1, h2] using this
    · rw [if_neg fun h => h2 ⟨h.1, by simpa using h.2.1, h.2.2.2⟩]
      simpa [next, secondStage, h1, h2] using hu

end Sys2Proof.Machine
end

