-- ==== Sys2Proof/Tests/Slice0.lean ====
section
/-! SUPPORT. Tests of the model, expected values taken from the manual, and for each statement for the provers a state that meets its
premises. -/

namespace Sys2Proof.Machine

/-! ## Well-formed commands -/

/-- R51: person index 1024 is no person index. -/
theorem test_wellFormed_refuses_person_1024 :
    (Instr.checkinWarningTime 1024).wellFormed = false ∧ (Instr.checkinDeadline 1024).wellFormed = false ∧
    (Instr.checkinDeadline 1023).wellFormed = true := by decide

/-- R198: the configuration memory does not answer 4097 bytes. -/
theorem test_wellFormed_refuses_long_record :
    (Instr.configRecordRead (List.replicate 4097 1)).wellFormed = false := by
  rw [Instr.wellFormed, List.length_replicate]; decide

/-- R137: a pulse of no cycles is no pulse. -/
theorem test_wellFormed_refuses_empty_pulse : (Instr.containerPulse 0 0).wellFormed = false := by decide

/-- The table gives no row any bits, so no word spells a command. -/
theorem test_no_word_is_a_command : decodeTableWord 8 0 = none ∧ State.reset.withFetchWord 8 0 = State.reset := by decide

/-! ## Values the manual gives -/

/-- The check value of the CRC-16 of 00_scope.md (CHECKS) over the digits 1 to 9; PRESUMED, from the catalogue of CRCs. -/
theorem test_crc16_check_value : crc16 [0x31, 0x32, 0x33, 0x34, 0x35, 0x36, 0x37, 0x38, 0x39] = 0x29B1 := by
  set_option maxRecDepth 4000 in decide

/-- R2: the table of plain classes with the default thresholds. -/
theorem test_plain_classes :
    ([0, 19, 20, 99, 100, 179, 180, 255].map fun code => (⟨.unused, 20, 100, 180⟩ : LineCfg).plainClass code) =
      [.short, .short, .normal, .normal, .active, .active, .openCircuit, .openCircuit] := by decide

/-- R3: the table of moves with the default thresholds. -/
theorem test_hysteresis_table :
    let m (k : LineClass) (code : Nat) := (⟨.unused, 20, 100, 180⟩ : LineCfg).measure (some k) code
    m .short 23 = .short ∧ m .short 24 = .normal ∧ m .normal 16 = .normal ∧ m .normal 15 = .short ∧
    m .normal 103 = .normal ∧ m .normal 104 = .active ∧ m .active 96 = .active ∧ m .active 95 = .normal ∧
    m .active 183 = .active ∧ m .active 184 = .openCircuit ∧ m .openCircuit 176 = .openCircuit ∧
    m .openCircuit 175 = .active := by decide

/-- R3: a NORMAL line that reads 230 becomes OPEN_CIRCUIT; with T1 = 3 a NORMAL line stays NORMAL at 0; 18, 98 and 178 are read as the
class the line had. -/
theorem test_hysteresis_examples :
    (⟨.unused, 20, 100, 180⟩ : LineCfg).measure (some .normal) 230 = .openCircuit ∧
    (⟨.unused, 3, 100, 180⟩ : LineCfg).measure (some .normal) 0 = .normal ∧
    (⟨.unused, 20, 100, 180⟩ : LineCfg).measure (some .normal) 18 = .normal ∧
    (⟨.unused, 20, 100, 180⟩ : LineCfg).measure (some .active) 98 = .active ∧
    (⟨.unused, 20, 100, 180⟩ : LineCfg).measure (some .openCircuit) 178 = .openCircuit := by decide

/-- R194: K is 85,899 at 50,000,000 Hz and 171,799 at 25,000,000 Hz; R136: N is 4200 there. -/
theorem test_increments : incrementFor 50000000 = 85899 ∧ incrementFor 25000000 = 171799 ∧ nominalFor 25000000 = 4200 := by decide

/-- R195: 29 February 2000 is a calendar date and 29 February 2001 is none; 1 January 2000 is a Saturday. -/
theorem test_calendar :
    Date.valid ⟨0, 2, 29⟩ = true ∧ Date.valid ⟨1, 2, 29⟩ = false ∧ Date.next ⟨1, 2, 28⟩ = ⟨1, 3, 1⟩ ∧
    (Date.weekday ⟨0, 1, 1⟩).val = 5 := by decide

/-- R190: the values the rule spells out: SECURE 0 and FAULT 6, an outside zone of none 8, a partner of none 16. -/
theorem test_named_values :
    doorStateCode .secure = 0 ∧ doorStateCode .fault = 6 ∧
    (readDoorRecord [0, 8, 1, 16]).map (fun x => (x.1.outside, x.1.partner)) = some (none, none) := by decide

/-- R140: a nibble pulse carries its value plus 12 units of 1/56 of the calibration pulse: with 4200 cycles a unit is 75. -/
theorem test_nibbles :
    nibbleOf 4200 (12 * 75) = some 0 ∧ nibbleOf 4200 (27 * 75) = some 15 ∧ nibbleOf 4200 (27 * 75 + 37) = some 15 ∧
    nibbleOf 4200 (27 * 75 + 38) = none ∧ nibbleOf 4200 (12 * 75 - 38) = none := by decide

/-- Section 1.3, worked sequence: the drift at scans 3 and 4 is forgotten, and the opening is reported at scan 8. -/
theorem test_debounce_worked_sequence :
    let start : LineRec :=
      ⟨⟨.doorContact 3, 20, 100, 180⟩, some 60, some .normal, some .normal, none, 0, some 0⟩
    let scan (codes : List Byte) := codes.foldl (fun r code => LineRec.scanned r code 10) start
    let seen (r : LineRec) := (r.measured, r.candidate, r.count, r.reported)
    seen (scan [98, 103, 104, 101]) = (some .active, some .active, 2, some .normal) ∧
    seen (scan [98, 103, 104, 101, 95]) = (some .normal, none, 0, some .normal) ∧
    seen (scan [98, 103, 104, 101, 95, 140, 151, 150]) = (some .active, none, 0, some .active) := by decide

/-- Section 6.7, worked figures: zone Z3's delay at each egress load. -/
theorem test_egress_worked_figures :
    let z (base : Nat) : ZoneCfg :=
      ⟨.bankA, base, #v[150, 260, 420, 480, 500, 460, 460], 40, 60, 30, 4, false, 60, 2, none⟩
    (z 200).egressDelay 28 = 331 ∧ (z 200).egressDelay 68 = 480 ∧ (z 200).egressDelay 171 = 686 ∧
    (z 200).egressDelay 224 = 660 ∧ (z 1500).egressDelay 224 = 1800 := by decide

/-- Section 8.10, worked example: at 24,576,000 Hz the telegram is valid and its reading is 500; a data-low pulse of 1238 cycles is
discarded with CHECK_ERROR. -/
theorem test_telegram_worked_example :
    let start : ContainerRec :=
      ⟨⟨none, 400, 600, 10⟩, true, .hunting, some 4190, [], false, false, false, none, 500, none, none, none, .unknown⟩
    let hear (pulses : List Nat) := pulses.foldl (fun r p => ContainerRec.edge r (nominalFor 24576000) p 100) start
    nominalFor 24576000 = 4129 ∧ (hear [4200, 900, 975, 2025, 1236, 1725]).readings = [500] ∧
    (hear [4200, 900, 975, 2025, 1238, 1725]).readings = [] ∧
    (hear [4200, 900, 975, 2025, 1238, 1725]).lastDiscard = some (.checkError, 100) := by decide

/-! ## A small controller at work -/

/-- Zone 0 draws on bank A, with a base delay of 30 s, a level curve and no schedule. -/
def testZoneCfg : ZoneCfg :=
  { bank := .bankA, baseDelay := 300, knots := .replicate 7 0, uncertainLoad := 20, holdTime := 60, checkinPeriod := 30,
    limit := 4, twoPerson := false, loneGrace := 60, sweepWeight := 2, schedule := none }

/-- A GUARDED zone that bars no entry. -/
def testZone : ZoneRec := { ZoneRec.fresh testZoneCfg with state := .guarded, entryHold := false, bankState := .available }

/-- A door from the corridor into zone 0. -/
def testDoorCfg : DoorCfg :=
  { inside := 0, outside := none, module := 0, partner := none, weight := 3, condition := .any, unlockWindow := 8,
    heldOpenLimit := 45, pairingWindow := 20, pinRule := .never }

/-- A SECURE door. -/
def testDoor : DoorRec := { DoorRec.fresh testDoorCfg (some 0) none (some 0) with state := .secure }

/-- An ONLINE module. -/
def testModule : ModuleRec :=
  { ModuleRec.fresh 0 with online := true, toggle := some false, tamper := some false, lockFeedback := some .thrown }

/-- A line of a role that has been scanned as NORMAL. -/
def testLine (role : LineRole) : LineRec :=
  { LineRec.fresh ⟨role, 20, 100, 180⟩ with measured := some .normal, reported := some .normal, lastScan := some 9990 }

/-- Person 5, in group 0. -/
def testPerson : PersonRec :=
  { credential := 7000, pin := none, pendant := none, groups := [0], validFrom := none, validTo := none,
    lonePermitted := false, responder := false }

/-- An entry of person 5 in zone 0, with a deadline. -/
def testEntry : Entry :=
  { person := 5, zone := 0, door := some 0, time := 1, weight := 3, partner := none, deadline := some 10, duress := false,
    deleted := false }

/-- Ten seconds after reset, with zone 0, door 0, module 0, person 5 and the panel of zone 0. -/
def base : State :=
  { State.reset with
    loader := { State.reset.loader with phase := .running },
    time := { State.reset.time with ms := 10000, sec := 10 },
    zones := State.reset.zones.put 0 (some testZone),
    doors := State.reset.doors.put 0 (some testDoor),
    bus := { State.reset.bus with modules := State.reset.bus.modules.put 0 (some testModule) },
    personnel :=
      { table := [(5, testPerson)], groups := State.reset.personnel.groups.put 0 (Vector.replicate 8 .always) },
    link := { State.reset.link with panels := State.reset.link.panels.put 0 (some .fresh) } }

/-- `base` with another record of zone 0. -/
def withZone (r : ZoneRec) : State := { base with zones := base.zones.put 0 (some r) }

/-- `base` with another record of door 0. -/
def withDoor (r : DoorRec) : State := { base with doors := base.doors.put 0 (some r) }

/-- `base` with another record of module 0 and the bus busy. -/
def withBus (r : ModuleRec) (tx : BusTx) : State :=
  { base with bus := { base.bus with modules := base.bus.modules.put 0 (some r), tx := tx } }

/-- `base` with line 0. -/
def withLine (r : LineRec) : State := { base with lines := base.lines.put 0 (some r) }

/-- A state in which port `p` waits for the last byte of a request frame with tag 1. -/
def asking (s : State) (p : Port) (code : Byte) (payload : List Byte) : State :=
  s.updPort p fun r =>
    { r with
      rx := .check (byteOf (payload.length + 2)).toNat (code :: 1 :: payload)
        ((crcBytes (crc16 (byteOf (byteOf (payload.length + 2)).toNat :: code :: 1 :: payload))).head?),
      lineLow := false, waiting := none }

/-- The last byte of that frame. -/
def lastByte (code : Byte) (payload : List Byte) : Byte :=
  byteOf (crc16 (byteOf (byteOf (payload.length + 2)).toNat :: code :: 1 :: payload)).toNat

/-- The frame is one to be answered. -/
theorem frameTaken_asking (s : State) (p : Port) (code : Byte) (payload : List Byte) (hc : code.toNat < 128) :
    ((asking s p code payload).ports[portIndex p]).frameTaken (lastByte code payload) = some ⟨code, 1, payload⟩ := by
  simp [asking, State.updPort, PortRec.frameTaken, Assembly.frame, frameCrcHolds, crcBytes, num2, lastByte, hc]

/-- The request is one to be decided. -/
theorem requestReady_asking (s : State) (p : Port) (code : Byte) (payload : List Byte) (hs : s.isRunning = true)
    (hc : code.toNat < 128) : RequestReady (asking s p code payload) p (lastByte code payload) code ⟨code, 1, payload⟩ := by
  have h : s.loader.phase ≠ .resetHeld := by
    intro e; simp [State.isRunning, e] at hs
  refine ⟨hs, ?_, frameTaken_asking s p code payload hc, rfl⟩
  simp [State.portHears, asking, State.updPort, h]

/-! ## States that meet the premises of the statements: steps, resets, loading -/

/-- StepRunsFrontCommand, ResetsLeaveTheirState: an empty queue; an asserted RESET line. -/
theorem witness_steps_and_resets :
    base.pending = [] ∧ exec .resetLineAssert base = .next
      { State.reset with
        time := { base.time with ms := 0, sec := 0 },
        loader := { State.reset.loader with phase := .resetHeld, resetKind := .resetLine } } := by
  exact ⟨rfl, rfl⟩

/-- The state of a load that has come to an address. -/
def loadingAt (address : Nat) : State := { State.reset with loader := { State.reset.loader with address := address } }

/-- ConfigRecordIsTaken: a whole record of 60 data bytes that ends at address 4094, the last it may; its kind is unknown. A LINE record without
its role is skipped; a TIMEBASE record without fields is stored. -/
theorem witness_ConfigRecordIsTaken :
    (loadingAt 4031).loader.phase = .loading ∧ 4031 + 60 + 4 < 4096 ∧
    byteSum (9 :: 0 :: byteOf 60 :: (List.replicate 60 0 ++ [187])) = 0 ∧ recordKnown 9 0 = false ∧
    byteSum (2 :: 0 :: byteOf 0 :: ([] ++ [254])) = 0 ∧ recordKnown 2 0 = true ∧ Records.empty.store 2 0 [] = none ∧
    byteSum (1 :: 0 :: byteOf 0 :: ([] ++ [255])) = 0 ∧ recordKnown 1 0 = true ∧
    Records.empty.store 1 0 [] = some ({ Records.empty with fRef := some 25000000 }, false) := by
  refine ⟨rfl, by decide, ?_, rfl, by decide, by decide, rfl, by decide, rfl, rfl⟩
  set_option maxRecDepth 2000 in decide

/-- ConfigRecordIsTaken, the records themselves: a LINE record without its target, one with thresholds that hold at their ends and one with
thresholds that do not, a CONTAINER record whose thresholds meet, a PATTERN record one byte short and a whole one, a CADENCE record whose last
step lacks its value and a whole one. -/
theorem witness_ConfigRecordIsTaken_fields :
    fieldAt [4] 1 1 = none ∧ fieldAt [4, 9, 1, 2, 254] 4 1 = some 254 ∧ (1 ≤ 1 ∧ 1 < 2 ∧ 2 < 254 ∧ 254 ≤ 254) ∧
    ¬(1 ≤ 1 ∧ 1 < 2 ∧ 2 < 255 ∧ 255 ≤ 254) ∧ fieldAt [0, 1, 144, 1, 144] 1 2 = some 400 ∧ ¬(400 < 400) ∧ 399 < 400 ∧
    ([0, 0, 0, 15, 0x29, 0xB1, 3] : List Byte).length < 8 ∧ 8 ≤ ([0, 0, 0, 15, 0x29, 0xB1, 3, 29] : List Byte).length ∧
    fieldAt [15, 1, 0] 1 1 = some 1 ∧ ([15, 1, 0] : List Byte).length < 2 + 2 * 1 ∧ 2 + 2 * 1 ≤ ([15, 1, 0, 2] : List Byte).length ∧
    fieldAt [15, 1, 0, 2] 0 1 = some 15 ∧ fieldAt [15] 1 1 = none := by decide

/-- R198, R199: TIMEBASE with 24,576,000 Hz; a BANK record with T_min beyond its range; a CADENCE record of ON 2 and OFF 3. -/
theorem test_records_stored :
    (Records.empty.store 1 0 [0x01, 0x77, 0x00, 0x00]).map (fun x => (x.1.fRef, x.2)) = some (some 24576000, false) ∧
    (Records.empty.store 5 1 [0x02, 0x59, 3]).map (fun x => (x.1.banks[(1 : Fin 2)], x.2)) = some (some ⟨600, 3⟩, true) ∧
    (Records.empty.store 8 3 [4, 2, 0, 2, 1, 3]).map (fun x => (x.1.cadences[(3 : Fin 4)], x.2)) =
      some (some ⟨4, [.on 2, .off 3], false⟩, false) := by decide

/-- ConfigurationReadsBack: configurations at the ends of their ranges. -/
theorem witness_ConfigurationReadsBack :
    ({ testZoneCfg with
        baseDelay := 1200, knots := .replicate 7 1200, uncertainLoad := 255, holdTime := 300, checkinPeriod := 60, limit := 16,
        loneGrace := 600, sweepWeight := 15 } : ZoneCfg).inRange ∧
    ({ testZoneCfg with holdTime := 30, checkinPeriod := 5, limit := 1, loneGrace := 30 } : ZoneCfg).inRange ∧
    ({ testDoorCfg with weight := 15, unlockWindow := 30, heldOpenLimit := 600, pairingWindow := 60 } : DoorCfg).inRange ∧
    ({ testDoorCfg with unlockWindow := 3, heldOpenLimit := 10, pairingWindow := 5 } : DoorCfg).inRange := by
  unfold ZoneCfg.inRange DoorCfg.inRange; decide

/-- LoadEndsWithStartupDone: STOP at the last address; silence at address 0 and at the end of the memory; a record of 255 data bytes that ends the
memory; a record of 60 data bytes whose check fails. -/
theorem witness_LoadEndsWithStartupDone :
    (loadingAt 4095).loader.phase = .loading ∧ (loadingAt 4095).loader.address < 4096 ∧ (loadingAt 0).loader.address = 0 ∧
    (loadingAt 4096).loader.address ≠ 0 ∧ (loadingAt 3837).loader.address + 255 + 4 ≤ 4096 ∧ 60 < 255 ∧
    byteSum (1 :: 0 :: byteOf 60 :: (List.replicate 60 0 ++ [0])) ≠ 0 := by
  refine ⟨rfl, by decide, rfl, by decide, by decide, by decide, ?_⟩
  set_option maxRecDepth 2000 in decide

/-- LoadEndsWithStartupDone, at the ends of records: silence after a kind byte, after a length byte of 0, and one byte short of the whole record at
address 4090; a record at 4094 whose length byte would lie at 4096, and one at 4092 whose check byte would; records that end exactly at
4095: an unknown one of 60 data bytes, and a TIMEBASE record without fields. -/
theorem witness_LoadEndsWithStartupDone_records :
    RecordCutShort [1] ∧ RecordCutShort [1, 0, 0] ∧ RecordCutShort [1, 0, 2, 0, 0] ∧
    (loadingAt 4090).loader.address + ([1, 0, 2, 0, 0] : List Byte).length < 4096 ∧
    RecordCutShort (([1, 0] : List Byte).take (4096 - 4094)) ∧ 4096 ≤ (loadingAt 4094).loader.address + ([1, 0] : List Byte).length ∧
    RecordCutShort (([1, 0, 1, 0, 0] : List Byte).take (4096 - 4092)) ∧ 4096 ≤ 4092 + ([1, 0, 1, 0, 0] : List Byte).length ∧
    (loadingAt 4032).loader.address + 60 + 4 = 4096 ∧
    byteSum (9 :: 0 :: byteOf 60 :: (List.replicate 60 0 ++ [187])) = 0 ∧ recordKnown 9 0 = false ∧
    (loadingAt 4092).loader.address + 0 + 4 = 4096 ∧ byteSum (1 :: 0 :: byteOf 0 :: ([] ++ [255])) = 0 ∧ recordKnown 1 0 = true ∧
    Records.empty.store 1 0 [] = some ({ Records.empty with fRef := some 25000000 }, false) := by
  refine ⟨?_, ?_, ?_, by decide, ?_, by decide, ?_, by decide, rfl, ?_, rfl, rfl, by decide, rfl, rfl⟩
  case refine_6 => set_option maxRecDepth 2000 in decide
  all_goals exact ⟨⟨1, _, rfl, by decide⟩, by simp⟩

/-! ## Time -/

/-- MillisecondTickCounts: K as reset leaves it, and the greatest. -/
theorem witness_MillisecondTickCounts :
    0 < base.time.k ∧ base.time.k < 4294967296 ∧
    (let s : State := { base with time := { base.time with k := 4294967295, acc := 4294967295 } };
      0 < s.time.k ∧ s.time.k < 4294967296) := by decide

/-- R194: a load for 50,000,000 Hz that ends within the last cycle before a carry, with the accumulator at 2^32 - 1: no cycle has added the old K,
and the tick that follows is the carry of one cycle of the new one, 85,899. -/
theorem test_tick_after_load_end :
    let t := ({ base.time with acc := 4294967295 } : Timebase).endLoad 50000000
    t.acc.toNat = 4294967295 ∧ t.k = 85899 ∧ (t.tick false).acc.toNat = 85898 := by
  have h : ({ base.time with acc := 4294967295 } : Timebase).oldCycles = 0 := Nat.mod_one _
  simp only [Timebase.endLoad, h]
  decide

/-- ResetsLeaveTheirState: a power-on reset after a load has ended leaves the reset state but for the model's count of loads. -/
theorem test_power_on_keeps_the_count_of_loads :
    exec .powerOnReset { base with time := base.time.endLoad 50000000 } =
      .next { State.reset with time := { State.reset.time with loadsEnded := 1 } } := rfl

/-- A zone in COUNTDOWN with R as given. -/
def counting (left : Nat) : ZoneRec :=
  { testZone with state := .countdown, kind := some .auto, delay := some 300, remaining := some left }

/-- A due decisecond tick. -/
def tickDue (s : State) : State := { s with time := { s.time with dsDue := 1 } }

/-- DecisecondTickLowersCountdowns: R at 2 and at 1, and a zone that does not count. -/
theorem witness_DecisecondTickLowersCountdowns :
    (tickDue base).time.dsDue ≠ 0 ∧ (tickDue base).zones[(1 : Zone)].isNone = true ∧
    (tickDue base).zones[(0 : Zone)] = some testZone ∧ testZone.state ≠ .countdown ∧
    (tickDue (withZone (counting 2))).zones[(0 : Zone)] = some (counting 2) ∧ (counting 2).state = .countdown ∧
    (counting 2).remaining = some (0 + 2) ∧
    (tickDue (withZone (counting 1))).zones[(0 : Zone)] = some (counting 1) ∧ (counting 1).remaining = some 1 := by
  refine ⟨by decide, rfl, rfl, by decide, rfl, rfl, rfl, rfl, rfl⟩

/-- A state whose time-of-day is about to advance. -/
def timeSet (second : Nat) : State :=
  { base with time := { base.time with secDue := 1, tod := some ⟨⟨26, 3, 4⟩, 12, 30, second⟩, todMs := 1000 } }

/-- SecondsAdvance, MinuteBoundaryEvaluatesModes: second 58 is no minute boundary, second 59 is one; an unset time-of-day. -/
theorem witness_SecondsAdvance_MinuteBoundary :
    (timeSet 58).time.secDue ≠ 0 ∧ (timeSet 58).time.tod = some ⟨⟨26, 3, 4⟩, 12, 30, 58⟩ ∧ 1000 ≤ (timeSet 58).time.todMs ∧
    58 < 59 ∧ base.time.tod = none ∧ (timeSet 59).time.tod = some ⟨⟨26, 3, 4⟩, 12, 30, 59⟩ ∧
    (∀ t, exec .timeOfDaySecond (timeSet 59) = .next t → ∀ z : Zone, t.schedules.modes[z] = (timeSet 59).schedules.modes[z]) := by
  refine ⟨by decide, rfl, by decide, by decide, rfl, rfl, ?_⟩
  intro t h
  cases h
  decide

/-- `base` at a time of Wednesday 4 March 2026, with zone 0 on a schedule that is active from 12:30 up to 12:31, and person 5 inside. -/
def scheduled (hour minute second : Nat) : State :=
  { base with
    zones := base.zones.put 0 (some { testZone with cfg := { testZoneCfg with schedule := some 0 } }),
    time := { base.time with tod := some ⟨⟨26, 3, 4⟩, hour, minute, second⟩, todMs := 1000 },
    schedules :=
      { base.schedules with
        active :=
          { base.schedules.active with schedules := base.schedules.active.schedules.put 0 (.replicate 8 [⟨750, 751⟩]) } },
    occupancy := { base.occupancy with entries := [testEntry] } }

/-- MinuteBoundaryEvaluatesModes, SetTimeEvaluatesModes: the interval's first minute, the minute before it and the one at its end; a boundary
that takes a zone with an entry to WORKING. -/
theorem witness_MinuteBoundary_active :
    (scheduled 12 30 0).evaluatedMode 0 = .working ∧ (scheduled 12 29 0).evaluatedMode 0 = .after ∧
    (scheduled 12 31 0).evaluatedMode 0 = .after ∧ (scheduled 12 29 59).schedules.modes[(0 : Zone)] = .after ∧
    (scheduled 12 29 59).time.tod = some ⟨⟨26, 3, 4⟩, 12, 29, 59⟩ ∧ 1000 ≤ (scheduled 12 29 59).time.todMs ∧
    ∀ t, exec .timeOfDaySecond (scheduled 12 29 59) = .next t →
      t.schedules.modes[(0 : Zone)] = .working ∧ t.occupancy.entries = [{ testEntry with deadline := none }] := by
  refine ⟨by decide, by decide, by decide, by decide, rfl, by decide, ?_⟩
  intro t h
  cases h
  decide

/-- CalendarAdvances: the last date but one, with the last as the later date; the last second of a day. -/
theorem witness_CalendarAdvances :
    Date.valid ⟨255, 12, 30⟩ = true ∧ (⟨255, 12, 30⟩ : Date) ≠ ⟨255, 12, 31⟩ ∧ Date.valid ⟨255, 12, 31⟩ = true ∧
    Date.le ⟨255, 12, 30⟩ ⟨255, 12, 31⟩ = true ∧ DateTime.valid ⟨⟨255, 12, 31⟩, 23, 59, 59⟩ = true := by decide

/-! ## Supervised lines -/

/-- MeasuredClassHasHysteresis, ReportAfterNConsecutiveScans: the narrowest thresholds; the reported class, a new class, the candidate on its
second scan and on its last. -/
theorem witness_hysteresis_and_debounce :
    (⟨.unused, 1, 2, 3⟩ : LineCfg).t1 < 2 ∧ 2 < (⟨.unused, 1, 2, 3⟩ : LineCfg).t3 ∧
    (testLine (.doorContact 0)).reported = some .normal ∧ (testLine (.doorContact 0)).reported ≠ some .active ∧
    (testLine (.doorContact 0)).candidate ≠ some .active ∧ 0 < 2 ∧ 2 < (testLine (.doorContact 0)).cfg.role.debounce ∧
    (let r := { testLine (.doorContact 0) with candidate := some .active, count := 1 };
      r.reported ≠ some .active ∧ r.candidate = some .active ∧ r.count + 1 < r.cfg.role.debounce) ∧
    (let r := { testLine (.doorContact 0) with candidate := some .active, count := 2 };
      r.candidate = some .active ∧ r.count + 1 = r.cfg.role.debounce) := by decide

/-- ScanWithoutReportChangesOnlyItsLine: a scan of the reported class, the last scan but one of another, ten ticks after the last scan; a scan nine ticks
after the last. -/
theorem witness_ScanWithoutReportChangesOnlyItsLine :
    let r := testLine (.doorContact 0)
    let due := { r with candidate := some .active, count := 1 }
    let done := { r with lastScan := some 9991 }
    (withLine r).isRunning = true ∧ (withLine r).lines[(0 : Line)] = some r ∧ (∀ t, r.lastScan = some t → t + 10 ≤ (withLine r).nowMs) ∧
    r.reported = some (r.cfg.measure r.measured 50) ∧ (withLine due).lines[(0 : Line)] = some due ∧
    due.candidate = some (due.cfg.measure due.measured 150) ∧ due.count + 1 < due.cfg.role.debounce ∧
    (withLine done).lines[(0 : Line)] = some done ∧ ¬∀ t, done.lastScan = some t → t + 10 ≤ (withLine done).nowMs := by
  refine ⟨rfl, rfl, ?_, by decide, rfl, by decide, by decide, rfl, fun h => absurd (h 9991 rfl) (by decide)⟩
  intro t h
  cases h
  decide

/-- R1: a line measured at millisecond 9 is measured again at 19 and not at 10. -/
theorem test_scan_every_tenth_tick :
    let r := { testLine .unused with lastScan := some 9 }
    r.scanDue 10 = false ∧ r.scanDue 18 = false ∧ r.scanDue 19 = true := by decide

/-- What holds of every configured door is shown by deciding it door by door. -/
theorem doors_all {s : State} {p : Door → DoorRec → Bool} (h : ∀ d : Door, (s.doors[d]).all (p d) = true) :
    ∀ d r, s.doors[(d : Door)] = some r → p d r = true := by
  intro d r e
  have := h d
  rw [e] at this
  exact this

/-- A state in which nobody waits at a door. -/
theorem noneWaiting_of {s : State} {z : Zone}
    (h : ∀ d : Door, (s.doors[d]).all (fun r => r.grant.isNone && r.pairing.isNone) = true) : s.noneWaiting z := by
  intro d r e _
  have := doors_all h d r e
  simpa [Option.isNone_iff_eq_none] using this

/-- A state in which every grant stands by right. -/
theorem grantsFit_of {s : State} {z : Zone} (h : ∀ d : Door, (s.doors[d]).all (·.grant.isNone) = true) : s.grantsFit z := by
  intro d r g e _ hg
  have := doors_all h d r e
  simp [hg] at this

/-- The alarm list of a state without alarms is sound. -/
theorem alarmListSound_of_empty (s : State) (h : s.alarms.records = []) (hn : s.alarms.nextNumber < 256)
    (hr : s.alarms.notRecorded = false) : AlarmListSound s := by
  unfold AlarmListSound; rw [h]; simp [hn, hr]

/-- A line of a role, reported as given, one scan short of the report of class `k`. -/
def reporting (role : LineRole) (reported : Option LineClass) (k : LineClass) : LineRec :=
  { LineRec.fresh ⟨role, 20, 100, 180⟩ with
    reported := reported, candidate := some k, count := role.debounce - 1, lastScan := some 9000 }

/-- A code of each class under the default thresholds. -/
def codeOf : LineClass → Byte
  | .short => 0
  | .normal => 99
  | .active => 100
  | .openCircuit => 255

/-- OtherLineReportsAreHandedOn, GrantedOpeningCommitsTheGrant: on a line of any role each class that is not the reported one is reported. -/
theorem witness_ScanReports (s : State) (role : LineRole) (reported : Option LineClass) (k : LineClass)
    (hs : s.isRunning = true) (hn : 9050 ≤ s.nowMs) (h : reported ≠ some k) :
    ScanReports { s with lines := s.lines.put 0 (some (reporting role reported k)) } 0 (codeOf k) (reporting role reported k) k := by
  refine ⟨hs, by simp, ?_, ?_, h, rfl, ?_⟩
  · intro t e
    cases e
    simp only [State.nowMs] at hn ⊢; omega
  · cases k <;> rfl
  · cases role <;> rfl

/-- OtherLineReportsAreHandedOn, an abort station and an alarm button: a zone in COUNTDOWN; zones in HELD whose one hold source is line 0, and that
have another; a zone in neither state; a zone that is not configured; a sound alarm list. -/
theorem witness_OtherLineReportsAreHandedOn_zones :
    let held (lines : List Line) (alarms : List Nat) : ZoneRec :=
      { counting 20 with state := .held, holdLines := lines, holdAlarms := alarms }
    (∀ r ∈ [counting 20, held [0] [], held [0, 3] [], held [0] [7], testZone],
      (withZone r).zones[(0 : Zone)] = some r ∧ (withZone r).isRunning = true ∧ 9050 ≤ (withZone r).nowMs) ∧
    (∀ r, (withZone r).grantsFit 0 ∧ (withZone r).noneWaiting 0 ∧ AlarmListSound (withZone r)) ∧
    (counting 20).state = .countdown ∧ testZone.state ≠ .countdown ∧ testZone.state ≠ .held ∧ base.zones[(1 : Zone)] = none ∧
    (held [0] []).holdLines.filter (· ≠ 0) = [] ∧ (held [0, 3] []).holdLines.filter (· ≠ 0) ≠ [] ∧
    (held [0] []).holdAlarms = [] ∧ (held [0] [7]).holdAlarms ≠ [] := by
  have nobody : ∀ d : Door, (base.doors[d]).all (·.grant.isNone) = true := by decide
  have waits : ∀ d : Door, (base.doors[d]).all (fun r => r.grant.isNone && r.pairing.isNone) = true := by decide
  refine ⟨by decide, fun r => ⟨grantsFit_of nobody, noneWaiting_of waits, ?_⟩, rfl, by decide, by decide, rfl, by decide,
    by decide, rfl, by decide⟩
  exact alarmListSound_of_empty base rfl (by decide) rfl

/-- OtherLineReportsAreHandedOn, a valve's feedback: outputs that are not in service, that have no feedback line, that have a pending check, that are ON
with ACTIVE feedback and without it, and that are OFF; a zone whose test release is in its first stage, in its second, and none. -/
theorem witness_OtherLineReportsAreHandedOn_feedback :
    let supervised : OutputRec := { OutputRec.cleared with inService := true, feedbackLine := some 0 }
    let s (w : OutputRec) (test : Option TestRec) : State :=
      { base with
        valves :=
          { outputs := (base.valves.outputs.put (selectorOf 0) w).put (mainValveOf .bankB) w,
            tests := base.valves.tests.put 0 test } }
    (∀ w ∈ [OutputRec.cleared, supervised, { supervised with feedbackLine := none },
        { supervised with check := some ⟨.onCheck, 9500, 10500⟩ }, { supervised with check := some ⟨.offCheck, 9500, 10500⟩ },
        { supervised with drive := true }, { supervised with drive := true, feedback := some .active }],
      ∀ test ∈ [none, some ⟨9000, .first false⟩, some ⟨4000, .second true⟩],
        (s w test).valves.outputs[selectorOf 0] = w ∧ (s w test).valves.outputs[mainValveOf .bankB] = w ∧
        (s w test).valves.tests[(0 : Zone)] = test) ∧
    OutputRec.cleared.inService = false ∧ supervised.feedbackLine ≠ none ∧ supervised.check = none ∧ supervised.drive = false ∧
    supervised.feedback ≠ some .active := by decide

/-! ## The door bus -/

/-- PollAnswerBytesAreStored: the eighth byte; an idle bus; a DRIVE. -/
theorem witness_PollAnswerBytesAreStored :
    (withBus testModule (.poll 0 1 (List.replicate 7 0) false)).bus.tx = .poll 0 1 (List.replicate 7 0) false ∧
    (List.replicate 7 (0 : Byte)).length < 8 ∧ base.bus.tx = .idle ∧
    (withBus testModule (.drive 0 2 0 1 0)).bus.tx = .drive 0 2 0 1 0 := by
  refine ⟨rfl, by decide, rfl, rfl⟩

/-- R17, R19: a byte that arrives after the window of an exchange has closed stays out of the next one, whose POLL has begun. -/
theorem test_late_byte_joins_no_exchange :
    exec (.pollAnswerByteReceived 9 .outsideWindow) (withBus testModule (.poll 0 1 [] false)) =
      .next (withBus testModule (.poll 0 1 [] false)) := rfl

/-- A poll of module 0 that has received some bytes. -/
def polling (r : ModuleRec) (received : List Byte) : State := withBus r (.poll 0 1 received false)

/-- PollFailureIsCounted, and PollFails: no byte, eight bytes and a ninth begun, three bytes; the second failure and the third, with
a door that can be lost and one that cannot. -/
theorem witness_PollFailureIsCounted :
    let third := { testModule with failures := 2 }
    let second := { testModule with failures := 1 }
    (polling second []).bus.tx = .poll 0 1 [] false ∧ (polling second []).bus.modules[(0 : Module)] = some second ∧
    second.failures < 2 ∧ (polling third (List.replicate 8 0)).bus.tx = .poll 0 1 (List.replicate 8 0) false ∧
    (polling third [1, 2, 3]).bus.modules[(0 : Module)] = some third ∧ third.online = true ∧ 2 ≤ third.failures ∧
    (polling third []).doors[third.door] = some testDoor ∧ testDoor.state ≠ .offline ∧ testDoor.state ≠ .fault ∧
    testDoor.grant = none ∧ testDoor.pairing = none ∧ testDoor.module = some 0 ∧
    ({ polling third [] with doors := (withDoor { testDoor with state := .fault }).doors } : State).doors[third.door] =
      some { testDoor with state := .fault } := by
  refine ⟨rfl, rfl, by decide, rfl, rfl, rfl, by decide, rfl, by decide, by decide, rfl, rfl, rfl, rfl⟩

/-- PollFailureIsCounted, PollFails: the door that is lost holds a grant, or a pairing record; the module serves no door record. -/
theorem witness_PollFails_grants :
    let third := { testModule with failures := 2 }
    let s (x : DoorRec) : State := { polling third [] with doors := (withDoor x).doors }
    let unlocked : DoorRec := { testDoor with state := .unlocked, grant := some ⟨.entry, [⟨5, false⟩], 18000, 1⟩ }
    let waiting : DoorRec := { testDoor with pairing := some ⟨⟨5, true⟩, 12000⟩ }
    (s unlocked).doors[third.door] = some unlocked ∧ unlocked.state ≠ .offline ∧ unlocked.state ≠ .fault ∧ unlocked.grant ≠ none ∧
    (s waiting).doors[third.door] = some waiting ∧ waiting.grant = none ∧ third.online = true ∧ 2 ≤ third.failures ∧
    (s testDoor).bus.tx = .poll 0 1 [] false ∧ (s testDoor).doors[(1 : Door)] = none := by
  refine ⟨rfl, by decide, by decide, by decide, rfl, rfl, rfl, by decide, rfl, rfl⟩

/-- PollAnswerIsJudged: a good answer that changes nothing (status byte 2: bolt thrown), its last byte wrong, and one that brings a
credential read with a new toggle (status byte 0x92). -/
theorem witness_PollAnswerIsJudged :
    let rest : List Byte := [0, 0, 0, 9, 0xFF, 0xFF, 0xFF]
    (polling testModule (2 :: rest)).bus.tx = .poll 0 1 (2 :: rest) false ∧ rest.length = 7 ∧
    (polling testModule (2 :: rest)).bus.modules[(0 : Module)] = some testModule ∧
    byteSum (moduleAddress 0 :: 1 :: 2 :: (rest ++ [checkOver (moduleAddress 0 :: 1 :: 2 :: rest)])) = 0 ∧
    byteSum (moduleAddress 0 :: 1 :: 2 :: (rest ++ [0])) ≠ 0 ∧ (2 : Byte).toNat / 16 % 8 = 0 ∧
    byteSum (moduleAddress 0 :: 1 :: 0x92 :: (rest ++ [checkOver (moduleAddress 0 :: 1 :: 0x92 :: rest)])) = 0 ∧
    (0x92 : Byte).toNat / 16 % 8 = 1 ∧ testModule.online = true ∧ testModule.toggle = some (!(0x92 : Byte).getLsbD 7) ∧
    (0x92 : Byte).getLsbD 2 = false ∧ testModule.tamper = some ((0x92 : Byte).getLsbD 0) ∧
    testModule.lockFeedback = some (if (0x92 : Byte).getLsbD 1 then .thrown else .retracted) := by
  refine ⟨rfl, rfl, rfl, ?_, ?_, ?_, ?_, ?_, ?_, ?_, ?_, ?_, ?_⟩ <;> decide

/-- PollAnswerIsJudged, the other good answers: a module that was OFFLINE answers, with its door in OFFLINE and the contact read closed, open and
not at all; one without a door record; a fresh start (status byte 6), a new tamper (3), and a bolt that is newly thrown. -/
theorem witness_PollAnswerIsJudged_returns :
    let away := { testModule with online := false, tamper := none, lockFeedback := none }
    let lost (contact : Option Bool) : DoorRec := { testDoor with state := .offline, contactOpen := contact }
    let s (r : ModuleRec) (contact : Option Bool) : State :=
      { polling r [6, 0, 0, 0, 9, 0xFF, 0xFF, 0xFF] with doors := base.doors.put 0 (some (lost contact)) }
    byteSum (moduleAddress 0 :: 1 :: 6 :: ([0, 0, 0, 9, 0xFF, 0xFF, 0xFF] ++ [checkOver [moduleAddress 0, 1, 6, 0, 0, 0, 9, 0xFF, 0xFF, 0xFF]])) = 0 ∧
    (∀ contact ∈ [none, some false, some true], (s away contact).bus.modules[(0 : Module)] = some away ∧
      (s away contact).doors[away.door] = some (lost contact) ∧ (lost contact).state = .offline) ∧
    away.online = false ∧ (lost none).module = some 0 ∧ (s { away with door := 1 } none).doors[(1 : Door)] = none ∧
    (6 : Byte).getLsbD 2 = true ∧ testModule.tamper ≠ some ((3 : Byte).getLsbD 0) ∧ away.lockFeedback ≠ some .thrown := by
  refine ⟨by decide, by decide, rfl, rfl, rfl, by decide, by decide, by decide⟩

/-- BusChoosesNextTransaction: the end of a DRIVE; an OFFLINE module a second after its last POLL, on an idle bus and on a busy one. -/
theorem witness_BusChoosesNextTransaction :
    let r := { testModule with online := false, lastPoll := some 9000 }
    (withBus r (.drive 0 2 0 1 0)).bus.tx = .drive 0 2 0 1 0 ∧ (withBus r .idle).isRunning = true ∧ (withBus r .idle).mayPoll 0 ∧
    (withBus r .idle).bus.tx = .idle ∧ (withBus r (.drive 0 2 0 1 0)).mayPoll 0 ∧
    (withBus r (.drive 0 2 0 1 0)).bus.tx ≠ .idle := by
  unfold State.mayPoll
  refine ⟨rfl, rfl, by decide, rfl, by decide, by decide⟩

/-! ## Doors and access -/

/-- EntryReadInstallsGrant, up to the PIN test: an OFFLINE door; a credential nobody has; a person out of validity; a PIN that is missing; the
duress variant and the plain PIN. -/
theorem witness_EntryReadInstallsGrant_tests :
    AlarmListSound base ∧ (withDoor { testDoor with state := .offline }).doors[(0 : Door)] = some { testDoor with state := .offline } ∧
    base.byCredential 1 = none ∧ base.byCredential 7000 = some (5, testPerson) ∧ testDoor.state ≠ .offline ∧ testDoor.state ≠ .fault ∧
    base.withinValidity testPerson = true ∧ base.withinValidity { testPerson with validFrom := some ⟨0, 1, 1⟩ } = false ∧
    pinTest (pinRequired .always .working) testPerson.pin .absent = none ∧
    pinTest (pinRequired .always .working) (some [1, 9]) (.digits [1, 0]) = some true ∧
    pinTest (pinRequired testDoor.cfg.pinRule base.schedules.modes[testDoor.cfg.inside]) testPerson.pin .absent = some false := by
  refine ⟨alarmListSound_of_empty _ rfl (by decide) rfl, rfl, rfl, rfl, by decide, by decide, by decide, by decide, by decide, by decide,
    by decide⟩

/-- Zone 0 with the two-person mark, in AFTER mode, at a door with a pairing record or none. -/
def twoPersons (pairing : Option Pairing) : State :=
  { withDoor { testDoor with pairing := pairing } with
    zones := base.zones.put 0 (some { testZone with cfg := { testZoneCfg with twoPerson := true } }),
    schedules := { base.schedules with modes := base.schedules.modes.put 0 .after } }

/-- EntryReadInstallsGrant, after the PIN test: a zone that bars entry; a single person; the first of two, the second, and the first again; the
exit reader of a SECURE door, of a busy one and of one whose partner is not SECURE; a check-in with an entry in the zone and one without. -/
theorem witness_EntryReadInstallsGrant_decisions :
    let passes (s : State) (persons : List Person) : Prop :=
      s.bars 0 = false ∧ s.groupsPermit testPerson 0 = true ∧ s.entryCondition testDoorCfg persons = true ∧
      (∀ y ∈ persons, s.noPassback testDoorCfg y = true) ∧ s.placesFree 0 persons.length = true ∧ s.partnerSecure testDoorCfg = true
    let first : Pairing := ⟨⟨6, false⟩, 12000⟩
    let open' : State := { base with doors := base.doors.put 1 (some { testDoor with state := .opened }) }
    (withZone { testZone with entryHold := true }).bars 0 = true ∧ passes base [5] ∧ base.twoPersonApplies 0 = false ∧
    passes (twoPersons none) [5] ∧ (twoPersons none).twoPersonApplies 0 = true ∧ passes (twoPersons (some first)) [6, 5] ∧
    first.first.person ≠ 5 ∧ passes (twoPersons (some { first with first := ⟨5, true⟩ })) [5] ∧ testDoor.state = .secure ∧
    testDoor.grant = none ∧ base.partnerSecure testDoorCfg = true ∧ open'.partnerSecure { testDoorCfg with partner := some 1 } = false ∧
    (DoorRec.state { testDoor with state := .opened }) ≠ .secure ∧
    ({ base with occupancy := { base.occupancy with entries := [testEntry] } } : State).occupancy.entryOf 5 = some testEntry ∧
    testEntry.zone = testDoor.cfg.inside ∧ testEntry.deadline ≠ none ∧ base.occupancy.entryOf 5 = none := by
  refine ⟨rfl, ?_, by decide, ?_, by decide, ?_, by decide, ?_, rfl, rfl, by decide, by decide, by decide, by decide, rfl, by decide, rfl⟩ <;>
    (refine ⟨?_, ?_, ?_, ?_, ?_, ?_⟩ <;> decide)

/-- A door UNLOCKED by an ENTRY grant for person 5. -/
def granted (expiry : Nat) : DoorRec := { testDoor with state := .unlocked, grant := some ⟨.entry, [⟨5, false⟩], expiry, 1⟩ }

/-- UnlockWindowLapses: the window ends now. -/
theorem witness_UnlockWindowLapses :
    (withDoor (granted 10000)).doors[(0 : Door)] = some (granted 10000) ∧ (granted 10000).state = .unlocked ∧
    (granted 10000).grant = some ⟨.entry, [⟨5, false⟩], 10000, 1⟩ ∧ 10000 ≤ (withDoor (granted 10000)).nowMs := by
  refine ⟨rfl, rfl, rfl, by decide⟩

/-- UnlockWindowLapses and the other statements that hand a drive over: a drive that is due, for a lock that changes, and one that is not; an idle
bus and a busy one; a drive of the module that waits, and one of another module; a module that is OFFLINE, and a door without one. -/
theorem witness_DriveHanded :
    let y : DoorRec := { granted 10000 with state := .secure, grant := none, lastDrive := some ⟨.unlocked, .green, false⟩ }
    let s (r : ModuleRec) (tx : BusTx) : State :=
      { withBus r tx with bus := { (withBus r tx).bus with queue := [(3, ⟨.locked, .red, false⟩), (0, ⟨.unlocked, .green, false⟩)] } }
    doorLock y ≠ .unlocked ∧ (y.driven false).lastDrive = some ⟨doorLock y, doorIndicator y false, false⟩ ∧ y.chirpOwed = false ∧
    y.module = some 0 ∧ testModule.online = true ∧ (s testModule .idle).bus.tx = .idle ∧
    (s testModule (.drive 0 2 0 1 0)).bus.tx ≠ .idle ∧
    (s { testModule with online := false } .idle).bus.modules[(0 : Module)] = some { testModule with online := false } ∧
    withDrive (s testModule .idle).bus.queue 0 ⟨.locked, .red, true⟩ = [(3, ⟨.locked, .red, false⟩), (0, ⟨.locked, .red, true⟩)] ∧
    withDrive [(3, ⟨.locked, .red, false⟩)] 0 ⟨.locked, .red, true⟩ =
      [(3, ⟨.locked, .red, false⟩), (0, ⟨.locked, .red, true⟩)] := by
  refine ⟨by decide, by decide, rfl, rfl, rfl, rfl, by decide, rfl, by decide, by decide⟩

/-- DoorTimesAreReached: each time is now. -/
theorem witness_DoorTimesAreReached :
    let r : DoorRec :=
      { testDoor with
        state := .opened, openSince := some 0, cfg := { testDoorCfg with heldOpenLimit := 10 },
        withdrawnEnd := some 10000, pairing := some ⟨⟨5, false⟩, 10000⟩, denialEnd := some 10000 }
    let s := withDoor r
    s.doors[(0 : Door)] = some r ∧ r.withdrawnEnd = some 10000 ∧ 10000 ≤ s.nowMs ∧ r.state = .opened ∧
    r.openSince = some 0 ∧ 0 + r.cfg.heldOpenLimit * 1000 ≤ s.nowMs ∧ r.pairing = some ⟨⟨5, false⟩, 10000⟩ ∧
    s.personAt 5 = some testPerson ∧ r.denialEnd = some 10000 := by
  refine ⟨rfl, rfl, by decide, rfl, rfl, by decide, rfl, rfl, rfl⟩

/-- `base` with a record of door 0 and its contact line. -/
def contact (x : DoorRec) (reported : Option LineClass) (k : LineClass) : State :=
  { withDoor x with lines := base.lines.put 0 (some (reporting (.doorContact 0) reported k)) }

/-- GrantedOpeningCommitsTheGrant, openings under a grant: a pair nobody of whom is inside, a person who is inside another zone; a COMMAND grant; a
RESPONSE grant for nobody; an EXIT grant of a person who is not listed and of one who is. -/
theorem witness_GrantedOpeningCommitsTheGrant :
    let pair : Grant := ⟨.entry, [⟨5, false⟩, ⟨6, true⟩], 12000, 2⟩
    let door (g : Grant) : DoorRec := { testDoor with state := .unlocked, grant := some g }
    let s := contact (door pair) (some .normal) .active
    let t : State := { s with occupancy := { s.occupancy with entries := [{ testEntry with zone := 1 }] } }
    (door pair).handleLine ≠ some 0 ∧ ((door pair).state = .unlocked ↔ (door pair).grant ≠ none) ∧
    pair.persons.Pairwise (fun a b => a.person ≠ b.person) ∧ (∀ a ∈ pair.persons, s.occupancy.entryOf a.person = none) ∧
    s.bars (door pair).cfg.inside = false ∧ t.occupancy.entryOf 5 = some { testEntry with zone := 1 } ∧
    (door ⟨.command, [], 12000, 0⟩).grant = some ⟨.command, [], 12000, 0⟩ ∧
    (door ⟨.response, [], 12000, 0⟩).grant = some ⟨.response, [], 12000, 0⟩ ∧
    (door ⟨.exit, [⟨5, false⟩], 12000, 0⟩).grant = some ⟨.exit, [⟨5, false⟩], 12000, 0⟩ ∧ s.occupancy.entryOf 5 = none := by
  refine ⟨by decide, by decide, by decide, by decide, rfl, rfl, rfl, rfl, rfl, rfl⟩

/-- GrantedOpeningCommitsTheGrant, the other reports: a SECURE door with a withdrawn-window end; a handle that was ACTIVE exactly 1000 ms ago, and
one that never was; one person inside a certain zone, and none; doors of each other state, which have no opening; a module ONLINE and none. -/
theorem witness_GrantedOpeningCommitsTheGrant_other :
    let x : DoorRec := { testDoor with handleLine := some 1, handleActive := some 9000 }
    let s : State := { contact x (some .normal) .active with lines := (contact x (some .normal) .active).lines.put 1 (some (testLine (.egressHandle 0))) }
    let t : State := { s with occupancy := { s.occupancy with entries := [testEntry] } }
    s.handleExcused x ∧ ¬base.handleExcused testDoor ∧ x.handleLine ≠ some 0 ∧ testDoor.withdrawnEnd = none ∧
    (DoorRec.withdrawnEnd { testDoor with withdrawnEnd := some 12000 }) ≠ none ∧ t.occupancy.entriesIn 0 = [testEntry] ∧
    t.occupancy.uncertain[(0 : Zone)] = false ∧ s.occupancy.entriesIn 0 = [] ∧
    (∀ state ∈ [DoorState.secure, .opened, .heldOpen, .forced, .offline, .fault],
      (DoorRec.state { testDoor with state := state } = .unlocked ↔ (DoorRec.grant { testDoor with state := state }) ≠ none)) ∧
    testDoor.openingKind = none ∧ testDoor.openSince = none ∧
    testDoor.module = some 0 ∧ s.bus.modules[(0 : Module)] = some testModule ∧ testModule.online = true ∧
    (DoorRec.module { testDoor with module := none }) = none := by
  refine ⟨.inr ⟨rfl, 9000, rfl, by decide⟩, ?_, by decide, rfl, by decide, rfl, rfl, rfl, by decide, rfl, rfl, rfl, rfl, rfl, rfl⟩
  rintro (h | ⟨h, _⟩) <;> exact absurd h (by decide)

/-- A state with person 5 inside. -/
def occupied (z : ZoneRec) : State := { withZone z with occupancy := { base.occupancy with entries := [testEntry] } }

/-- Alarms of persons 5 and 6 and of line 0, each with its condition present. -/
def raised : Alarms :=
  { base.alarms with
    records :=
      [⟨0, .missedCheckin, .person 5, some 0, 1, 1, false, true⟩, ⟨1, .loneOccupant, .person 5, some 0, 1, 1, true, true⟩,
        ⟨2, .loneOccupant, .person 6, some 0, 1, 1, false, true⟩, ⟨3, .alarmButton, .line 0, some 0, 1, 1, false, true⟩] }

/-- Person 5, of a record, is alone in zone 0 with the two-person mark, in AFTER mode, with a lone-occupant timer; `raised` stands. -/
def alone (r : PersonRec) (lone : LoneTimer) : State :=
  { occupied { testZone with cfg := { testZoneCfg with twoPerson := true } } with
    personnel := { base.personnel with table := [(5, r)] }, alarms := raised,
    occupancy := { base.occupancy with entries := [testEntry], lone := base.occupancy.lone.put 0 lone } }

/-- The list of `raised` is sound. -/
theorem alarmListSound_raised (s : State) (h : s.alarms = raised) : AlarmListSound s := by
  unfold AlarmListSound
  rw [h]
  exact ⟨by decide, by decide, by decide, by decide, by decide⟩

/-- LoneFollows and ConditionsEnd, in the statements on openings, modes, written and deleted persons, sweeps and forced exits: person 5 is in the
lone condition, recorded with the timer, running or expired, another recorded, and nobody; nobody is alone where person 5 is permitted alone,
where the zone is in WORKING mode, and where person 6 is inside too; a sound list with a MISSED_CHECKIN and a LONE_OCCUPANT condition of person 5,
one of person 6, and a condition of no person. -/
theorem witness_LoneFollows_ConditionsEnd (timer : LoneTimer) :
    let s := alone testPerson timer
    let permitted := alone { testPerson with lonePermitted := true } timer
    let working : State := { s with schedules := { s.schedules with modes := s.schedules.modes.put 0 .working } }
    let two : State := { s with occupancy := { s.occupancy with entries := [testEntry, { testEntry with person := 6 }] } }
    s.loneIn 0 5 ∧ s.occupancy.lone[(0 : Zone)] = timer ∧ (LoneTimer.running 5 40).records 5 ∧ (LoneTimer.expired 5).records 5 ∧
    ¬(LoneTimer.running 6 40).records 5 ∧ ¬LoneTimer.notRunning.records 5 ∧ (∀ p, ¬permitted.loneIn 0 p) ∧
    (∀ p, ¬working.loneIn 0 p) ∧ (∀ p, ¬two.loneIn 0 p) ∧ AlarmListSound s ∧ AlarmListSound permitted := by
  refine ⟨⟨rfl, ⟨_, rfl, rfl⟩, testEntry, rfl, rfl, .inr ?_⟩, rfl, .inr ⟨40, rfl⟩, .inl rfl, ?_, ?_, ?_, ?_, ?_,
    alarmListSound_raised _ rfl, alarmListSound_raised _ rfl⟩
  · intro who h; cases h; rfl
  · rintro (h | ⟨_, h⟩) <;> cases h
  · rintro (h | ⟨_, h⟩) <;> cases h
  · rintro p ⟨_, _, e, he, rfl, h⟩
    cases he
    rcases h with h | h
    · cases h
    · cases h _ rfl
  · rintro p ⟨h, _⟩; cases h
  · rintro p ⟨_, _, e, he, _⟩; cases he

/-- R89: the timer starts for the lone person with the lone grace of 60 s, starts again where another person is recorded, whose condition ends, runs
on for the person it records, and stops where the person is permitted alone, whose condition ends. -/
theorem test_lone_timer_follows :
    let seen (s : State) := ((s.retestLone 0).occupancy.lone[(0 : Zone)], (s.retestLone 0).alarms.records.map (·.condition))
    seen (alone testPerson .notRunning) = (.running 5 70, [true, true, true, true]) ∧
    seen (alone testPerson (.running 6 40)) = (.running 5 70, [true, true, false, true]) ∧
    seen (alone testPerson (.running 5 40)) = (.running 5 40, [true, true, true, true]) ∧
    seen (alone { testPerson with lonePermitted := true } (.expired 5)) = (.notRunning, [true, false, true, true]) := by decide

/-- R79, R88, R89: FORCE_EXIT of the lone person 5 ends the warning of the zone, stops the timer, and ends both conditions of the person. -/
theorem test_forced_exit_ends_conditions :
    let s := alone testPerson (.expired 5)
    let t := ({ s with occupancy := { s.occupancy with warning := s.occupancy.warning.put 0 true } } : State).forceOut testEntry
    t.occupancy.warning[(0 : Zone)] = false ∧ t.occupancy.lone[(0 : Zone)] = .notRunning ∧
    t.alarms.records.map (·.condition) = [false, false, true, true] := by decide

/-- MinuteBoundaryEvaluatesModes, SetTimeEvaluatesModes: the mode of a zone with person 5 alone inside changes to WORKING at a minute boundary, and to
AFTER; the list of alarms is sound. R86, R89: the conditions of person 5 end with the one, and the timer starts with the other. -/
theorem witness_OccupancyFollowsModes :
    let zone := some { testZone with cfg := { testZoneCfg with schedule := some 0, twoPerson := true } }
    let s (minute : Nat) (mode : Mode) (lone : LoneTimer) (deadline : Option Nat) : State :=
      { scheduled 12 minute 59 with
        zones := base.zones.put 0 zone, alarms := raised,
        schedules := { (scheduled 12 minute 59).schedules with modes := base.schedules.modes.put 0 mode },
        occupancy :=
          { base.occupancy with entries := [{ testEntry with deadline := deadline }], lone := base.occupancy.lone.put 0 lone } }
    (s 29 .after (.expired 5) (some 10)).time.tod = some ⟨⟨26, 3, 4⟩, 12, 29, 59⟩ ∧
    1000 ≤ (s 29 .after (.expired 5) (some 10)).time.todMs ∧ AlarmListSound (s 29 .after (.expired 5) (some 10)) ∧
    AlarmListSound (s 30 .working .notRunning none) ∧
    (∀ t, exec .timeOfDaySecond (s 29 .after (.expired 5) (some 10)) = .next t →
      t.schedules.modes[(0 : Zone)] = .working ∧ t.occupancy.lone[(0 : Zone)] = .notRunning ∧
      t.alarms.records.map (·.condition) = [false, false, true, true]) ∧
    ∀ t, exec .timeOfDaySecond (s 30 .working .notRunning none) = .next t →
      t.schedules.modes[(0 : Zone)] = .after ∧ t.occupancy.lone[(0 : Zone)] = .running 5 70 ∧
      t.occupancy.entries = [{ testEntry with deadline := some 1810 }] ∧ t.occupancy.warning[(0 : Zone)] = false := by
  refine ⟨rfl, by decide, alarmListSound_raised _ rfl, alarmListSound_raised _ rfl, ?_, ?_⟩
  · intro t h; cases h; decide
  · intro t h; cases h; decide

/-- SummaryHanded, in the statements on openings, sweeps, forced exits and deletions: an OCCUPIED_HOLD zone that has become unoccupied and one that
has not; an AUTO countdown over an unoccupied summary that has become occupied, and one over an occupied one; a zone in no such state. -/
theorem witness_SummaryHanded :
    let m (count : Nat) : Summary := { testZone.summary with count := count, uncertain := false }
    let left : State := { base with occupancy := { base.occupancy with uncertain := base.occupancy.uncertain.put 0 false } }
    ¬(0 < (left.summaryOf 0).count ∨ (left.summaryOf 0).uncertain = true) ∧
    0 < ((occupied testZone).summaryOf 0).count ∧ 0 < (m 1).count ∧ ¬(0 < (m 0).count ∨ (m 0).uncertain = true) ∧
    (ZoneRec.state { testZone with state := .occupiedHold, summary := m 1 }) = .occupiedHold ∧
    (ZoneRec.state { counting 20 with summary := m 0 }) = .countdown ∧ (ZoneRec.kind { counting 20 with summary := m 0 }) = some .auto ∧
    testZone.state ≠ .occupiedHold ∧ testZone.state ≠ .countdown ∧ testZone.state ≠ .held := by decide

/-- OccupancyTimesAreReached: a deadline that is now, in a zone that counts down and in one that does not; a lone timer that ends now; a sound alarm
list. What a raise meets is in witness_Raises. -/
theorem witness_OccupancyTimesAreReached :
    let lone : State := { base with occupancy := { base.occupancy with lone := base.occupancy.lone.put 0 (.running 5 10) } }
    (occupied testZone).occupancy.entryOf 5 = some testEntry ∧ testEntry.deadline = some 10 ∧
    10 ≤ (occupied testZone).nowSec + 60 ∧ 10 ≤ (occupied testZone).nowSec ∧
    (occupied testZone).zones[testEntry.zone] = some testZone ∧
    (occupied (counting 20)).zones[testEntry.zone] = some (counting 20) ∧ AlarmListSound (occupied testZone) ∧
    lone.occupancy.lone[(0 : Zone)] = .running 5 10 ∧ 10 ≤ lone.nowSec ∧ AlarmListSound lone :=
  ⟨rfl, rfl, by decide, by decide, rfl, rfl, alarmListSound_of_empty _ rfl (by decide) rfl, rfl, by decide,
    alarmListSound_of_empty _ rfl (by decide) rfl⟩

/-! ## Zones and valves -/

/-- The valve outputs that serve zone 0 and bank A, driven as given. -/
def valvesServing (selector main : OutputRec) : Valves :=
  { base.valves with outputs := (base.valves.outputs.put (selectorOf 0) selector).put (mainValveOf .bankA) main }

/-- An output in service. -/
def serving : OutputRec := { OutputRec.cleared with inService := true }

/-- An output in service that is ON. -/
def servingOn : OutputRec := { serving with drive := true }

/-- An output in service with feedback line 7. -/
def supervised : OutputRec := { serving with feedbackLine := some 7 }

/-- A supervised output with a path fault that an edge to a class clears at once, its feedback being of that class. -/
def healing (on : Bool) : OutputRec :=
  { supervised with
    drive := !on, feedback := some (if on then .active else .normal), fault := some (if on then .currentAtRest else .onCheckFail) }

/-- `base` with zones of banks, each in a state, and with valves. -/
def withValves (zones : List (Zone × Bank × ZoneState)) (outputs : List (Output × OutputRec)) (tests : List (Zone × TestRec)) : State :=
  { base with
    zones := zones.foldl (fun t x => t.put x.1 (some { counting 1 with cfg := { testZoneCfg with bank := x.2.1 }, state := x.2.2 })) base.zones,
    valves :=
      { outputs := outputs.foldl (fun t x => t.put x.1 x.2) base.valves.outputs,
        tests := tests.foldl (fun t x => t.put x.1 (some x.2)) base.valves.tests } }

/-- CountdownEndsInDischarge: a zone whose selector waits for ACTIVE feedback, one whose selector passes at once and clears a path fault, and one
whose valves are unsupervised; first-stage tests of other zones of the bank, supervised with feedback to come, with NORMAL feedback and a path
fault, and unsupervised; a second-stage test, and a first-stage test on the other bank, which are not cut. -/
theorem witness_CountdownEndsInDischarge :
    let s (selector main : OutputRec) : State :=
      tickDue (withValves
        [(0, .bankA, .countdown), (1, .bankA, .isolated), (2, .bankA, .isolated), (3, .bankA, .isolated), (4, .bankA, .isolated),
          (5, .bankB, .isolated)]
        [(selectorOf 0, selector), (mainValveOf .bankA, main), (selectorOf 1, { supervised with drive := true }),
          (selectorOf 2, healing false), (selectorOf 3, servingOn), (selectorOf 5, servingOn)]
        [(1, ⟨9000, .first false⟩), (2, ⟨8000, .first true⟩), (3, ⟨7000, .first false⟩), (4, ⟨4000, .second true⟩),
          (5, ⟨9000, .first false⟩)])
    (∀ x ∈ [(supervised, supervised), (healing true, healing true), (serving, servingOn)],
      let u := s x.1 x.2
      (u.zones[(0 : Zone)]).map (fun r => (r.state, r.remaining, r.cfg.bank)) = some (.countdown, some 1, .bankA) ∧
      0 < u.time.dsDue ∧ u.valves.tests[(0 : Zone)] = none ∧ u.valves.outputs[selectorOf 0] = x.1 ∧
      u.valves.outputs[mainValveOf .bankA] = x.2 ∧
      ((List.finRange 8).map (u.cut 0 .bankA)) =
        [none, some (9000, false), some (8000, true), some (7000, false), none, none, none, none]) ∧
    (∀ x y, (s x y).grantsFit 0) := by
  intro s
  refine ⟨by decide, fun x y => grantsFit_of ?_⟩
  exact (by show ∀ d : Door, (base.doors[d]).all (·.grant.isNone) = true; decide)

/-- R122, R123, R125, R126, R130, R132: at the entry into DISCHARGE the selector's ON_CHECK is armed for 1000 ms, the main valve passes at once and
loses its path fault, and the tests cut short wait for NORMAL feedback, end with it, and end unsupervised. -/
theorem test_discharge_arms_checks_and_cuts_tests :
    let s : State :=
      tickDue (withValves [(0, .bankA, .countdown), (1, .bankA, .isolated), (2, .bankA, .isolated), (3, .bankA, .isolated)]
        [(selectorOf 0, supervised), (mainValveOf .bankA, healing true), (selectorOf 1, { supervised with drive := true }),
          (selectorOf 2, healing false), (selectorOf 3, servingOn)]
        [(1, ⟨9000, .first false⟩), (2, ⟨8000, .first true⟩), (3, ⟨7000, .first false⟩)])
    let t := s.enterDischarge 0
    t.valves.outputs[selectorOf 0] = { supervised with drive := true, check := some ⟨.onCheck, 10000, 11000⟩ } ∧
    t.valves.outputs[mainValveOf .bankA] = { supervised with drive := true, feedback := some .active } ∧
    t.valves.outputs[selectorOf 1] = { supervised with check := some ⟨.offCheck, 10000, 11000⟩ } ∧
    t.valves.outputs[selectorOf 2] = { supervised with feedback := some .normal } ∧
    [t.valves.tests[(1 : Zone)], t.valves.tests[(2 : Zone)], t.valves.tests[(3 : Zone)]] = [some ⟨9000, .second false⟩, none, none] ∧
    ((t.ports[portIndex .suppression]).queue.map (·.body)).drop 1 =
      [.releasePathFault (mainValveOf .bankA) none (some .currentAtRest) true (some .active) none,
        .releasePathFault (selectorOf 2) none (some .onCheckFail) false (some .normal) none, .testResult 2 true true false,
        .testResult 3 false false true] := by decide

/-- DischargeAndMinimumOnEnd: the hold time ends now, the set is then empty or not, a minimum-on period runs or not; the minimum-on period ends now,
with a zone discharging and with none; valves that wait for NORMAL feedback, that pass at once and lose a path fault, and that are OFF. -/
theorem witness_DischargeAndMinimumOnEnd :
    let z : ZoneRec :=
      { testZone with state := .discharge, dischargeStart := some 0, cfg := { testZoneCfg with holdTime := 10 } }
    let s (valve : OutputRec) (discharging : List Zone) (minOnEnd : Option Nat) : State :=
      { withZone z with
        valves := valvesServing valve valve,
        banks := base.banks.put (bankIndex .bankA) { BankRec.cleared with discharging := discharging, minOnEnd := minOnEnd } }
    (∀ valve ∈ [{ supervised with drive := true }, healing false, servingOn, serving],
      ∀ discharging ∈ [[], [0], [0, 3]], ∀ minOnEnd ∈ [none, some 10000],
        let u := s valve discharging minOnEnd
        u.zones[(0 : Zone)] = some z ∧ u.valves.tests[(0 : Zone)] = none ∧ u.valves.outputs[selectorOf 0] = valve ∧
        u.valves.outputs[mainValveOf .bankA] = valve ∧ (u.banks[bankIndex .bankA]).discharging = discharging ∧
        (u.banks[bankIndex .bankA]).minOnEnd = minOnEnd) ∧
    z.state = .discharge ∧ z.dischargeStart = some 0 ∧ 0 + z.cfg.holdTime * 1000 ≤ base.nowMs ∧
    (∀ valve discharging minOnEnd, (s valve discharging minOnEnd).grantsFit 0) ∧ 10000 ≤ base.nowMs := by
  intro z s
  refine ⟨by decide, rfl, rfl, by decide, fun valve discharging minOnEnd => grantsFit_of ?_, by decide⟩
  exact (by show ∀ d : Door, (base.doors[d]).all (·.grant.isNone) = true; decide)

/-- CheckFailsAtItsExpiry: each kind of check, at its expiry, of a selector whose zone runs no test, one in its first stage and one in its second,
and of a main valve. -/
theorem witness_CheckFailsAtItsExpiry :
    let checked (kind : CheckKind) : OutputRec := { supervised with check := some ⟨kind, 9000, 10000⟩ }
    let s (kind : CheckKind) (test : Option TestRec) : State :=
      { base with valves := { valvesServing (checked kind) (checked kind) with tests := base.valves.tests.put 0 test } }
    (∀ kind ∈ [CheckKind.onCheck, .offCheck], ∀ test ∈ [none, some ⟨5000, .first false⟩, some ⟨5000, .second true⟩],
      ((s kind test).valves.outputs[selectorOf 0]).check = some ⟨kind, 9000, 10000⟩ ∧
      ((s kind test).valves.outputs[mainValveOf .bankA]).check = some ⟨kind, 9000, 10000⟩ ∧
      (s kind test).valves.tests[(0 : Zone)] = test) ∧
    10000 ≤ (s .onCheck none).nowMs := by decide

/-- A first stage of a test release that ends now, with a selector as given. -/
def testing (selector : OutputRec) : State :=
  { base with
    valves := { valvesServing selector serving with tests := base.valves.tests.put 0 (some ⟨5000, .first true⟩) } }

/-- TestReleaseReachesSecondStage: an unsupervised selector, one whose feedback is ACTIVE, one whose feedback is NORMAL, which has a path fault. -/
theorem witness_TestReleaseReachesSecondStage :
    let active := { servingOn with feedbackLine := some 7, feedback := some .active }
    let normal := healing false
    (testing servingOn).valves.tests[(0 : Zone)] = some ⟨5000, .first true⟩ ∧ 5000 + 5000 ≤ (testing servingOn).nowMs ∧
    (testing servingOn).valves.outputs[selectorOf 0] = servingOn ∧ servingOn.inService = true ∧ servingOn.drive = true ∧
    servingOn.feedbackLine = none ∧ (testing active).valves.outputs[selectorOf 0] = active ∧ active.feedbackLine ≠ none ∧
    active.feedback ≠ some .normal ∧ (testing normal).valves.outputs[selectorOf 0] = normal ∧
    normal.feedback = some .normal ∧ normal.feedbackLine ≠ none ∧ normal.fault = some .onCheckFail := by
  refine ⟨rfl, by decide, rfl, rfl, rfl, rfl, rfl, by decide, by decide, rfl, rfl, by decide, rfl⟩

/-! ## Agent containers -/

/-- Container 0 of a bank, heard before. -/
def testContainer (bank : Option Bank) : ContainerRec :=
  { ContainerRec.fresh ⟨bank, 400, 600, 10⟩ 9500 with edgeSeen := true, prevCalibration := some 3413 }

/-- ContainerTelegramIsDecoded: the shortest calibration the nominal length 4200 admits, after one longer by just under a 64th;
statuses 7 and 8. A unit is 60 cycles. -/
theorem witness_ContainerTelegramIsDecoded :
    (testContainer none).edgeSeen = true ∧ (testContainer none).decoder = .hunting ∧ 3360 ≤ 1048575 ∧ 4 * 4200 ≤ 5 * 3360 ∧
    5 * 3360 ≤ 6 * 4200 ∧ (testContainer none).prevCalibration = some 3413 ∧ (max 3360 3413 - min 3360 3413) * 64 ≤ 3413 ∧
    nibbleOf 3360 (19 * 60) = some 7 ∧ nibbleOf 3360 (27 * 60) = some 15 ∧ nibbleOf 3360 (12 * 60) = some 0 ∧
    nibbleOf 3360 (21 * 60) = some (15 - (7 + 15 + 0 + 0) % 16) ∧ nibbleOf 3360 (20 * 60) = some 8 ∧
    nibbleOf 3360 (19 * 60) = some (15 - (8 + 0 + 0 + 0) % 16) := by decide

/-- ContainerTelegramIsDecoded, the first edge and the discards: a pulse shorter and one longer than N admits; a calibration one cycle further from
the last than a 64th; a pulse that is no nibble, and the next shorter one that is; a check that does not hold. -/
theorem witness_ContainerTelegramIsDecoded_discards :
    let collecting (nibbles : List Nat) := { testContainer none with decoder := .collecting 3360 nibbles }
    ({ testContainer none with edgeSeen := false } : ContainerRec).edgeSeen = false ∧
    ¬(4 * 4200 ≤ 5 * 3359 ∧ 5 * 3359 ≤ 6 * 4200) ∧ ¬(4 * 4200 ≤ 5 * 5041 ∧ 5 * 5041 ≤ 6 * 4200) ∧
    3414 < (max 3360 3414 - min 3360 3414) * 64 ∧ nibbleOf 3360 (27 * 60 + 30) = none ∧ nibbleOf 3360 (27 * 60 + 29) = some 15 ∧
    (collecting [7, 15, 0]).decoder = .collecting 3360 [7, 15, 0] ∧ ([7, 15, 0] : List Nat).length < 4 ∧
    (collecting [7, 15, 0, 0]).decoder = .collecting 3360 [7, 15, 0, 0] ∧ nibbleOf 3360 (20 * 60) = some 8 ∧
    8 ≠ 15 - (7 + 15 + 0 + 0) % 16 := by
  refine ⟨rfl, by decide, by decide, by decide, by decide, by decide, rfl, by decide, rfl, by decide, by decide⟩

/-- `base` with container 0. -/
def withContainer (r : ContainerRec) (k : BankRec) : State :=
  { base with
    containers := { base.containers with table := base.containers.table.put 0 (some r) },
    banks := base.banks.put (bankIndex .bankA) k }

/-- ContainerEventsSettle: a pulse that changes no state, and one that does; a stale expiry of a container without a bank, of a bank whose state
stands, and of a bank whose state changes. -/
theorem witness_ContainerEventsSettle :
    let r := testContainer (some .bankA)
    let due := { r with staleExpiry := 10000 }
    let other := { r with level := some .normal, state := .low }
    (withContainer r .cleared).containers.table[(0 : Container)] = some r ∧
    (r.edge (withContainer r .cleared).containers.nominal 100 10000).foundState = r.state ∧
    (other.edge (withContainer other .cleared).containers.nominal 100 10000).foundState ≠ other.state ∧
    (withContainer due .cleared).containers.table[(0 : Container)] = some due ∧ due.stale = false ∧
    due.staleExpiry ≤ (withContainer due .cleared).nowMs ∧ due.state ≠ .stale ∧ due.cfg.bank = some .bankA ∧
    (testContainer none).cfg.bank = none ∧
    (∀ t, exec (.staleExpiry 0) (withContainer due .cleared) = .next t →
      t.healthyCount .bankA = 0 ∧ BankRec.cleared.state = .empty) ∧
    ∀ t, exec (.staleExpiry 0) (withContainer due { BankRec.cleared with state := .available }) = .next t →
      t.healthyCount .bankA = 0 := by
  refine ⟨rfl, by decide, by decide, rfl, rfl, by decide, by decide, rfl, rfl, ?_, ?_⟩
  · intro t h; cases h; decide
  · intro t h; cases h; decide

/-- LevelsAndStatesAreFound: containers of every mark and level, and the states they are found in (R146). -/
theorem test_found_states :
    let c (stale fault : Bool) (level : Option Level) : ContainerRec :=
      { testContainer none with stale := stale, sensorFault := fault, level := level }
    [c true true (some .low), c false true (some .high), c false false none, c false false (some .low), c false false (some .normal),
      c false false (some .high)].map (·.foundState) = [.stale, .sensorFault, .unknown, .low, .normal, .high] := by decide

/-! ## The pendant line -/

/-- `base` with the pendant receiver and the pattern slots as given. -/
def withPendant (rx : PendantRx) (slot : Pattern) : State :=
  { base with alarms := { base.alarms with rx := rx, slots := base.alarms.slots.put 0 slot } }

/-- PendantReceiverFollowsItsTable: the length bytes at and beyond both ends of their range; each state of the receiver. -/
theorem witness_PendantReceiverFollowsItsTable :
    let s (rx : PendantRx) := withPendant rx .disabled
    (s .skipping).isRunning = true ∧ (s .awaitingLength).alarms.rx = .awaitingLength ∧
    (8 ≤ (8 : Byte).toNat ∧ (8 : Byte).toNat ≤ 32) ∧ (8 ≤ (32 : Byte).toNat ∧ (32 : Byte).toNat ≤ 32) ∧
    ¬(8 ≤ (7 : Byte).toNat ∧ (7 : Byte).toNat ≤ 32) ∧ ¬(8 ≤ (33 : Byte).toNat ∧ (33 : Byte).toNat ≤ 32) ∧
    (s (.receiving 8 [1, 2, 3, 4, 5, 6])).alarms.rx = .receiving 8 [1, 2, 3, 4, 5, 6] ∧
    ([1, 2, 3, 4, 5, 6] : List Byte).length + 1 < 8 ∧ (s .skipping).alarms.rx = .skipping := by
  refine ⟨rfl, rfl, ?_, ?_, ?_, ?_, rfl, ?_, rfl⟩ <;> decide

/-- The bytes before the last of a telegram of eight, and the slot that matches it, with its pendant id at positions 4 to 6. -/
def heard (kind : PendantKind) : State :=
  withPendant (.receiving 8 [1, 2, 3, 4, 0, 0, 9]) ⟨0xF, crc16 [1, 2, 3, 4], kind, 4⟩

/-- `heard`, with the pendant carried by person 5, who is inside. -/
def heardFrom5 (kind : PendantKind) : State :=
  { heard kind with
    personnel := { base.personnel with table := [(5, { testPerson with pendant := some 9 })] },
    occupancy := { base.occupancy with entries := [testEntry] } }

/-- PendantTelegramIsHandled: no slot matches; every kind of telegram, of a pendant that no record carries and of one that person 5 carries, who has
an entry with a deadline. -/
theorem witness_PendantTelegramIsHandled :
    let telegram : List Byte := [1, 2, 3, 4, 0, 0, 9] ++ [7]
    (heard .checkIn).alarms.rx = .receiving 8 [1, 2, 3, 4, 0, 0, 9] ∧ ([1, 2, 3, 4, 0, 0, 9] : List Byte).length + 1 = 8 ∧
    (∀ kind id, ¬(withPendant (.receiving 8 [1, 2, 3, 4, 0, 0, 9]) .disabled).alarms.Brings telegram kind id) ∧
    (∀ kind, (heard kind).alarms.Brings telegram kind 9 ∧ (heardFrom5 kind).alarms.Brings telegram kind 9) ∧
    (∀ kind, (heard kind).byPendant 9 = none ∧ (heardFrom5 kind).byPendant 9 = some 5 ∧ AlarmListSound (heard kind)) ∧
    (heardFrom5 .checkIn).occupancy.entryOf 5 = some testEntry ∧ testEntry.deadline = some 10 ∧
    (heardFrom5 .checkIn).zones[testEntry.zone] = some testZone ∧
    ({ testZone with summary := (heardFrom5 .checkIn).summaryOf 0 } : ZoneRec).summary = (heardFrom5 .checkIn).summaryOf 0 := by
  refine ⟨rfl, rfl, ?_, fun kind => ⟨?_, ?_⟩, fun kind => ⟨rfl, rfl, alarmListSound_of_empty _ rfl (Nat.succ_pos 255) rfl⟩, rfl, rfl,
    rfl, rfl⟩
  · rintro kind id ⟨i, h, -⟩
    exact h.1 (by clear h; revert i; decide)
  all_goals
    refine ⟨0, ⟨?_, ?_, 0, 0, 9, rfl, rfl, rfl, rfl⟩, rfl, fun j h => absurd h (by omega)⟩
    all_goals (cases kind <;> (set_option maxRecDepth 4000 in decide))

/-- An alarm list of 32 records, from number 0 on, each acknowledged or not; the next number is 0 again. -/
def fullList (acknowledged : Bool) : Alarms :=
  { base.alarms with
    records := (List.range 32).map fun i =>
      ⟨i, .pendantDuress, .pendant i, if i = 0 then some 0 else none, 1, 1, acknowledged, false⟩ }

/-- OccupancyTimesAreReached, PendantTelegramIsHandled, the cases of a raise: a full list is sound, its records replaceable or not; a repeat; a raise that is new. -/
theorem witness_Raises (acknowledged : Bool) :
    let s : State := { base with alarms := fullList acknowledged }
    AlarmListSound s ∧ 32 ≤ s.alarms.records.length ∧ (∀ r ∈ s.alarms.records, r.replaceable = acknowledged) ∧
    (⟨31, .pendantDuress, .pendant 31, none, 1, 1, acknowledged, false⟩ : AlarmRec) ∈ s.alarms.records ∧
    (∀ r ∈ s.alarms.records, ¬(r.kind = .manDown ∧ r.source = .person 5)) ∧ base.alarms.records.length < 32 := by
  refine ⟨⟨?_, ?_, ?_, Nat.succ_pos 255, by simp [base, fullList, State.reset, State.cleared, Alarms.cleared]⟩, ?_, ?_, ?_, ?_, by decide⟩
  · simp [fullList]
  · simp only [fullList, List.pairwise_map]
    exact List.pairwise_lt_range.imp fun h => ⟨by simpa using Nat.ne_of_lt h, by simp; omega⟩
  · simp [fullList]; omega
  · simp [fullList]
  · simp [fullList, AlarmRec.replaceable]
  · simp [fullList]
  · simp [fullList]

/-- R108, R160, R161: the record that replaces the oldest one of a full list takes its freed number 0, and holds the zone they share. -/
theorem test_replacement_with_the_freed_number_holds :
    let zone : ZoneRec := { testZone with state := .held, holdAlarms := [0], delay := some 300, remaining := some 200 }
    let t := ({ withZone zone with alarms := fullList true } : State).raiseAlarm .manDown (.person 5) (some 0)
    (t.alarms.records.getLast?).map (·.number) = some 0 ∧ (t.zones[(0 : Zone)]).map (fun r => (r.state, r.holdAlarms)) = some (.held, [0]) := by
  set_option maxRecDepth 4000 in decide

/-! ## The warning panels -/

/-- `base` at a boundary of the slot clock, with the panel of zone 0 and the link's mode as given. -/
def boundary (quiet : Bool) (since : Nat) (p : PanelRec) : State :=
  { base with
    link :=
      { base.link with
        nextBoundary := 10000, quiet := quiet, sinceRefresh := since, panels := base.link.panels.put 0 (some p) } }

/-- SlotBoundaryCarriesOneFrame: an owed off pair; a STATE pair that has changed, and one due by its count; a slot of a zone without a panel; all
idle in SERVICE; in QUIET the 99th and the 100th boundary, and a panel that is not idle. -/
theorem witness_SlotBoundaryCarriesOneFrame :
    let off := PanelRec.fresh
    let changed := { PanelRec.fresh with offOwed := false }
    let due := { changed with lastSent := some (.entryBarred, 0), count := 7 }
    let idle := { changed with display := .clear, lastSent := some (.clear, 0) }
    (boundary false 0 off).isRunning = true ∧ (boundary false 0 off).link.nextBoundary ≤ (boundary false 0 off).nowMs ∧
    (boundary false 0 off).link.quiet = false ∧ (boundary false 0 off).link.allIdle = false ∧
    (boundary false 0 off).link.panels[(boundary false 0 off).link.nextSlot] = some off ∧ off.offOwed = true ∧
    (boundary false 0 changed).link.allIdle = false ∧ changed.offOwed = false ∧ changed.run = none ∧
    changed.lastSent ≠ some (changed.display, changed.seconds) ∧ (boundary false 0 due).link.allIdle = false ∧ 8 ≤ due.count + 1 ∧
    (let s := { boundary false 0 off with link := { (boundary false 0 off).link with nextSlot := 1 } };
      s.link.panels[s.link.nextSlot] = none ∧ s.link.allIdle = false) ∧
    (boundary false 0 idle).link.allIdle = true ∧ (boundary true 98 idle).link.allIdle = true ∧
    (boundary true 98 idle).link.sinceRefresh + 1 < 100 ∧ 100 ≤ (boundary true 99 idle).link.sinceRefresh + 1 ∧
    (boundary true 99 idle).link.quiet = true ∧ (boundary true 0 changed).link.allIdle = false := by
  refine ⟨rfl, by decide, rfl, by decide, rfl, rfl, by decide, rfl, rfl, by decide, by decide, by decide, ⟨rfl, by decide⟩,
    by decide, by decide, by decide, by decide, rfl, by decide⟩

/-- A panel that shows ALARM, its state last sent some slots ago, at a point of its cadence. -/
def alarmPanel (lastSent : Option (Display × Nat)) (count : Nat) (run : CadenceRun) (buffer : Option ConsolePair) : PanelRec :=
  { PanelRec.fresh with display := .alarm, offOwed := false, lastSent := lastSent, count := count, run := some run, buffer := buffer }

/-- The steps of section 10.10. -/
def nestedSteps : List CadenceStep :=
  [.repeatBlock 2, .on 2, .repeatBlock 2, .off 1, .on 1, .endBlock, .endBlock, .off 4]

/-- The link with those steps as its ALARM cadence, at a boundary of the panel of zone 0. -/
def nestedBoundary (p : PanelRec) : State :=
  { boundary false 0 p with
    link := { (boundary false 0 p).link with cadences := (boundary false 0 p).link.cadences.put 3 ⟨4, nestedSteps, false⟩ } }

/-- SlotBoundaryCarriesOneFrame, cadences and text: a step that begins behind REPEAT, behind both uses of END, and past the end of the list; a step
that goes on with no STATE pair due, with TEXT, CLEAR_TEXT or nothing in the buffer. -/
theorem witness_SlotBoundaryCarriesOneFrame_cadence :
    let sent := some (Display.alarm, 0)
    let p (run : CadenceRun) (buffer : Option ConsolePair) := alarmPanel sent 6 run buffer
    (nestedBoundary (p ⟨0, 0, []⟩ none)).link.allIdle = false ∧ cadenceOf .alarm = some 3 ∧
    (nestedBoundary (p ⟨0, 0, []⟩ none)).link.panels[(nestedBoundary (p ⟨0, 0, []⟩ none)).link.nextSlot] = some (p ⟨0, 0, []⟩ none) ∧
    CadenceReaches nestedSteps 1 0 [] true ⟨2, 1, [(1, 2)]⟩ ∧
    CadenceReaches nestedSteps 2 5 [(3, 1), (1, 2)] true ⟨2, 1, [(1, 1)]⟩ ∧
    CadenceReaches nestedSteps 2 8 [] true ⟨2, 1, [(1, 2)]⟩ ∧ 2 < 65536 ∧
    (p ⟨8, 2, []⟩ none).lastSent = some ((p ⟨8, 2, []⟩ none).display, (p ⟨8, 2, []⟩ none).seconds) ∧ ¬8 ≤ (p ⟨8, 2, []⟩ none).count + 1 ∧
    (p ⟨8, 2, []⟩ none).run = some ⟨8, 2, []⟩ ∧ (p ⟨8, 2, []⟩ (some (.text 0x4F 0x4B))).buffer = some (.text 0x4F 0x4B) ∧
    (p ⟨8, 2, []⟩ (some .clearText)).buffer = some .clearText := by
  refine ⟨by decide, rfl, rfl, .repeatBlock rfl (.on (n := 2) rfl),
    .endPass rfl (by decide) (.endAgain rfl (by decide) (.on (n := 2) rfl)), .wrap rfl (.repeatBlock rfl (.on (n := 2) rfl)), by decide,
    rfl, by decide, rfl, rfl, rfl⟩

/-- R172: a display that does not change is sent again in its eighth slot, 3.2 s after the last STATE pair, and NULL in the seven before. -/
theorem test_state_refreshed_every_eighth_slot :
    let sent := { PanelRec.fresh with offOwed := false, lastSent := some (.entryBarred, 0), count := 0 }
    let after (n : Nat) := (fun p : PanelRec => (p.serve 0 State.reset.link.cadences).1)^[n] sent
    ((after 6).serve 0 State.reset.link.cadences).2.code = 0x00 ∧ ((after 7).serve 0 State.reset.link.cadences).2.code = 0x01 ∧
    (after 8).count = 0 := by decide

/-- Section 10.10, worked sequence: the SOUNDER pairs, and position, count and stack, of the slots at which a step begins. -/
theorem test_cadence_worked_sequence :
    let step (position : Nat) (stack : List (Nat × Nat)) := takeStep nestedSteps 16 position stack
    step 0 [] = some (true, ⟨2, 1, [(1, 2)]⟩) ∧ step 2 [(1, 2)] = some (false, ⟨4, 0, [(3, 2), (1, 2)]⟩) ∧
    step 4 [(3, 2), (1, 2)] = some (true, ⟨5, 0, [(3, 2), (1, 2)]⟩) ∧
    step 5 [(3, 2), (1, 2)] = some (false, ⟨4, 0, [(3, 1), (1, 2)]⟩) ∧
    step 5 [(3, 1), (1, 2)] = some (true, ⟨2, 1, [(1, 1)]⟩) ∧ step 2 [(1, 1)] = some (false, ⟨4, 0, [(3, 2), (1, 1)]⟩) ∧
    step 5 [(3, 1), (1, 1)] = some (false, ⟨8, 3, []⟩) ∧ step 8 [] = some (true, ⟨2, 1, [(1, 2)]⟩) := by decide

/-- R185: READ_STATUS gives a cadence's steps, its tone and whether it is the default. -/
theorem test_read_status_gives_cadence_steps :
    cadenceField ⟨4, [.repeatBlock 2, .on 2, .endBlock], false⟩ = [3, 2, 2, 0, 2, 3, 0, 4, 0] := by decide

/-! ## The master ports -/

/-- RequestFrameIsGathered: the CRC's two bytes for an empty payload; the longest payload has 248 bytes. -/
theorem witness_RequestFrameIsGathered :
    base.portHears .console = true ∧ (base.ports[portIndex .console]).rx = .hunt ∧ ([] : List Byte).length ≤ 248 ∧
    (List.replicate 248 (0 : Byte)).length ≤ 248 ∧
    ∃ first second, crcBytes (crc16 [2, 8, 1]) = [first, second] := by
  refine ⟨rfl, rfl, by decide, by rw [List.length_replicate], _, _, rfl⟩

/-- PortEventsFollowTheirRules: a framing error, a length byte beyond each end of its range, and a CRC that disagrees; an answer being sent. -/
theorem witness_PortEventsFollowTheirRules :
    let at' (rx : Assembly) : State := base.updPort .access fun r => { r with rx := rx, tx := some [[1]] }
    (at' .length).portHears .access = true ∧ ((at' .length).ports[portIndex .access]).rx = .length ∧
    ¬(2 ≤ (1 : Byte).toNat ∧ (1 : Byte).toNat ≤ 250) ∧ ¬(2 ≤ (251 : Byte).toNat ∧ (251 : Byte).toNat ≤ 250) ∧
    ((at' (.check 2 [8, 1] (some 0))).ports[portIndex .access]).rx = .check 2 [8, 1] (some 0) ∧
    ((at' (.check 2 [8, 1] (some 0))).ports[portIndex .access]).frameTaken 0 = none ∧
    ((at' .length).ports[portIndex .access]).tx ≠ none := by
  refine ⟨rfl, rfl, by decide, by decide, rfl, ?_, by decide⟩
  set_option maxRecDepth 4000 in decide

/-- AnswerSegmentsRejoin: content of 1968 bytes. -/
theorem witness_AnswerSegmentsRejoin : (List.replicate 1968 (0 : Byte)).length ≤ 1968 := by rw [List.length_replicate]

/-- RequestsAreChecked: FETCH_NOTICES before STARTUP_DONE; ARM_ZONE on the Console port; a kind that no request has. -/
theorem witness_RequestsAreChecked :
    let early := asking State.reset .console 0x08 []
    let wrong := asking base .console 0x20 [0]
    let unknown := asking base .console 0x09 []
    early.portHears .console = true ∧ early.isRunning = false ∧
    (early.ports[portIndex .console]).frameTaken (lastByte 0x08 []) = some ⟨0x08, 1, []⟩ ∧
    wrong.isRunning = true ∧ (wrong.ports[portIndex .console]).frameTaken (lastByte 0x20 [0]) = some ⟨0x20, 1, [0]⟩ ∧
    (Rights.only .suppression).allow .console = false ∧
    (unknown.ports[portIndex .console]).frameTaken (lastByte 0x09 []) = some ⟨0x09, 1, []⟩ ∧
    ∀ row ∈ requestRows, (0x09 : Byte) ≠ row.code := by
  refine ⟨rfl, rfl, frameTaken_asking _ _ _ _ (by decide), rfl, frameTaken_asking _ _ _ _ (by decide), rfl,
    frameTaken_asking _ _ _ _ (by decide), ?_⟩
  simp [requestRows]

/-- RequestsAreChecked, the requests on a zone: none, two and one zone numbers; zone 7, which is not configured, and 8, which is no zone; for
RELEASE_REQUEST no kind, and a kind that is neither AUTO nor MANUAL. -/
theorem witness_RequestsAreChecked_zones (row : RequestRow) (h : row ∈ zoneRequestRows) (payload : List Byte) :
    let ready (code : Byte) :=
      RequestReady (asking base .suppression code payload) .suppression (lastByte code payload) code ⟨code, 1, payload⟩
    let unknown (n : Byte) : Prop := ∀ z : Zone, z.val = n.toNat → base.zones[z] = none
    ready row.code ∧ ready 0x23 ∧ ([] : List Byte).length ≠ 1 ∧ ([0, 0] : List Byte).length ≠ 1 ∧ unknown 7 ∧ unknown 8 ∧ unknown 255 ∧
    (∀ n kind, ([0] : List Byte) ≠ [n, releaseKindCode kind]) ∧ ∀ n kind, ([0, 2] : List Byte) ≠ [n, releaseKindCode kind] := by
  refine ⟨requestReady_asking _ _ _ _ rfl ?_, requestReady_asking _ _ _ _ rfl (by decide), by decide, by decide, by decide, by decide,
    by decide, fun n kind => by simp, fun n kind h => ?_⟩
  · simp only [zoneRequestRows, List.mem_cons, List.not_mem_nil, or_false] at h
    rcases h with rfl | rfl | rfl | rfl | rfl | rfl <;> decide
  · cases kind <;> simp [releaseKindCode] at h

/-- ReadsAnswerAndChangeNothing, FetchTakesTheFront: read requests on the Console port of items that are configured and of items that are not;
READ_STATUS before STARTUP_DONE. -/
theorem witness_reads_and_FetchTakesTheFront :
    let ready (code : Byte) (payload : List Byte) :=
      RequestReady (asking (withLine (testLine .unused)) .console code payload) .console (lastByte code payload) code
        ⟨code, 1, payload⟩
    let s := withLine (testLine .unused)
    ready 0x01 [] ∧ ready 0x05 [] ∧ ready 0x06 [] ∧ ready 0x08 [] ∧ ready 0x02 [0] ∧ ready 0x04 [7] ∧ ready 0x03 [15] ∧
    ready 0x07 [63] ∧ s.zones[(0 : Zone)] = some testZone ∧ s.zones[(7 : Zone)] = none ∧ s.doors[(0 : Door)] = some testDoor ∧
    s.doors[(15 : Door)] = none ∧ s.lines[(0 : Line)] = some (testLine .unused) ∧ s.lines[(63 : Line)] = none ∧
    RequestReady (asking base .access 0x12 (num2 5)) .access (lastByte 0x12 (num2 5)) 0x12 ⟨0x12, 1, num2 5⟩ ∧
    base.personAt 5 = some testPerson ∧ base.personAt 1023 = none ∧ 65535 < 65536 := by
  refine ⟨?_, ?_, ?_, ?_, ?_, ?_, ?_, ?_, rfl, rfl, rfl, rfl, rfl, rfl, ?_, rfl, rfl, by decide⟩ <;>
    exact requestReady_asking _ _ _ _ rfl (by decide)

/-- ReadsAnswerAndChangeNothing: READ_STATUS before STARTUP_DONE. -/
theorem witness_ReadsAnswerAndChangeNothing_early :
    let early := asking State.reset .access 0x01 []
    early.isRunning = false ∧ early.portHears .access = true ∧
    (early.ports[portIndex .access]).frameTaken (lastByte 0x01 []) = some ⟨0x01, 1, []⟩ :=
  ⟨rfl, rfl, frameTaken_asking _ _ _ _ (by decide)⟩

/-- ReadsAnswerAndChangeNothing, the trouble output: it is asserted before STARTUP_DONE, and by an OFFLINE module alone; with everything well it is not. -/
theorem test_trouble_output :
    let lost : State := withBus { testModule with online := false } .idle
    State.reset.troubleOutput = true ∧ base.troubles = [] ∧ base.troubleOutput = false ∧ lost.Troubled (.module 0) ∧
    lost.troubles = [.module 0] := by
  refine ⟨by decide, by decide, by decide, ⟨_, rfl, rfl⟩, by decide⟩

/-! ## The Access port -/

/-- PersonsAreWrittenAndDeleted: a person written to an empty place and over a record, one refused for another's credential, one deleted. -/
theorem witness_PersonsAreWrittenAndDeleted :
    let record (i : Nat) : List Byte := num2 i ++ num4 7000 ++ [0, 0, 0, 1, 0, 0, 0, 0]
    RequestReady (asking base .access 0x10 (record 5)) .access (lastByte 0x10 (record 5)) 0x10 ⟨0x10, 1, record 5⟩ ∧
    readPersonRecord (record 5) = some (5, testPerson) ∧ base.writeRefused 5 testPerson = none ∧
    (base.personAt 5).map (·.lonePermitted) = some testPerson.lonePermitted ∧ base.writeRefused 6 testPerson = some .duplicate ∧
    base.writeRefused 1023 { testPerson with credential := 1 } = none ∧ base.personAt 1023 = none ∧
    RequestReady (asking base .access 0x11 (num2 5)) .access (lastByte 0x11 (num2 5)) 0x11 ⟨0x11, 1, num2 5⟩ ∧
    5 < 1024 ∧ base.personAt 5 = some testPerson ∧ (∀ e ∈ base.occupancy.entries, e.person ≠ 5) ∧
    ∀ d r, base.doors[(d : Door)] = some r → r.pairing = none := by
  refine ⟨requestReady_asking _ _ _ _ rfl (by decide), by set_option maxRecDepth 4000 in decide, by decide, by decide,
    by decide, by decide, rfl, requestReady_asking _ _ _ _ rfl (by decide), by decide, rfl, by decide, ?_⟩
  intro d r e
  have := doors_all (s := base) (p := fun _ r => r.pairing.isNone) (by decide) d r e
  simpa using this

/-- PersonsAreWrittenAndDeleted: a person is deleted who is inside and waits at a door; the door's zone keeps its state. -/
theorem witness_PersonsAreWrittenAndDeleted_listed :
    let r := { testDoor with pairing := some ⟨⟨5, false⟩, 12000⟩ }
    let s : State := { withDoor r with occupancy := { base.occupancy with entries := [testEntry] } }
    RequestReady (asking s .access 0x11 (num2 5)) .access (lastByte 0x11 (num2 5)) 0x11 ⟨0x11, 1, num2 5⟩ ∧
    s.personAt 5 = some testPerson ∧ s.occupancy.entryOf 5 = some testEntry ∧ s.doors[(0 : Door)] = some r ∧
    ∀ t, exec (.deletePerson .access (lastByte 0x11 (num2 5))) (asking s .access 0x11 (num2 5)) = .next t →
      (t.zones[r.cfg.inside]).map (fun x => x.state) = (s.zones[r.cfg.inside]).map fun x => x.state := by
  refine ⟨requestReady_asking _ _ _ _ rfl (by decide), rfl, rfl, rfl, ?_⟩
  intro t h
  set_option maxRecDepth 20000 in
  cases h
  decide

/-- PersonsAreWrittenAndDeleted, the lone condition: person 5, who is alone in a zone, is written with another lone-permitted flag, and without one,
and is deleted; the list of alarms is sound. -/
theorem witness_PersonsAreWrittenAndDeleted_alone :
    let s := alone testPerson (.expired 5)
    let record (permitted : Byte) : List Byte := num2 5 ++ num4 7000 ++ [0, 0, 0, 1, 0, 0, permitted, 0]
    (∀ permitted, RequestReady (asking s .access 0x10 (record permitted)) .access (lastByte 0x10 (record permitted)) 0x10
      ⟨0x10, 1, record permitted⟩) ∧
    readPersonRecord (record 1) = some (5, { testPerson with lonePermitted := true }) ∧ readPersonRecord (record 0) = some (5, testPerson) ∧
    s.writeRefused 5 { testPerson with lonePermitted := true } = none ∧ s.personAt 5 = some testPerson ∧
    s.occupancy.entryOf 5 = some testEntry ∧ AlarmListSound (asking s .access 0x10 (record 1)) ∧
    RequestReady (asking s .access 0x11 (num2 5)) .access (lastByte 0x11 (num2 5)) 0x11 ⟨0x11, 1, num2 5⟩ ∧
    AlarmListSound (asking s .access 0x11 (num2 5)) := by
  refine ⟨fun _ => requestReady_asking _ _ _ _ rfl (by decide), ?_, ?_, by decide, rfl, rfl, alarmListSound_raised _ rfl,
    requestReady_asking _ _ _ _ rfl (by decide), alarmListSound_raised _ rfl⟩
  all_goals (set_option maxRecDepth 4000 in decide)

/-- PersonsAreWrittenAndDeleted, the refusals: a PIN of 3 digits, a bound that is no date, bounds in the wrong order, an index beyond 1023; an empty
place held by a deleted entry; a pendant another record carries; a deletion of an empty place and of index 65535. -/
theorem witness_PersonsAreWrittenAndDeleted_refused :
    let other : State := { base with personnel := { base.personnel with table := [(6, { testPerson with pendant := some 9 })] } }
    let held : State := { other with occupancy := { base.occupancy with entries := [{ testEntry with deleted := true }] } }
    let x := { testPerson with credential := 1 }
    base.writeRefused 5 { x with pin := some [1, 2, 3] } = some .badFormat ∧
    base.writeRefused 5 { x with validTo := some ⟨1, 2, 29⟩ } = some .badFormat ∧
    base.writeRefused 5 { x with validFrom := some ⟨1, 2, 2⟩, validTo := some ⟨1, 2, 1⟩ } = some .badFormat ∧
    base.writeRefused 1024 x = some .badFormat ∧ held.writeRefused 5 x = some .wrongState ∧
    other.writeRefused 7 { x with pendant := some 9 } = some .duplicate ∧ base.personAt 7 = none ∧ 7 < 65536 ∧ 1023 < 65535 := by decide

/-- TablesAreWrittenByRequest: a group of permissions and one permission too few, a schedule, 32 and 33 holidays, a commit, text for the panel of
zone 0, with the ready mark clear and set. -/
theorem witness_TablesAreWrittenByRequest :
    let ready (p : Port) (code : Byte) (payload : List Byte) :=
      RequestReady (asking base p code payload) p (lastByte code payload) code ⟨code, 1, payload⟩
    let dates (n : Nat) : List Byte := byteOf n :: ((List.range n).flatMap fun i => [byteOf i, 1, 1])
    ready .access 0x13 (15 :: List.replicate 8 17) ∧ readGroup (15 :: List.replicate 8 17) = some (15, .replicate 8 .always) ∧
    readGroup (15 :: List.replicate 7 17) = none ∧ ready .access 0x14 (0 :: List.replicate 8 0) ∧
    readSchedule (0 :: List.replicate 8 0) = some (0, .replicate 8 []) ∧ ready .access 0x15 [0] ∧
    readHolidays [0] = some [] ∧ ((readHolidays (dates 33)).map fun l => decide (32 < l.length)) = some true ∧
    ((readHolidays (dates 32)).map fun l => decide (32 < l.length)) = some false ∧ base.schedules.ready = false ∧
    ready .access 0x16 [] ∧ ready .console 0x35 [0, 0x20, 0x7F] ∧ ready .console 0x35 [0] ∧
    base.link.panels[(0 : Zone)] = some .fresh ∧ PanelRec.fresh.buffer = none := by
  refine ⟨requestReady_asking _ _ _ _ rfl (by decide), by decide, by decide, requestReady_asking _ _ _ _ rfl (by decide),
    by decide, requestReady_asking _ _ _ _ rfl (by decide), by decide, ?_, ?_, rfl,
    requestReady_asking _ _ _ _ rfl (by decide), requestReady_asking _ _ _ _ rfl (by decide),
    requestReady_asking _ _ _ _ rfl (by decide), rfl, rfl⟩
  all_goals (set_option maxRecDepth 20000 in decide)

/-- SetTimeEvaluatesModes: a time in range at which no mode changes, hour 24, and a time that takes a zone with an entry to WORKING. -/
theorem witness_SetTimeEvaluatesModes :
    let now : DateTime := ⟨⟨26, 3, 4⟩, 23, 59, 59⟩
    let bad : DateTime := ⟨⟨26, 3, 4⟩, 24, 0, 0⟩
    RequestReady (asking base .access 0x17 (dateTimeField now)) .access (lastByte 0x17 (dateTimeField now)) 0x17
      ⟨0x17, 1, dateTimeField now⟩ ∧
    RequestReady (asking base .access 0x17 (dateTimeField bad)) .access (lastByte 0x17 (dateTimeField bad)) 0x17
      ⟨0x17, 1, dateTimeField bad⟩ ∧
    now.valid = true ∧ bad.valid = false ∧ bad.hour < 256 ∧
    (∀ z : Zone, base.schedules.modes[z] = .after ∧
      ({ base with time := { base.time with tod := some now, todMs := 0 } } : State).evaluatedMode z = .after) ∧
    RequestReady (asking (scheduled 9 0 0) .access 0x17 (dateTimeField ⟨⟨26, 3, 4⟩, 12, 30, 0⟩)) .access
      (lastByte 0x17 (dateTimeField ⟨⟨26, 3, 4⟩, 12, 30, 0⟩)) 0x17 ⟨0x17, 1, dateTimeField ⟨⟨26, 3, 4⟩, 12, 30, 0⟩⟩ ∧
    (scheduled 9 0 0).schedules.modes[(0 : Zone)] = .after ∧ (scheduled 9 0 0).occupancy.entries = [testEntry] := by
  refine ⟨requestReady_asking _ _ _ _ rfl (by decide), requestReady_asking _ _ _ _ rfl (by decide), by decide, by decide,
    by decide, by decide, requestReady_asking _ _ _ _ rfl (by decide), by decide, rfl⟩

/-- GrantsAreInstalledByRequest: DOOR_PULSE; RESPONSE_ENTRY for nobody and for person 5, with an alarm in the zone. -/
theorem witness_GrantsAreInstalledByRequest :
    let a : AlarmRec := ⟨0, .manDown, .person 5, some 0, 1, 1, false, true⟩
    let s : State := { base with alarms := { base.alarms with records := [a] } }
    base.doors[(0 : Door)] = some testDoor ∧ testDoor.state = .secure ∧ testDoor.grant = none ∧
    base.partnerSecure testDoor.cfg = true ∧ base.zones[testDoor.cfg.inside] = some testZone ∧ zoneBars testZone = false ∧
    base.entryCondition testDoor.cfg [] = true ∧
    RequestReady (asking base .access 0x18 [0]) .access (lastByte 0x18 [0]) 0x18 ⟨0x18, 1, [0]⟩ ∧
    RequestReady (asking s .console 0x34 [0, 0]) .console (lastByte 0x34 [0, 0]) 0x34 ⟨0x34, 1, [0, 0]⟩ ∧
    RequestReady (asking s .console 0x34 (0 :: 1 :: num2 5)) .console (lastByte 0x34 (0 :: 1 :: num2 5)) 0x34
      ⟨0x34, 1, 0 :: 1 :: num2 5⟩ ∧
    s.alarms.inZone testDoor.cfg.inside ≠ [] ∧ testZone.state = .guarded ∧ (s.personAt 5).isSome = true ∧
    s.placesFree testDoor.cfg.inside 1 = true := by
  refine ⟨rfl, rfl, rfl, by decide, rfl, rfl, by decide, requestReady_asking _ _ _ _ rfl (by decide),
    requestReady_asking _ _ _ _ rfl (by decide), requestReady_asking _ _ _ _ rfl (by decide), by decide, rfl, rfl, by decide⟩

/-- GrantsAreInstalledByRequest, the refusals: a request too long, of no door, of door 16, with a presence byte of 2, and for person 1024; an OFFLINE
door and an UNLOCKED one; a zone that bars entry; a condition that is never met; a partner that is not SECURE; no alarm; a full zone. -/
theorem witness_GrantsAreInstalledByRequest_refused :
    let ready (p : Port) (code : Byte) (payload : List Byte) :=
      RequestReady (asking base p code payload) p (lastByte code payload) code ⟨code, 1, payload⟩
    let open' : State := { base with doors := base.doors.put 1 (some { testDoor with state := .opened }) }
    ready .access 0x18 [0, 0] ∧ ready .access 0x18 [9] ∧ (∀ d : Door, d.val = (9 : Byte).toNat → base.doors[d] = none) ∧
    (∀ d : Door, d.val = (16 : Byte).toNat → base.doors[d] = none) ∧ ready .console 0x34 [0, 2] ∧
    (∀ n, ([0, 2] : List Byte) ≠ [n, 0]) ∧ ready .console 0x34 (0 :: 1 :: num2 1024) ∧ base.personAt 1024 = none ∧
    (DoorRec.state { testDoor with state := .offline } = .offline) ∧
    ((granted 12000).state = .unlocked ↔ (granted 12000).grant ≠ none) ∧ (granted 12000).state ≠ .secure ∧
    zoneBars { testZone with entryHold := true } = true ∧ base.entryCondition { testDoorCfg with condition := .never } [] = false ∧
    open'.partnerSecure { testDoorCfg with partner := some 1 } = false ∧ base.alarms.inZone testDoor.cfg.inside = [] ∧
    (counting 20).state ≠ .isolated ∧ (counting 20).state ≠ .guarded ∧ (counting 20).state ≠ .occupiedHold ∧
    ({ base with occupancy := { base.occupancy with reserved := base.occupancy.reserved.put 0 4 } } : State).placesFree 0 1 = false := by
  refine ⟨requestReady_asking _ _ _ _ rfl (by decide), requestReady_asking _ _ _ _ rfl (by decide), by decide, by decide,
    requestReady_asking _ _ _ _ rfl (by decide), by decide, requestReady_asking _ _ _ _ rfl (by decide), rfl, rfl, by decide,
    by decide, rfl, by decide, by decide, rfl, by decide, by decide, by decide, by decide⟩

/-! ## The Suppression port -/

/-- The zone requests: each request of one zone is to be decided whatever the zone's record, so every state of the zone, an EMPTY bank
and a running test meet the premises. -/
theorem witness_zone_requests (r : ZoneRec) (v : Valves) (code kind : Byte)
    (h : code = 0x20 ∨ code = 0x21 ∨ code = 0x22 ∨ code = 0x24 ∨ code = 0x25 ∨ code = 0x26) :
    let s : State := { withZone r with valves := v }
    RequestReady (asking s .suppression code [0]) .suppression (lastByte code [0]) code ⟨code, 1, [0]⟩ ∧
    RequestReady (asking s .suppression 0x23 [0, kind]) .suppression (lastByte 0x23 [0, kind]) 0x23 ⟨0x23, 1, [0, kind]⟩ ∧
    (asking s .suppression code [0]).zones[(0 : Zone)] = some r ∧ (asking s .suppression code [0]).valves = v := by
  refine ⟨requestReady_asking _ _ _ _ rfl ?_, requestReady_asking _ _ _ _ rfl (by decide), rfl, rfl⟩
  rcases h with h | h | h | h | h | h <;> subst h <;> decide

/-- ReleaseStartsByKind: an occupied zone, an unoccupied one, one in OCCUPIED_HOLD, and a zone nobody waits to enter. -/
theorem witness_ReleaseStartsByKind :
    let listed := { testZone with summary := { testZone.summary with count := 1 } }
    let clear := { testZone with summary := { testZone.summary with uncertain := false } }
    releaseKindCode .auto = 0 ∧ releaseKindCode .manual = 1 ∧ 0 < listed.summary.count ∧ listed.state = .guarded ∧
    ¬(0 < clear.summary.count ∨ clear.summary.uncertain = true) ∧ (withZone clear).noneWaiting 0 ∧
    (withZone listed).noneWaiting 0 ∧ (counting 20).kind = some .auto ∧ (counting 20).state = .countdown := by
  refine ⟨rfl, rfl, by decide, rfl, by decide, noneWaiting_of (by decide), noneWaiting_of (by decide), rfl, rfl⟩

/-- ReleaseStartsByKind, the withdrawal order: the one door into the zone is UNLOCKED by an ENTRY grant and has a pairing record; a RESPONSE
grant is ordered off by a countdown and stands in OCCUPIED_HOLD, and an EXIT grant stands in both. -/
theorem witness_ReleaseStartsByKind_withdraws :
    let door (kind : GrantKind) : DoorRec :=
      { testDoor with state := .unlocked, grant := some ⟨kind, [⟨5, false⟩], 18000, 1⟩, pairing := some ⟨⟨6, false⟩, 12000⟩ }
    (withDoor (door .entry)).zones[(0 : Zone)] = some testZone ∧ testZone.state = .guarded ∧
    (withDoor (door .entry)).doors[(0 : Door)] = some (door .entry) ∧ (door .entry).cfg.inside = 0 ∧
    (withDoor (door .entry)).onlyDoor 0 0 ∧ (door .entry).ordered .occupiedHold ≠ none ∧ (door .command).ordered .occupiedHold ≠ none ∧
    (door .response).ordered .occupiedHold = none ∧ (door .response).ordered .countdown ≠ none ∧ (door .exit).ordered .held = none := by
  refine ⟨rfl, rfl, rfl, rfl, ?_, by decide, by decide, by decide, by decide, by decide⟩
  intro d r h
  have one : ∀ d : Door, d = 0 ∨ base.doors[d] = none := by decide
  rcases one d with rfl | e
  · cases h; decide
  · have hd : d ≠ 0 := by rintro rfl; cases e
    have : base.doors[d] = some r := by
      have h' := h
      simp [withDoor, Tab.put, Vector.getElem_set] at h'
      rcases Nat.eq_zero_or_pos d.val with z | z
      · exact absurd (Fin.ext z) hd
      · have z' : ¬(0 = d.val) := by omega
        simp [z'] at h'; exact h'
    rw [e] at this; cases this

/-- TestReleaseBegins: an ISOLATED zone with an unsupervised selector, one that has yet to report, one whose feedback is ACTIVE, which has a path
fault, an open main valve, and a running test. -/
theorem witness_TestReleaseBegins :
    let zone := { testZone with state := .isolated }
    let s (selector main : OutputRec) : State := { withZone zone with valves := valvesServing selector main }
    zone.state = .isolated ∧ (s serving serving).valves.tests[(0 : Zone)] = none ∧
    ((s serving servingOn).valves.outputs[mainValveOf zone.cfg.bank]).drive = true ∧
    ((s serving serving).valves.outputs[mainValveOf zone.cfg.bank]).drive = false ∧
    (s serving serving).valves.outputs[selectorOf 0] = serving ∧ serving.inService = true ∧ serving.drive = false ∧
    serving.feedbackLine = none ∧ (s supervised serving).valves.outputs[selectorOf 0] = supervised ∧
    supervised.feedback ≠ some .active ∧ (healing true).inService = true ∧ (healing true).drive = false ∧
    (healing true).feedbackLine ≠ none ∧ (healing true).feedback = some .active ∧ (healing true).fault = some .currentAtRest ∧
    (s (healing true) serving).valves.outputs[selectorOf 0] = healing true ∧
    (testing serving).valves.tests[(0 : Zone)] ≠ none := by
  refine ⟨rfl, rfl, rfl, rfl, rfl, rfl, rfl, rfl, rfl, by decide, rfl, rfl, by decide, rfl, rfl, rfl, by decide⟩

/-! ## The Console port -/

/-- AlarmsAreAcknowledgedAndCleared: a RAISED record, an ACKNOWLEDGED one with its condition and one without, whose zone is HELD by it alone and one
whose zone is not. -/
theorem witness_AlarmsAreAcknowledgedAndCleared :
    let a (acknowledged condition : Bool) : AlarmRec :=
      ⟨255, .manDown, .person 5, some 0, 1, 1, acknowledged, condition⟩
    let held := { counting 20 with state := .held, holdAlarms := [255] }
    let s (z : ZoneRec) (x : AlarmRec) : State := { withZone z with alarms := { base.alarms with records := [x] } }
    RequestReady (asking (s held (a false true)) .console 0x30 [255]) .console (lastByte 0x30 [255]) 0x30 ⟨0x30, 1, [255]⟩ ∧
    RequestReady (asking (s held (a true false)) .console 0x31 [255]) .console (lastByte 0x31 [255]) 0x31 ⟨0x31, 1, [255]⟩ ∧
    [byteOf 255] = [(255 : Byte)] ∧ (s held (a false true)).alarms.numbered 255 = some (a false true) ∧
    (s held (a true false)).alarms.numbered 255 = some (a true false) ∧ (a true false).acknowledged = true ∧
    (a true false).condition = false ∧ (s held (a true false)).zones[(0 : Zone)] = some held ∧ held.state = .held ∧
    (a true false).kind.holds = true ∧ held.holdLines = [] ∧ held.holdAlarms = [255] ∧
    (s held (a true false)).grantsFit 0 ∧ (s testZone (a true true)).zones[(0 : Zone)] = some testZone ∧
    testZone.state ≠ .held := by
  refine ⟨requestReady_asking _ _ _ _ rfl (by decide), requestReady_asking _ _ _ _ rfl (by decide), rfl, rfl, rfl, rfl, rfl, rfl,
    rfl, rfl, rfl, rfl, grantsFit_of (by decide), rfl, by decide⟩

/-- SweepAndForceExitRewriteTheList: a sweep that finds person 5, who is listed there or in another zone, one refused for a person listed twice, one
that finds nobody; FORCE_EXIT of person 5, and of index 1024. What a zone does with its new summary is in witness_SummaryHanded. -/
theorem witness_SweepAndForceExitRewriteTheList :
    let s := occupied testZone
    let moved : State := { s with occupancy := { s.occupancy with entries := [{ testEntry with zone := 1 }] } }
    let found : List Byte := 0 :: 1 :: num2 5
    RequestReady (asking s .console 0x32 found) .console (lastByte 0x32 found) 0x32 ⟨0x32, 1, found⟩ ∧
    s.occupancy.entries.Pairwise (fun x y => x.person ≠ y.person) ∧ readSweep found = some ((0 : Zone).val, [5]) ∧
    s.zones[(0 : Zone)] = some testZone ∧ s.sweepRefused 0 testZone [5] = none ∧ s.sweepRefused 0 testZone [] = none ∧
    s.sweepRefused 0 testZone [5, 5] = some .badFormat ∧ moved.sweepRefused 0 testZone [5] = none ∧
    moved.occupancy.entryOf 5 = some { testEntry with zone := 1 } ∧
    RequestReady (asking s .console 0x33 (num2 5)) .console (lastByte 0x33 (num2 5)) 0x33 ⟨0x33, 1, num2 5⟩ ∧
    s.occupancy.entryOf 5 ≠ none ∧ 5 ≤ 1023 ∧ 1024 > 1023 ∧ 1024 < 65536 := by
  refine ⟨requestReady_asking _ _ _ _ rfl (by decide), by decide, rfl, rfl, by decide, by decide, by decide,
    by decide, rfl, requestReady_asking _ _ _ _ rfl (by decide), by decide, by decide, by decide, by decide⟩

/-- SweepAndForceExitRewriteTheList, the conditions that end: person 5 is alone in the zone swept, or left by force; the list of alarms is sound. -/
theorem witness_SweepAndForceExitRewriteTheList_alone :
    let s := alone testPerson (.expired 5)
    let found : List Byte := [0, 0]
    RequestReady (asking s .console 0x32 found) .console (lastByte 0x32 found) 0x32 ⟨0x32, 1, found⟩ ∧
    readSweep found = some ((0 : Zone).val, []) ∧ s.occupancy.entriesIn 0 = [testEntry] ∧
    AlarmListSound (asking s .console 0x32 found) ∧
    RequestReady (asking s .console 0x33 (num2 5)) .console (lastByte 0x33 (num2 5)) 0x33 ⟨0x33, 1, num2 5⟩ ∧
    s.occupancy.entryOf 5 = some testEntry ∧ AlarmListSound (asking s .console 0x33 (num2 5)) :=
  ⟨requestReady_asking _ _ _ _ rfl (by decide), rfl, rfl, alarmListSound_raised _ rfl, requestReady_asking _ _ _ _ rfl (by decide),
    rfl, alarmListSound_raised _ rfl⟩

/-- SweepAndForceExitRewriteTheList, the refusals: 17 persons; an index beyond 1023; more than the zone's limit; a person without a record; a zone
in DISCHARGE; reserved places up to the limit; 64 reserved places elsewhere; a zone that is not configured. -/
theorem witness_SweepAndForceExitRewriteTheList_refused :
    let reserved (z : Zone) (n : Nat) : State :=
      { base with occupancy := { base.occupancy with reserved := base.occupancy.reserved.put z n } }
    base.sweepRefused 0 testZone (List.range 17) = some .badFormat ∧ base.sweepRefused 0 testZone [1024] = some .badFormat ∧
    base.sweepRefused 0 testZone [1, 2, 3, 4, 5] = some .badFormat ∧ base.sweepRefused 0 testZone [6] = some .notFound ∧
    base.sweepRefused 0 { testZone with state := .discharge } [5] = some .wrongState ∧
    (reserved 0 4).sweepRefused 0 testZone [5] = some .zoneFull ∧ (reserved 1 64).sweepRefused 0 testZone [5] = some .zoneFull ∧
    (∀ z : Zone, z.val = 7 → base.zones[z] = none) := by decide

/-! ## Invariants -/

/-- QueuesStayBounded, HoldSetsStayMatched, AlarmListStaysSound, OccupancyIsSound, ValvesKeepFollowingZones, DoorsAreSound: the reset state, which meets
every invariant, with its first command waiting, steps. -/
theorem witness_invariants :
    let s : State := { State.reset with pending := [.configRecordRead [1, 0, 0, 255]] }
    QueuesBounded s ∧ HoldSetsMatch s ∧ AlarmListSound s ∧ OccupancySound s ∧ ValvesFollowZones s ∧ DoorsSound s ∧
    ∃ t, step s = .next t ∧ t.loader.recordsTaken = 1 := by
  refine ⟨?_, ?_, ?_, ?_, ?_, ?_, _, rfl, by decide⟩
  · intro q; cases q <;> decide
  · intro z r h
    exact absurd h (by revert z; simp [State.reset, State.cleared])
  · refine ⟨by decide, by decide, by decide, by decide, by decide⟩
  · refine ⟨by decide, by decide, fun z r h => absurd h ?_, by decide, by decide, fun d r g h => absurd h ?_, fun _ => ⟨rfl, by decide⟩⟩
    · revert z; simp [State.reset, State.cleared]
    · revert d; simp [State.reset, State.cleared]
  · have none_discharges : ∀ z bank, ¬State.discharges { State.reset with pending := [.configRecordRead [1, 0, 0, 255]] } z bank := by
      rintro z bank ⟨r, h, _⟩
      revert h
      simp [State.reset, State.cleared]
    refine ⟨by decide, fun z h => absurd h (by revert z; decide), fun bank z => ?_, fun bank h => absurd h (by cases bank <;> decide),
      fun z h => absurd h (by revert z; decide), fun _ => by decide⟩
    refine ⟨fun h => absurd h (by revert z; cases bank <;> decide), fun h => absurd h (none_discharges z bank)⟩
  · intro d r h
    exact absurd h (by revert d; simp [State.reset, State.cleared])

/-- ValvesKeepFollowingZones: a zone in DISCHARGE under an open main valve, and a test release in its first stage on the other bank. -/
theorem witness_valves_at_work :
    ValvesFollowZones
      { withValves [(0, .bankA, .discharge), (5, .bankB, .isolated)]
          [(selectorOf 0, servingOn), (mainValveOf .bankA, servingOn), (selectorOf 5, servingOn)] [(5, ⟨9000, .first false⟩)] with
        banks := base.banks.put (bankIndex .bankA) { BankRec.cleared with discharging := [0] } } := by
  set s : State :=
    { withValves [(0, .bankA, .discharge), (5, .bankB, .isolated)]
        [(selectorOf 0, servingOn), (mainValveOf .bankA, servingOn), (selectorOf 5, servingOn)] [(5, ⟨9000, .first false⟩)] with
      banks := base.banks.put (bankIndex .bankA) { BankRec.cleared with discharging := [0] } } with hs
  have first : s.discharges 0 .bankA := ⟨_, rfl, rfl, rfl⟩
  have only : ∀ z : Zone, z = 0 ∨ (s.zones[z]).all (·.state ≠ .discharge) = true := by decide
  refine ⟨by decide, fun z h => ?_, fun bank z => ?_, fun bank h => .inl ?_, fun z h => ?_, fun h => by cases h⟩
  · have : ∀ z : Zone, (s.valves.outputs[selectorOf z]).drive = true → z = 0 ∨ z = 5 := by decide
    rcases this z h with rfl | rfl
    · exact .inl ⟨_, first⟩
    · exact .inr ⟨9000, false, rfl⟩
  · constructor
    · intro h
      have : ∀ z : Zone, z ∈ (s.banks[bankIndex bank]).discharging → bank = .bankA ∧ z = 0 := by cases bank <;> decide
      obtain ⟨rfl, rfl⟩ := this z h
      exact first
    · rintro ⟨r, hr, hb, hd⟩
      rcases only z with rfl | h
      · cases hr; subst hb; decide
      · rw [hr] at h
        simp [hd] at h
  · cases bank
    · exact ⟨_, first⟩
    · exact absurd h (by decide)
  · have : ∀ z : Zone, s.valves.tests[z] ≠ none → z = 5 := by decide
    obtain rfl := this z h
    exact ⟨_, rfl, rfl⟩

/-- Person 5 is inside, and door 0 is UNLOCKED by an ENTRY grant with one place; its partner is SECURE and has a pairing record. -/
def atWork : State :=
  let one : DoorRec := { granted 18000 with cfg := { testDoorCfg with partner := some 1 } }
  let two : DoorRec := { testDoor with cfg := { testDoorCfg with partner := some 0 }, pairing := some ⟨⟨6, false⟩, 12000⟩ }
  { base with
    doors := (base.doors.put 0 (some one)).put 1 (some two),
    occupancy := { base.occupancy with entries := [testEntry], reserved := base.occupancy.reserved.put 0 1 } }

/-- OccupancyIsSound, DoorsAreSound: a state at work meets them. -/
theorem witness_invariants_at_work : OccupancySound atWork ∧ DoorsSound atWork := by
  have door : ∀ d : Door, d = 0 ∨ d = 1 ∨ atWork.doors[d] = none := by decide
  refine ⟨⟨by decide, by decide, ?_, by decide, by decide, ?_, by decide⟩, ?_⟩
  · have zone : ∀ z : Zone, z = 0 ∨ atWork.zones[z] = none := by decide
    intro z r h
    rcases zone z with rfl | e
    · cases h; decide
    · rw [e] at h; cases h
  · intro d r g h hg
    rcases door d with rfl | rfl | e
    · cases h; cases hg; decide
    · cases h; cases hg
    · rw [e] at h; cases h
  · intro d r h
    rcases door d with rfl | rfl | e
    · cases h
      refine ⟨by decide, by decide, by decide, by decide, fun g hg => ?_, by decide, fun p hp => ?_⟩
      · cases hg; decide
      · cases hp; exact ⟨by decide, _, rfl, rfl, fun h => absurd h.2 (by unfold DoorRec.underGrant; decide)⟩
    · cases h
      refine ⟨by decide, by decide, by decide, by decide, fun g hg => ?_, by decide, fun p hp => ?_⟩
      · cases hg
      · cases hp; exact ⟨by decide, _, rfl, rfl, fun h => absurd h.1 (by unfold DoorRec.underGrant; decide)⟩
    · rw [e] at h; cases h

end Sys2Proof.Machine
end

/-! The supervised lines: the measured class of a scan (R2, R3) and the debounce (R4). -/

namespace Sys2Proof.Machine

/-! ## The plain class (R2) -/

theorem LineCfg.measure_none_eq_short_iff (c : LineCfg) (code : Nat) :
    c.measure none code = .short ↔ code < c.t1 := by
  simp only [measure, plainClass]
  split_ifs <;> simp_all

theorem LineCfg.measure_none_eq_normal_iff (c : LineCfg) (code : Nat) :
    c.measure none code = .normal ↔ c.t1 ≤ code ∧ code < c.t2 := by
  simp only [measure, plainClass]
  split_ifs <;> simp_all

/-- The order of the thresholds is needed: a code below T1 is SHORT whatever T2 is. -/
theorem LineCfg.measure_none_eq_active_iff {c : LineCfg} (h12 : c.t1 < c.t2) (code : Nat) :
    c.measure none code = .active ↔ c.t2 ≤ code ∧ code < c.t3 := by
  simp only [measure, plainClass]
  split_ifs <;> simp <;> omega

theorem LineCfg.measure_none_eq_openCircuit_iff {c : LineCfg} (h12 : c.t1 < c.t2) (h23 : c.t2 < c.t3) (code : Nat) :
    c.measure none code = .openCircuit ↔ c.t3 ≤ code := by
  simp only [measure, plainClass]
  split_ifs <;> simp <;> omega

/-! ## The hysteresis (R3) -/

/-- R3: whatever describes the codes that keep a class decides between that class and the plain one. -/
theorem LineCfg.measure_some_of_keeps_iff {c : LineCfg} {k : LineClass} {code : Nat} {p : Prop} [Decidable p]
    (h : c.keeps k code = true ↔ p) : c.measure (some k) code = if p then k else c.measure none code := by
  simp only [measure, h]

/-- R3: the band of codes that keep a class, by the thresholds the class has. -/
theorem LineCfg.keeps_iff (c : LineCfg) (k : LineClass) (code : Nat) :
    c.keeps k code = true ↔ (∀ t ∈ c.upper k, code < t + 4) ∧ ∀ t ∈ c.lower k, t ≤ code + 4 := by
  simp only [keeps, Bool.and_eq_true, Option.all_eq_true, decide_eq_true_eq]
  rfl

theorem LineCfg.keeps_short_iff (c : LineCfg) (code : Nat) : c.keeps .short code = true ↔ code < c.t1 + 4 := by
  simp [keeps_iff, upper, lower]

theorem LineCfg.keeps_normal_iff (c : LineCfg) (code : Nat) :
    c.keeps .normal code = true ↔ (c.t1 : Int) - 4 ≤ code ∧ code < c.t2 + 4 := by
  simp only [keeps_iff, upper, lower, Option.mem_some_iff, forall_eq']
  omega

theorem LineCfg.keeps_active_iff (c : LineCfg) (code : Nat) :
    c.keeps .active code = true ↔ (c.t2 : Int) - 4 ≤ code ∧ code < c.t3 + 4 := by
  simp only [keeps_iff, upper, lower, Option.mem_some_iff, forall_eq']
  omega

theorem LineCfg.keeps_openCircuit_iff (c : LineCfg) (code : Nat) :
    c.keeps .openCircuit code = true ↔ (c.t3 : Int) - 4 ≤ code := by
  simp only [keeps_iff, upper, lower, Option.not_mem_none, Option.mem_some_iff, forall_eq', false_implies, implies_true,
    true_and]
  omega

/-- Settles O12: the plain class by its thresholds, and each class's own band of codes that keep it. -/
theorem measuredClassHasHysteresis : Obligations.MeasuredClassHasHysteresis := by
  intro c code h12 h23
  exact ⟨c.measure_none_eq_short_iff code, c.measure_none_eq_normal_iff code,
    LineCfg.measure_none_eq_active_iff h12 code, LineCfg.measure_none_eq_openCircuit_iff h12 h23 code,
    LineCfg.measure_some_of_keeps_iff (c.keeps_short_iff code),
    LineCfg.measure_some_of_keeps_iff (c.keeps_normal_iff code),
    LineCfg.measure_some_of_keeps_iff (c.keeps_active_iff code),
    LineCfg.measure_some_of_keeps_iff (c.keeps_openCircuit_iff code)⟩

/-! ## The debounce (R4) -/

/-- No role reports a class at its first scan, so a new class is always a candidate first. -/
theorem LineRole.one_lt_debounce (role : LineRole) : 1 < role.debounce := by
  cases role <;> simp [debounce]

section Debounced
variable {r : LineRec} {k : LineClass}

theorem LineRec.debounced_of_reported (hr : r.reported = some k) :
    r.debounced k = { r with candidate := none, count := 0 } := by
  simp [debounced, hr]

theorem LineRec.debounced_of_candidate_of_lt (hr : r.reported ≠ some k) (hc : r.candidate = some k)
    (hn : r.count + 1 < r.cfg.role.debounce) : r.debounced k = { r with count := r.count + 1 } := by
  simp [debounced, hr, hc, Nat.not_le.mpr hn]

theorem LineRec.debounced_of_candidate_of_eq (hr : r.reported ≠ some k) (hc : r.candidate = some k)
    (hn : r.count + 1 = r.cfg.role.debounce) :
    r.debounced k = { r with reported := some k, candidate := none, count := 0 } := by
  simp [debounced, hr, hc, hn]

theorem LineRec.debounced_of_not_candidate (hr : r.reported ≠ some k) (hc : r.candidate ≠ some k) :
    r.debounced k = { r with candidate := some k, count := 1 } := by
  simp [debounced, hr, hc, Nat.not_le.mpr r.cfg.role.one_lt_debounce]

/-- R4: up to N - 1 consecutive scans of a new class only count it. -/
theorem LineRec.iterate_debounced_of_lt (hr : r.reported ≠ some k) (hc : r.candidate ≠ some k) {n : Nat} (h0 : 0 < n)
    (hn : n < r.cfg.role.debounce) :
    (fun x : LineRec => x.debounced k)^[n] r = { r with candidate := some k, count := n } := by
  induction n, h0 using Nat.le_induction with
  | base => exact debounced_of_not_candidate hr hc
  | succ n _ ih =>
    rw [Function.iterate_succ_apply', ih (by omega)]
    exact debounced_of_candidate_of_lt hr rfl hn

/-- R4: the Nth consecutive scan of a new class reports it. -/
theorem LineRec.iterate_debounced_debounce (hr : r.reported ≠ some k) (hc : r.candidate ≠ some k) :
    (fun x : LineRec => x.debounced k)^[r.cfg.role.debounce] r =
      { r with reported := some k, candidate := none, count := 0 } := by
  have h1 := r.cfg.role.one_lt_debounce
  obtain ⟨m, hm⟩ : ∃ m, r.cfg.role.debounce = m + 1 := ⟨r.cfg.role.debounce - 1, by omega⟩
  rw [hm, Function.iterate_succ_apply', iterate_debounced_of_lt hr hc (n := m) (by omega) (by omega)]
  exact debounced_of_candidate_of_eq hr rfl hm.symm

end Debounced

/-- Settles O13: the rules of one scan, and by induction on the scans the count of a new class up to the Nth. -/
theorem reportAfterNConsecutiveScans : Obligations.ReportAfterNConsecutiveScans := by
  refine ⟨fun r k => ⟨LineRec.debounced_of_reported, LineRec.debounced_of_candidate_of_lt,
    LineRec.debounced_of_candidate_of_eq, fun hr hc => ⟨LineRec.debounced_of_not_candidate hr hc,
      fun _ => LineRec.iterate_debounced_of_lt hr hc, LineRec.iterate_debounced_debounce hr hc⟩⟩, fun d z o => ?_⟩
  exact ⟨rfl, rfl, rfl, rfl, rfl, rfl⟩

end Sys2Proof.Machine

/-! The egress delay (R110): the curve points, the interpolation between them, and the clamp. -/

namespace Sys2Proof.Machine

@[simp] theorem ZoneCfg.knot_zero (c : ZoneCfg) : c.knot 0 = 0 := rfl

@[simp] theorem ZoneCfg.knot_succ (c : ZoneCfg) (k : Nat) :
    c.knot (k + 1) = ((c.knots.toList.getD k 0 : Nat) : Int) := rfl

/-- R110: the curve points as the list y1 to y7 gives them, with y0 = 0. -/
theorem ZoneCfg.knot_eq_ite (c : ZoneCfg) (k : Nat) :
    c.knot k = if k = 0 then 0 else ((c.knots.toList.getD (k - 1) 0 : Nat) : Int) := by
  cases k with
  | zero => simp
  | succ k => simp

/-- R110: the offset is W - 32k, and the model's `/` is the division that rounds toward minus infinity, which shows on a
falling segment. -/
theorem ZoneCfg.curveTerm_eq_ite (c : ZoneCfg) (w : Nat) :
    c.curveTerm w =
      if w < 224 then
        c.knot (w / 32) +
          ((c.knot (w / 32 + 1) - c.knot (w / 32)) * ((w : Int) - 32 * (w / 32 : Nat)) + 16).fdiv 32
      else c.knot 7 := by
  have offset : ((w % 32 : Nat) : Int) = (w : Int) - 32 * (w / 32 : Nat) := by omega
  have floor (n : Int) : n.fdiv 32 = n / 32 := Int.fdiv_eq_ediv_of_nonneg n (by decide)
  simp only [curveTerm, offset, floor]

/-- The delay as an integer: the clamped sum is positive, so the passage to a natural number loses nothing, however far
below zero the term would take it. -/
theorem ZoneCfg.coe_egressDelay (c : ZoneCfg) (w : Nat) :
    (c.egressDelay w : Int) = max 100 (min 1800 (c.baseDelay + c.curveTerm w)) :=
  Int.toNat_of_nonneg (le_max_of_le_left (by decide))

theorem ZoneCfg.egressDelay_mem_Icc (c : ZoneCfg) (w : Nat) : c.egressDelay w ∈ Set.Icc 100 1800 := by
  have h := c.coe_egressDelay w
  constructor <;> omega

/-- The clamp to `lo` to `hi`, by cases of the clamped value. -/
theorem max_min_eq_ite {lo hi : Int} (h : lo ≤ hi) (x : Int) :
    max lo (min hi x) = if x < lo then lo else if hi < x then hi else x := by
  split_ifs <;> omega

/-- Settles O25: the model's curve points, term and clamp are each the ones the statement writes out. -/
theorem egressDelayIsInterpolatedAndClamped : Obligations.EgressDelayIsInterpolatedAndClamped := by
  intro c w y term sum
  have hy : c.knot = y := funext c.knot_eq_ite
  have hterm : c.curveTerm w = term := by rw [c.curveTerm_eq_ite, hy]
  refine ⟨?_, c.egressDelay_mem_Icc w⟩
  rw [c.coe_egressDelay, hterm, max_min_eq_ite (by decide)]

end Sys2Proof.Machine


/-! The parts of a zone's and a door's record that the invariants speak of, and the operations that leave them alone: a zone's
summary, bank state and path faults, and a door's drive, chirp, handle time, denial display and contact position bear on no
invariant. -/

namespace Sys2Proof.Machine

/-- What the invariants ask of a zone's record. -/
structure ZoneCore where
  cfg : ZoneCfg
  state : ZoneState
  entryHold : Bool
  holdLines : List Line
  holdAlarms : List Nat

/-- What the invariants ask of a door's record. -/
structure DoorCore where
  cfg : DoorCfg
  state : DoorState
  grant : Option Grant
  pairing : Option Pairing
  openingKind : Option OpeningKind
  openSince : Option Nat
  withdrawnEnd : Option Nat

def ZoneRec.core (r : ZoneRec) : ZoneCore :=
  { cfg := r.cfg, state := r.state, entryHold := r.entryHold, holdLines := r.holdLines, holdAlarms := r.holdAlarms }

/-- A view of a zone's record that its summary and its path faults bear on in no way. -/
def Steady {α : Type} (view : ZoneRec → α) : Prop :=
  ∀ r summary selectorFault mainFault,
    view { r with summary := summary, selectorFault := selectorFault, mainFault := mainFault } = view r

@[simp] theorem ZoneRec.core_steady : Steady ZoneRec.core := fun _ _ _ _ => rfl

def DoorRec.core (r : DoorRec) : DoorCore :=
  { cfg := r.cfg, state := r.state, grant := r.grant, pairing := r.pairing, openingKind := r.openingKind,
    openSince := r.openSince, withdrawnEnd := r.withdrawnEnd }

/-! ## Zones -/

section
variable (s : State) (i : Nat) (hi : i < 8) {α : Type} {view : ZoneRec → α}

theorem State.updZone_view {z : Zone} {f : ZoneRec → ZoneRec} (hf : ∀ r, view (f r) = view r) :
    ((s.updZone z f).zones[i]).map view = (s.zones[i]).map view := by
  simp only [State.updZone_zones, Tab.getElem_put]
  split
  · next h => subst h; cases s.zones[z] <;> simp [hf]
  · rfl

/-- What every item of a sequence leaves of the zones' cores, the sequence leaves. -/
theorem State.forEach_zoneView {β : Type} (l : List β) (f : β → State → State)
    (h : ∀ a t, ((f a t).zones[i]).map view = (t.zones[i]).map view) :
    ((s.forEach l f).zones[i]).map view = (s.zones[i]).map view :=
  State.forEach_keeps s l f (fun t => (t.zones[i]).map view) h

variable (hv : Steady view)
include hv

@[simp] theorem State.recordSummary_view (z : Zone) :
    ((s.recordSummary z).zones[i]).map view = (s.zones[i]).map view :=
  s.updZone_view i hi fun r => hv r (s.summaryOf z) r.selectorFault r.mainFault

@[simp] theorem State.reservePlaces_view (z : Zone) (n : Nat) :
    ((s.reservePlaces z n).zones[i]).map view = (s.zones[i]).map view :=
  State.recordSummary_view _ i hi hv z

@[simp] theorem State.releasePlaces_view (z : Zone) (n : Nat) :
    ((s.releasePlaces z n).zones[i]).map view = (s.zones[i]).map view :=
  State.recordSummary_view _ i hi hv z

@[simp] theorem State.withdrawGrant_view (d : Door) (cause : WithdrawCause) :
    ((s.withdrawGrant d cause).zones[i]).map view = (s.zones[i]).map view := by
  unfold State.withdrawGrant
  repeat' split
  all_goals simp [hv]

@[simp] theorem State.withdrawAtDoor_view (d : Door) (entered : ZoneState) :
    ((s.withdrawAtDoor d entered).zones[i]).map view = (s.zones[i]).map view := by
  unfold State.withdrawAtDoor
  dsimp only
  repeat' split
  all_goals simp [hv]

@[simp] theorem State.withdrawalOrder_view (z : Zone) (entered : ZoneState) :
    ((s.withdrawalOrder z entered).zones[i]).map view = (s.zones[i]).map view :=
  s.forEach_zoneView i hi _ _ fun d t => t.withdrawAtDoor_view i hi hv d entered

@[simp] theorem State.followChange_view (z : Zone) (r : ZoneRec) :
    ((s.followChange z r).zones[i]).map view = (s.zones[i]).map view := by
  unfold State.followChange
  repeat' split
  all_goals simp [hv]

@[simp] theorem State.lapseGrant_view (d : Door) (r : DoorRec) (g : Grant) :
    ((s.lapseGrant d r g).zones[i]).map view = (s.zones[i]).map view := by
  simp [State.lapseGrant, hv]

@[simp] theorem State.doorLost_view (d : Door) (r : DoorRec) (state : DoorState) (cause : DoorCause) :
    ((s.doorLost d r state cause).zones[i]).map view = (s.zones[i]).map view := by
  simp [State.doorLost, hv]

@[simp] theorem State.installGrant_view (d : Door) (r : DoorRec) (kind : GrantKind) (persons : List GrantPerson) (n : Nat) :
    ((s.installGrant d r kind persons n).zones[i]).map view = (s.zones[i]).map view := by
  simp [State.installGrant, hv]

/-! ### Valves: the zone records take path faults, and no more -/

@[simp] theorem State.handPathFault_view (o : Output) (present : Bool) :
    ((s.handPathFault o present).zones[i]).map view = (s.zones[i]).map view := by
  have := s.handPathFault_zones o present ⟨i, hi⟩
  simp only [Fin.getElem_fin] at this
  rw [this]
  cases s.zones[i] with
  | none => rfl
  | some y =>
    simp only [Option.map_some]
    split_ifs
    · rw [hv y y.summary present y.mainFault]
    · rw [hv y y.summary y.selectorFault present]
    · rfl

@[simp] theorem State.setPathFault_view (o : Output) (fault : Option PathFault) (edge : Option Nat) :
    ((s.setPathFault o fault edge).zones[i]).map view = (s.zones[i]).map view := by
  simp only [State.setPathFault]
  split <;> simp [hv]

@[simp] theorem State.passCheck_view (o : Output) (kind : CheckKind) :
    ((s.passCheck o kind).zones[i]).map view = (s.zones[i]).map view := by
  simp [State.passCheck, hv]

@[simp] theorem State.failCheck_view (o : Output) (c : Check) :
    ((s.failCheck o c).zones[i]).map view = (s.zones[i]).map view := by
  simp [State.failCheck, hv]

@[simp] theorem State.judgeCheck_view (o : Output) :
    ((s.judgeCheck o).zones[i]).map view = (s.zones[i]).map view := by
  unfold State.judgeCheck
  repeat' split
  all_goals simp [hv]

@[simp] theorem State.switchOutput_view (o : Output) (on : Bool) :
    ((s.switchOutput o on).zones[i]).map view = (s.zones[i]).map view := by
  unfold State.switchOutput
  dsimp only
  repeat' split
  all_goals simp [hv]

@[simp] theorem State.feedbackReport_view (o : Output) (new : LineClass) :
    ((s.feedbackReport o new).zones[i]).map view = (s.zones[i]).map view := by
  unfold State.feedbackReport
  dsimp only
  repeat' split
  all_goals simp [hv]

@[simp] theorem State.testSecondStage_view (z : Zone) :
    ((s.testSecondStage z).zones[i]).map view = (s.zones[i]).map view := by
  unfold State.testSecondStage
  repeat' split
  all_goals simp [hv]

@[simp] theorem State.beginTest_view (z : Zone) :
    ((s.beginTest z).zones[i]).map view = (s.zones[i]).map view := by
  simp [State.beginTest, hv]

@[simp] theorem State.openMainValve_view (bank : Bank) :
    ((s.openMainValve bank).zones[i]).map view = (s.zones[i]).map view := by
  unfold State.openMainValve
  split <;> simp [hv]

@[simp] theorem State.settleMainValve_view (bank : Bank) :
    ((s.settleMainValve bank).zones[i]).map view = (s.zones[i]).map view := by
  unfold State.settleMainValve
  dsimp only
  split <;> simp [hv]

@[simp] theorem State.cutTests_view (z : Zone) (bank : Bank) :
    ((s.cutTests z bank).zones[i]).map view = (s.zones[i]).map view :=
  s.forEach_zoneView i hi _ _ fun y t => t.testSecondStage_view i hi hv y

@[simp] theorem State.startDischargeValves_view (z : Zone) :
    ((s.startDischargeValves z).zones[i]).map view = (s.zones[i]).map view := by
  unfold State.startDischargeValves
  split <;> simp [hv]

@[simp] theorem State.endDischargeValves_view (z : Zone) :
    ((s.endDischargeValves z).zones[i]).map view = (s.zones[i]).map view := by
  unfold State.endDischargeValves
  split <;> simp [hv]

omit hv

/-! ### Changes of a zone's record -/

/-- A change of a zone's record, by the cores: the zone's becomes that of the changed record, and no other changes. -/
theorem State.changeRecord_view (z : Zone) (cause : ZoneCause) (f : ZoneRec → ZoneRec) :
    ((s.changeRecord z cause f).zones[i]).map view =
      if z.val = i then (s.zones[i]).map fun r => view (f r) else (s.zones[i]).map view := by
  unfold State.changeRecord
  split
  · next h => split <;> simp_all
  · split <;> rename_i h <;> simp [h]
    subst h
    simp [Function.comp_def]

include hv

theorem State.changeZone_view (z : Zone) (cause : ZoneCause) (f : ZoneRec → ZoneRec) :
    ((s.changeZone z cause f).zones[i]).map view =
      if z.val = i then (s.zones[i]).map fun r => view (f r) else (s.zones[i]).map view := by
  rw [← s.changeRecord_view i hi z cause f]
  unfold State.changeZone
  split
  · next h => simp [State.changeRecord, h]
  · simp [hv]

end

/-! ## Doors -/

@[simp] theorem DoorRec.driven_core (r : DoorRec) (barred : Bool) : (r.driven barred).core = r.core := by
  unfold DoorRec.driven
  dsimp only
  split <;> rfl

/-- R47: what recomputing a door's drive does to the door records. -/
theorem State.refreshDrive_doors (s : State) (d : Door) :
    (s.refreshDrive d).doors = s.doors.put d ((s.doors[d]).map fun r => r.driven (s.bars r.cfg.inside)) := by
  unfold State.refreshDrive
  split
  · next h => rw [h, Option.map_none, ← h, Tab.put_self]
  · next r h =>
    have driven : r.driven (s.bars r.cfg.inside) =
        if driveDiffers r.lastDrive (s.doorDrive r) then { r with lastDrive := some (s.doorDrive r), chirpOwed := false }
        else r := rfl
    rw [h, Option.map_some, driven]
    dsimp only
    split
    · rw [(State.handDrive_frame _ _ _).2.2.2.1, State.updDoor_doors, h, Option.map_some]
    · rw [← h, Tab.put_self]

section
variable (s : State) (i : Nat) (hi : i < 16)

theorem State.updDoor_core {d : Door} {f : DoorRec → DoorRec} (hf : ∀ r, (f r).core = r.core) :
    ((s.updDoor d f).doors[i]).map DoorRec.core = (s.doors[i]).map DoorRec.core := by
  simp only [State.updDoor_doors, Tab.getElem_put]
  split
  · next h => subst h; cases s.doors[d] <;> simp [hf]
  · rfl

@[simp] theorem State.refreshDrive_core (d : Door) :
    ((s.refreshDrive d).doors[i]).map DoorRec.core = (s.doors[i]).map DoorRec.core := by
  simp only [State.refreshDrive_doors, Tab.getElem_put]
  split
  · next h => subst h; cases s.doors[d] <;> simp
  · rfl

@[simp] theorem State.startDenial_core (d : Door) :
    ((s.startDenial d).doors[i]).map DoorRec.core = (s.doors[i]).map DoorRec.core := by
  exact (State.refreshDrive_core _ i hi d).trans (s.updDoor_core i hi fun _ => rfl)

@[simp] theorem State.barringEnded_core (z : Zone) :
    ((s.barringEnded z).doors[i]).map DoorRec.core = (s.doors[i]).map DoorRec.core :=
  State.forEach_keeps s _ _ (fun t => (t.doors[i]).map DoorRec.core) fun d t => t.refreshDrive_core i hi d

end

end Sys2Proof.Machine


/-! Everything a command does is a run of elementary acts. The acts carry what the model's own guards establish, so that each
invariant is proved by one case for each act and no proof walks through the commands again. -/

namespace Sys2Proof.Machine

/-! ## The occupancy's entries and flags, where only reserved places change -/

section
variable (s : State)

@[simp] theorem State.recordSummary_entries (z : Zone) : (s.recordSummary z).occupancy = s.occupancy := rfl

@[simp] theorem State.releasePlaces_entries (z : Zone) (n : Nat) :
    (s.releasePlaces z n).occupancy.entries = s.occupancy.entries ∧
    (s.releasePlaces z n).occupancy.uncertain = s.occupancy.uncertain ∧
    (s.releasePlaces z n).occupancy.warning = s.occupancy.warning ∧
    (s.releasePlaces z n).occupancy.lone = s.occupancy.lone := ⟨rfl, rfl, rfl, rfl⟩

@[simp] theorem State.withdrawGrant_entries (d : Door) (cause : WithdrawCause) :
    (s.withdrawGrant d cause).occupancy.entries = s.occupancy.entries ∧
    (s.withdrawGrant d cause).occupancy.uncertain = s.occupancy.uncertain ∧
    (s.withdrawGrant d cause).occupancy.warning = s.occupancy.warning ∧
    (s.withdrawGrant d cause).occupancy.lone = s.occupancy.lone := by
  unfold State.withdrawGrant
  repeat' split
  all_goals simp

@[simp] theorem State.withdrawAtDoor_entries (d : Door) (entered : ZoneState) :
    (s.withdrawAtDoor d entered).occupancy.entries = s.occupancy.entries ∧
    (s.withdrawAtDoor d entered).occupancy.uncertain = s.occupancy.uncertain ∧
    (s.withdrawAtDoor d entered).occupancy.warning = s.occupancy.warning ∧
    (s.withdrawAtDoor d entered).occupancy.lone = s.occupancy.lone := by
  unfold State.withdrawAtDoor
  dsimp only
  repeat' split
  all_goals simp

@[simp] theorem State.withdrawalOrder_entries (z : Zone) (entered : ZoneState) :
    (s.withdrawalOrder z entered).occupancy.entries = s.occupancy.entries ∧
    (s.withdrawalOrder z entered).occupancy.uncertain = s.occupancy.uncertain ∧
    (s.withdrawalOrder z entered).occupancy.warning = s.occupancy.warning ∧
    (s.withdrawalOrder z entered).occupancy.lone = s.occupancy.lone :=
  ⟨s.forEach_keeps _ _ (·.occupancy.entries) fun d t => (t.withdrawAtDoor_entries d entered).1,
    s.forEach_keeps _ _ (·.occupancy.uncertain) fun d t => (t.withdrawAtDoor_entries d entered).2.1,
    s.forEach_keeps _ _ (·.occupancy.warning) fun d t => (t.withdrawAtDoor_entries d entered).2.2.1,
    s.forEach_keeps _ _ (·.occupancy.lone) fun d t => (t.withdrawAtDoor_entries d entered).2.2.2⟩

@[simp] theorem State.followChange_entries (z : Zone) (r : ZoneRec) :
    (s.followChange z r).occupancy.entries = s.occupancy.entries ∧
    (s.followChange z r).occupancy.uncertain = s.occupancy.uncertain ∧
    (s.followChange z r).occupancy.warning = s.occupancy.warning ∧
    (s.followChange z r).occupancy.lone = s.occupancy.lone := by
  unfold State.followChange
  repeat' split
  all_goals simp

@[simp] theorem State.changeZone_entries (z : Zone) (cause : ZoneCause) (f : ZoneRec → ZoneRec) :
    (s.changeZone z cause f).occupancy.entries = s.occupancy.entries ∧
    (s.changeZone z cause f).occupancy.uncertain = s.occupancy.uncertain ∧
    (s.changeZone z cause f).occupancy.warning = s.occupancy.warning ∧
    (s.changeZone z cause f).occupancy.lone = s.occupancy.lone := by
  unfold State.changeZone
  split <;> simp

@[simp] theorem State.afterJoin_entries (z : Zone) :
    (s.afterJoin z).occupancy.entries = s.occupancy.entries ∧ (s.afterJoin z).occupancy.uncertain = s.occupancy.uncertain ∧
    (s.afterJoin z).occupancy.warning = s.occupancy.warning ∧ (s.afterJoin z).occupancy.lone = s.occupancy.lone := by
  unfold State.afterJoin
  split <;> simp

@[simp] theorem State.afterLeave_entries (z : Zone) :
    (s.afterLeave z).occupancy.entries = s.occupancy.entries ∧ (s.afterLeave z).occupancy.uncertain = s.occupancy.uncertain ∧
    (s.afterLeave z).occupancy.warning = s.occupancy.warning ∧ (s.afterLeave z).occupancy.lone = s.occupancy.lone := by
  unfold State.afterLeave
  split <;> simp

@[simp] theorem State.joinAlarm_entries (r : AlarmRec) :
    (s.joinAlarm r).occupancy.entries = s.occupancy.entries ∧ (s.joinAlarm r).occupancy.uncertain = s.occupancy.uncertain ∧
    (s.joinAlarm r).occupancy.warning = s.occupancy.warning ∧ (s.joinAlarm r).occupancy.lone = s.occupancy.lone := by
  unfold State.joinAlarm State.joinHoldAlarm
  repeat' split
  all_goals simp

@[simp] theorem State.leaveAlarm_entries (r : AlarmRec) :
    (s.leaveAlarm r).occupancy.entries = s.occupancy.entries ∧ (s.leaveAlarm r).occupancy.uncertain = s.occupancy.uncertain ∧
    (s.leaveAlarm r).occupancy.warning = s.occupancy.warning ∧ (s.leaveAlarm r).occupancy.lone = s.occupancy.lone := by
  unfold State.leaveAlarm State.leaveHoldAlarm
  repeat' split
  all_goals simp

@[simp] theorem State.handReplacement_entries (old new : AlarmRec) :
    (s.handReplacement old new).occupancy.entries = s.occupancy.entries ∧
    (s.handReplacement old new).occupancy.uncertain = s.occupancy.uncertain ∧
    (s.handReplacement old new).occupancy.warning = s.occupancy.warning ∧
    (s.handReplacement old new).occupancy.lone = s.occupancy.lone := by
  unfold State.handReplacement
  dsimp only
  split <;> simp

@[simp] theorem State.raiseAlarm_entries (kind : AlarmKind) (source : AlarmSource) (zone : Option Zone) :
    (s.raiseAlarm kind source zone).occupancy.entries = s.occupancy.entries ∧
    (s.raiseAlarm kind source zone).occupancy.uncertain = s.occupancy.uncertain ∧
    (s.raiseAlarm kind source zone).occupancy.warning = s.occupancy.warning ∧
    (s.raiseAlarm kind source zone).occupancy.lone = s.occupancy.lone := by
  unfold State.raiseAlarm
  dsimp only
  repeat' split
  all_goals simp

end

/-! ## Parts of larger operations -/

/-- R37: an opening in UNLOCKED up to the commit of the grant. -/
def State.openedUnder (s : State) (d : Door) (r : DoorRec) (stamp : Nat) : State :=
  let t := s.updDoor d fun x =>
    { x with state := .opened, openingKind := some .granted, openSince := some stamp, grant := none }
  (t.refreshDrive d).notifyDoor d r.state .grantedOpening r.grant

/-- The grants whose commit makes entries (R80). -/
def Grant.seats (g : Grant) : Prop := g.kind = .entry ∨ (g.kind = .response ∧ g.persons ≠ [])

/-- R80: the table changes of a commit that makes entries. -/
def State.seatEvent (s : State) (d : Door) (cfg : DoorCfg) (g : Grant) : OccEvent :=
  g.persons.foldl (fun ev p => ev.commitPerson d cfg g.persons p)
    (s.updOccupancy fun o =>
      { o with reserved := o.reserved.put cfg.inside (o.reserved[cfg.inside] - g.places) }).occEvent

theorem State.commitPersons_eq (s : State) (d : Door) (cfg : DoorCfg) (g : Grant) :
    s.commitPersons d cfg g = (s.seatEvent d cfg g).conclude := rfl

/-- R84: the table changes of a sweep. -/
def State.sweepEvent (s : State) (z : Zone) (persons : List Person) : OccEvent :=
  let before := s.occupancy
  let ev := s.occEvent.touch z .sweep persons
  let ev := (before.entriesIn z).foldl (fun ev e => ev.remove e .sweep) ev
  let ev := (persons.filterMap fun p => ev.state.occupancy.entryOf p).foldl (fun ev e => ev.remove e .moved) ev
  let ev := persons.foldl (fun ev p => ev.make (ev.state.sweepEntry before z p) .sweep) ev
  { ev with state := ev.state.updOccupancy fun o => { o with uncertain := o.uncertain.put z false } }

theorem State.sweep_eq (s : State) (z : Zone) (persons : List Person) : s.sweep z persons = (s.sweepEvent z persons).conclude :=
  rfl

/-- R65, R86: the mode of a zone with the deadlines of its entries. -/
def State.modeSet (s : State) (z : Zone) (mode : Mode) : State :=
  let s1 := { s with schedules := { s.schedules with modes := s.schedules.modes.put z mode } }
  s1.updOccupancy fun o =>
    { o with entries := o.entries.map fun e => if e.zone = z then { e with deadline := s1.newDeadline z } else e }

/-- R157, R160: a new record in place of the oldest replaceable one, up to the hold-source sets. -/
def State.replacedAlarm (s : State) (old : AlarmRec) (kind : AlarmKind) (source : AlarmSource) (zone : Option Zone) : State :=
  let s1 := (s.dropAlarm old).notifyChanged old .replaced
  s1.appendAlarm (s1.newAlarm kind source zone)

/-- No record has that kind and source. -/
def Alarms.lacks (a : Alarms) (kind : AlarmKind) (source : AlarmSource) : Prop :=
  ∀ r ∈ a.records, ¬(r.kind = kind ∧ r.source = source)

/-- Clause of `OccupancySound`: a grant's places are one for each person of an ENTRY or RESPONSE grant, and none for the others. -/
def State.placesFit (s : State) : Prop :=
  ∀ d r g, s.doors[(d : Door)] = some r → r.grant = some g →
    g.places = if g.kind = .entry ∨ g.kind = .response then g.persons.length else 0

/-- Door `d` is configured, with a record of the same core as `r`. -/
def State.doorLike (s : State) (d : Door) (r : DoorRec) : Prop := ∃ x, s.doors[d] = some x ∧ x.core = r.core

/-! ## The acts -/

/-- Nothing that an invariant speaks of changes. -/
structure Quiet (s t : State) : Prop where
  running : t.isRunning = s.isRunning
  zones (i : Nat) (hi : i < 8) : (t.zones[i]).map ZoneRec.core = (s.zones[i]).map ZoneRec.core
  doors (i : Nat) (hi : i < 16) : (t.doors[i]).map DoorRec.core = (s.doors[i]).map DoorRec.core
  entries : t.occupancy.entries = s.occupancy.entries
  reserved : t.occupancy.reserved = s.occupancy.reserved
  modes : t.schedules.modes = s.schedules.modes
  valves : t.valves = s.valves
  banks (i : Nat) (hi : i < 2) :
    (t.banks[i]).discharging = (s.banks[i]).discharging ∧ (t.banks[i]).minOnEnd = (s.banks[i]).minOnEnd
  alarms : t.alarms.records = s.alarms.records ∧ t.alarms.nextNumber = s.alarms.nextNumber ∧
    t.alarms.notRecorded = s.alarms.notRecorded
  queues (q : Port) : (t.ports[portIndex q]).queue = (s.ports[portIndex q]).queue
  pending : t.pending = s.pending

/-- What the guards of the model say of a zone whose record `r` becomes `x` without entering or leaving DISCHARGE. -/
structure ZoneTurn (s : State) (z : Zone) (r x : ZoneRec) : Prop where
  cfg : x.cfg = r.cfg
  entryHold : x.entryHold = true → r.entryHold = true
  hold : (x.state = r.state ∧ x.noHold = r.noHold) ∨
    ((x.state = .countdown → x.noHold = true) ∧ (x.state = .held → x.noHold = false))
  notDischarge : r.state ≠ .discharge ∧ x.state ≠ .discharge
  test : s.valves.tests[z] = none ∨ r.state ≠ .isolated ∨ x.state = .isolated

/-- The door has an opening kind, an open-since time and a withdrawn-window end only in the states that have them. -/
structure DoorRec.Fits (r : DoorRec) : Prop where
  kind : r.openingKind.isSome = true ↔ r.state = .opened ∨ r.state = .heldOpen
  since : r.openSince.isSome = true ↔ r.state = .opened ∨ r.state = .heldOpen ∨ r.state = .forced
  window : r.withdrawnEnd.isSome = true → r.state = .secure

/-- What becomes of the record of a door that is not UNLOCKED and does not become so. -/
structure DoorTurn (r x : DoorRec) : Prop where
  cfg : x.cfg = r.cfg
  grant : x.grant = r.grant
  pairing : x.pairing = r.pairing
  locked : r.state ≠ .unlocked ∧ x.state ≠ .unlocked
  fits : r.Fits → x.Fits
  underGrant : r.Fits → x.underGrant → r.underGrant

/-- What becomes of a door's record that keeps its state and grant: its pairing record or its withdrawn-window end may go. -/
structure DoorKeeps (r x : DoorRec) : Prop where
  cfg : x.cfg = r.cfg
  state : x.state = r.state
  grant : x.grant = r.grant
  openingKind : x.openingKind = r.openingKind
  openSince : x.openSince = r.openSince
  withdrawnEnd : x.withdrawnEnd.isSome = true → r.withdrawnEnd.isSome = true
  pairing : x.pairing.isSome = true → r.pairing.isSome = true

/-- An elementary act of the controller, which takes one state to another. `fit` is what may be assumed of the grants' places (the clause
of `OccupancySound` on them); it bears on the release of spare places alone. -/
inductive Act (fit : Prop) : State → State → Prop where
  | quiet {s t : State} (h : Quiet s t) : Act fit s t
  | notify (s : State) (body : NoticeBody) : Act fit s (s.notify body)
  | port (s : State) (p : Port) (f : PortRec → PortRec)
      (h : (f s.ports[portIndex p]).queue.length ≤ 48 ∨
        (f s.ports[portIndex p]).queue.length ≤ (s.ports[portIndex p]).queue.length) : Act fit s (s.updPort p f)
  -- doors
  | door (s : State) (d : Door) (f : DoorRec → DoorRec) (h : ∀ r, DoorKeeps r (f r)) : Act fit s (s.updDoor d f)
  | doorTurn (s : State) (d : Door) (r : DoorRec) (f : DoorRec → DoorRec) (hr : s.doors[d] = some r)
      (h : DoorTurn r (f r)) : Act fit s (s.updDoor d f)
  | pair (s : State) (d : Door) (r : DoorRec) (p : Pairing) (hr : s.doors[d] = some r) (h : s.bars r.cfg.inside = false) :
      Act fit s (s.updDoor d fun x => { x with pairing := some p })
  | install (s : State) (d : Door) (r : DoorRec) (kind : GrantKind) (persons : List GrantPerson) (places : Nat)
      (hr : s.doors[d] = some r) (h : s.installRefusal r kind = none)
      (hp : places = if kind = .entry ∨ kind = .response then persons.length else 0)
      (hf : places ≠ 0 → s.placesFree r.cfg.inside places = true) : Act fit s (s.installGrant d r kind persons places)
  | lapse (s : State) (d : Door) (r : DoorRec) (g : Grant) (hr : s.doors[d] = some r) (hg : r.grant = some g)
      (hs : r.state = .unlocked) : Act fit s (s.lapseGrant d r g)
  | lose (s : State) (d : Door) (r : DoorRec) (state : DoorState) (cause : DoorCause) (hr : s.doors[d] = some r)
      (h : state = .offline ∨ state = .fault) : Act fit s (s.doorLost d r state cause)
  | openUnder (s : State) (d : Door) (r : DoorRec) (stamp : Nat) (hr : s.doorLike d r) (hs : r.state = .unlocked)
      (h : ∀ g, r.grant = some g → ¬g.seats) : Act fit s (s.openedUnder d r stamp)
  | openSeated (s : State) (d : Door) (r : DoorRec) (stamp : Nat) (g : Grant) (hr : s.doorLike d r)
      (hs : r.state = .unlocked) (hg : r.grant = some g) (h : g.seats) :
      Act fit s ((s.openedUnder d r stamp).seatEvent d r.cfg g).state
  | spare (s : State) (z : Zone) (n : Nat) (h : fit → n = 0) : Act fit s (s.releasePlaces z n)
  -- zones
  | zoneTurn (s : State) (z : Zone) (cause : ZoneCause) (f : ZoneRec → ZoneRec) (r : ZoneRec) (hr : s.zones[z] = some r)
      (h : ZoneTurn s z r (f r)) : Act fit s (s.changeZone z cause f)
  | joinLine (s : State) (z : Zone) (l : Line) : Act fit s (s.joinHoldLine z l)
  | leaveLine (s : State) (z : Zone) (l : Line) : Act fit s (s.leaveHoldLine z l)
  | joinAlarm (s : State) (z : Zone) (n : Nat) : Act fit s (s.joinHoldAlarm z n)
  | leaveAlarm (s : State) (z : Zone) (n : Nat) : Act fit s (s.leaveHoldAlarm z n)
  | enter (s : State) (z : Zone) (r : ZoneRec) (hr : s.zones[z] = some r) (h : r.state = .countdown) : Act fit s (s.enterDischarge z)
  | leave (s : State) (z : Zone) (r : ZoneRec) (hr : s.zones[z] = some r) (h : r.state = .discharge) : Act fit s (s.leaveDischarge z)
  -- valves
  | feedback (s : State) (o : Output) (new : LineClass) : Act fit s (s.feedbackReport o new)
  | fail (s : State) (o : Output) (c : Check) : Act fit s (s.failCheck o c)
  | stage (s : State) (z : Zone) : Act fit s (s.testSecondStage z)
  | test (s : State) (z : Zone) (r : ZoneRec) (hr : s.zones[z] = some r) (h : r.state = .isolated) (hs : s.isRunning = true) :
      Act fit s (s.beginTest z)
  | minOn (s : State) (bank : Bank) :
      Act fit s ((s.updBank bank fun k => { k with minOnEnd := none }).settleMainValve bank)
  -- alarms
  | repeated (s : State) (old r : AlarmRec) (ho : old ∈ s.alarms.records)
      (h : r.number = old.number ∧ r.kind = old.kind ∧ r.source = old.source) (hr : r.replaceable = false) :
      Act fit s (s.updAlarms (·.replace r))
  | settled (s : State) (old r : AlarmRec) (change : AlarmChange) (ho : old ∈ s.alarms.records)
      (h : r.number = old.number ∧ r.kind = old.kind ∧ r.source = old.source) :
      Act fit s ((s.updAlarms (·.replace r)).notifyChanged r change).settleNotRecorded
  | append (s : State) (kind : AlarmKind) (source : AlarmSource) (zone : Option Zone) (hl : s.alarms.records.length < 32)
      (h : s.alarms.lacks kind source) : Act fit s (s.appendAlarm (s.newAlarm kind source zone))
  | replaced (s : State) (old : AlarmRec) (kind : AlarmKind) (source : AlarmSource) (zone : Option Zone)
      (ho : old ∈ s.alarms.records) (hr : old.replaceable = true) (h : s.alarms.lacks kind source) :
      Act fit s (s.replacedAlarm old kind source zone)
  | full (s : State) (hl : 32 ≤ s.alarms.records.length) (h : ∀ r ∈ s.alarms.records, r.replaceable = false) :
      Act fit s (s.updAlarms fun a => { a with notRecorded := true })
  | clear (s : State) (r : AlarmRec) : Act fit s (s.clearAlarm r)
  -- occupancy
  | remove (s : State) (p : Person) :
      Act fit s (s.updOccupancy fun o => { o with entries := o.entries.filter (·.person != p) })
  | due (s : State) (p : Person) (x : Nat) (e : Entry) (he : s.occupancy.entryOf p = some e) (h : e.deadline.isSome = true) :
      Act fit s (s.updOccupancy (·.updEntry p fun e => { e with deadline := some x }))
  | mark (s : State) (p : Person) : Act fit s (s.updOccupancy (·.updEntry p fun e => { e with deleted := true }))
  | mode (s : State) (z : Zone) (m : Mode) : Act fit s (s.modeSet z m)
  | sweep (s : State) (z : Zone) (r : ZoneRec) (persons : List Person) (hr : s.zones[z] = some r)
      (h : s.sweepRefusal z r persons = none) (hs : s.isRunning = true) : Act fit s (s.sweepEvent z persons).state
  -- start-up
  | reset (s : State) (time : Timebase) (loader : Loader) (h : loader.phase ≠ .running) :
      Act fit s (.cleared time loader s.pending)
  | configure (s : State) (l : Loader) (r : Records) (hs : s.isRunning = false) (h : l.phase = .running) :
      Act fit s ({ s with loader := l }.configured r)

/-- A run of acts. -/
abbrev Acts (fit : Prop) : State → State → Prop := Relation.ReflTransGen (Act fit)

/-- What every act keeps, every run of acts keeps. -/
theorem Acts.keeps {fit : Prop} {P : State → Prop} (hP : ∀ s t, Act fit s t → P s → P t) {s t : State} (h : Acts fit s t)
    (hs : P s) : P t := by
  induction h with
  | refl => exact hs
  | tail _ h ih => exact hP _ _ h ih

end Sys2Proof.Machine


/-! Each shared operation of the model is a run of acts: the lemmas mirror the definitions. -/

namespace Sys2Proof.Machine

section
variable {fit : Prop} {s t : State}

/-! ## What changes nothing an invariant speaks of -/

theorem Acts.act (h : Acts fit s t) {u : State} (a : Act fit t u) : Acts fit s u := h.tail a

theorem Acts.quiet (h : Acts fit s t) {u : State} (hu : Quiet t u) : Acts fit s u := h.act (.quiet hu)

theorem Acts.forEach {α : Type} (h : Acts fit s t) (l : List α) (f : α → State → State)
    (hf : ∀ a u, Acts fit s u → Acts fit s (f a u)) : Acts fit s (t.forEach l f) :=
  State.forEach_induct (Acts fit s) t l f (fun a _ u => hf a u) h

theorem Acts.notify (h : Acts fit s t) (body : NoticeBody) : Acts fit s (t.notify body) := h.act (.notify _ _)

theorem Acts.notifyDoor (h : Acts fit s t) (d : Door) (previous : DoorState) (cause : DoorCause) (grant : Option Grant) :
    Acts fit s (t.notifyDoor d previous cause grant) := by
  unfold State.notifyDoor
  split
  · exact h
  · exact h.notify _

theorem Acts.refreshDrive (h : Acts fit s t) (d : Door) : Acts fit s (t.refreshDrive d) :=
  h.quiet (by constructor <;> simp [State.isRunning])

theorem Acts.startDenial (h : Acts fit s t) (d : Door) : Acts fit s (t.startDenial d) :=
  h.quiet (by constructor <;> simp [State.isRunning])

theorem Acts.handDrive (h : Acts fit s t) (m : Option Module) (d : Drive) : Acts fit s (t.handDrive m d) :=
  h.quiet (by constructor <;> simp [State.isRunning])

theorem Acts.chooseNext (h : Acts fit s t) : Acts fit s t.chooseNext :=
  h.quiet (by constructor <;> simp [State.isRunning])

theorem Acts.busFree (h : Acts fit s t) : Acts fit s t.busFree :=
  h.quiet (by constructor <;> simp [State.isRunning])

theorem Acts.refreshPanel (h : Acts fit s t) (z : Zone) : Acts fit s (t.refreshPanel z) :=
  h.quiet (by constructor <;> simp [State.isRunning])

theorem Acts.recordSummary (h : Acts fit s t) (z : Zone) : Acts fit s (t.recordSummary z) :=
  h.quiet (by constructor <;> simp [State.isRunning])

theorem Acts.updModule (h : Acts fit s t) (m : Module) (f : ModuleRec → ModuleRec) : Acts fit s (t.updModule m f) :=
  h.quiet (by constructor <;> simp [State.isRunning])

theorem Acts.updLine (h : Acts fit s t) (l : Line) (f : LineRec → LineRec) : Acts fit s (t.updLine l f) :=
  h.quiet (by constructor <;> simp [State.isRunning])

theorem Acts.updContainer (h : Acts fit s t) (c : Container) (f : ContainerRec → ContainerRec) : Acts fit s (t.updContainer c f) :=
  h.quiet (by constructor <;> simp [State.isRunning])

theorem Acts.updPanel (h : Acts fit s t) (z : Zone) (f : PanelRec → PanelRec) : Acts fit s (t.updPanel z f) :=
  h.quiet (by constructor <;> simp [State.isRunning])

theorem Acts.updZone (h : Acts fit s t) (z : Zone) (f : ZoneRec → ZoneRec) (hf : ∀ r, (f r).core = r.core) :
    Acts fit s (t.updZone z f) :=
  h.quiet { running := rfl, zones := fun i hi => t.updZone_view i hi hf, doors := fun _ _ => rfl, entries := rfl,
            reserved := rfl, modes := rfl, valves := rfl, banks := fun _ _ => ⟨rfl, rfl⟩, alarms := ⟨rfl, rfl, rfl⟩,
            queues := fun _ => rfl, pending := rfl }

theorem Acts.updDoor (h : Acts fit s t) (d : Door) (f : DoorRec → DoorRec) (hf : ∀ r, DoorKeeps r (f r)) :
    Acts fit s (t.updDoor d f) := h.act (.door _ _ _ hf)

theorem Acts.refreshAlarmPanel (h : Acts fit s t) (z : Option Zone) : Acts fit s (t.refreshAlarmPanel z) := by
  unfold State.refreshAlarmPanel
  split
  · exact h
  · exact h.refreshPanel _

/-! ## Zones -/

theorem Acts.changeZone (h : Acts fit s t) {z : Zone} {cause : ZoneCause} {f : ZoneRec → ZoneRec} {r : ZoneRec}
    (hr : t.zones[z] = some r) (hf : ZoneTurn t z r (f r)) : Acts fit s (t.changeZone z cause f) :=
  h.act (.zoneTurn _ _ _ _ r hr hf)

theorem ZoneRec.countdownStarted_turn {z : Zone} {r : ZoneRec} (kind : ReleaseKind)
    (h : r.state = .guarded ∨ r.state = .occupiedHold) : ZoneTurn t z r (r.countdownStarted kind) where
  cfg := rfl
  entryHold := id
  hold := .inr (by
    have : (r.countdownStarted kind).noHold = r.noHold := rfl
    rw [this]
    cases hn : r.noHold <;> simp [ZoneRec.countdownStarted, hn])
  notDischarge := by
    refine ⟨by rintro e; rw [e] at h; simp at h, ?_⟩
    simp only [ZoneRec.countdownStarted]
    split <;> simp
  test := .inr (.inl (by rintro e; rw [e] at h; simp at h))

theorem Acts.startCountdown (h : Acts fit s t) {z : Zone} {r : ZoneRec} (hr : t.zones[z] = some r) (kind : ReleaseKind)
    (cause : ZoneCause) (hs : r.state = .guarded ∨ r.state = .occupiedHold) : Acts fit s (t.startCountdown z kind cause) :=
  h.changeZone hr (r.countdownStarted_turn kind hs)

theorem Acts.handSummary (h : Acts fit s t) (z : Zone) : Acts fit s (t.handSummary z) := by
  unfold State.handSummary
  split
  · exact h
  next r hr =>
  have hx : (t.recordSummary z).zones[z] = some { r with summary := t.summaryOf z } := by
    simp only [Fin.getElem_fin] at hr
    simp [State.recordSummary, hr]
  dsimp only
  split_ifs with h1 h2 h3
  · exact h
  · refine (h.recordSummary z).startCountdown hx _ _ (.inr ?_)
    simp only [Bool.and_eq_true, decide_eq_true_eq] at h2
    exact h2.1
  · refine (h.recordSummary z).changeZone hx ⟨rfl, id, .inr ⟨by simp, by simp⟩, ⟨?_, by simp⟩, .inr (.inl ?_)⟩
    all_goals
      simp only [Bool.and_eq_true, Bool.or_eq_true, decide_eq_true_eq] at h3
      obtain ⟨⟨h3 | h3, -⟩, -⟩ := h3 <;> simp [h3]
  · exact h.recordSummary z

/-! ## Alarms -/

theorem Acts.notifyChanged (h : Acts fit s t) (r : AlarmRec) (change : AlarmChange) : Acts fit s (t.notifyChanged r change) :=
  h.notify _

theorem Acts.joinAlarm (h : Acts fit s t) (r : AlarmRec) : Acts fit s (t.joinAlarm r) := by
  unfold State.joinAlarm
  split
  · split
    · exact h.act (.joinAlarm _ _ _)
    · exact h
  · exact h

theorem Acts.leaveAlarm (h : Acts fit s t) (r : AlarmRec) : Acts fit s (t.leaveAlarm r) := by
  unfold State.leaveAlarm
  split
  · split
    · exact h.act (.leaveAlarm _ _ _)
    · exact h
  · exact h

theorem Acts.handReplacement (h : Acts fit s t) (old new : AlarmRec) : Acts fit s (t.handReplacement old new) := by
  unfold State.handReplacement
  dsimp only
  split
  · exact h.joinAlarm _
  · exact (h.joinAlarm _).leaveAlarm _

theorem Alarms.lacks_of_find? {a : Alarms} {kind : AlarmKind} {source : AlarmSource}
    (h : a.records.find? (fun r => r.kind = kind && r.source = source) = none) : a.lacks kind source := by
  intro r hr
  simpa using List.find?_eq_none.mp h r hr

theorem Acts.raiseAlarm (h : Acts fit s t) (kind : AlarmKind) (source : AlarmSource) (zone : Option Zone) :
    Acts fit s (t.raiseAlarm kind source zone) := by
  unfold State.raiseAlarm
  split
  · next old ho =>
    have again : Acts fit s (t.updAlarms (·.replace (old.repeated t.nowSec))) :=
      h.act (.repeated _ old _ (List.mem_of_find?_eq_some ho) ⟨rfl, rfl, rfl⟩ rfl)
    exact again.notifyChanged _ _
  · next hn =>
    have lacks := Alarms.lacks_of_find? hn
    dsimp only
    split
    · next hl => exact ((h.act (.append _ _ _ _ hl lacks)).joinAlarm _).refreshAlarmPanel _
    · next hl =>
      split
      · next old ho =>
        have replaced : Acts fit s (t.replacedAlarm old kind source zone) :=
          h.act (.replaced _ old _ _ _ (List.mem_of_find?_eq_some ho) (List.find?_some ho) lacks)
        exact ((replaced.handReplacement _ _).refreshAlarmPanel _).refreshAlarmPanel _
      · next hf =>
        exact (h.act (.full _ (Nat.not_lt.mp hl) fun r hr => by simpa using List.find?_eq_none.mp hf r hr)).notify _

theorem Acts.conditionGone (h : Acts fit s t) (kind : AlarmKind) (source : AlarmSource) :
    Acts fit s (t.conditionGone kind source) := by
  unfold State.conditionGone
  split
  · exact h
  · next old ho => exact h.act (.settled _ old _ _ (List.mem_of_find?_eq_some ho) ⟨rfl, rfl, rfl⟩)

theorem Acts.acknowledgeAlarm (h : Acts fit s t) {r : AlarmRec} (hr : r ∈ t.alarms.records) :
    Acts fit s (t.acknowledgeAlarm r) := h.act (.settled _ r _ _ hr ⟨rfl, rfl, rfl⟩)

/-! ## Occupancy -/

/-- A change of the occupancy's flags alone. -/
theorem Acts.updOccupancy (h : Acts fit s t) (f : Occupancy → Occupancy) (he : (f t.occupancy).entries = t.occupancy.entries)
    (hr : (f t.occupancy).reserved = t.occupancy.reserved) : Acts fit s (t.updOccupancy f) :=
  h.quiet (by constructor <;> simp [State.isRunning, he, hr])

theorem Acts.refreshWarning (h : Acts fit s t) (z : Zone) : Acts fit s (t.refreshWarning z) :=
  (h.updOccupancy _ rfl rfl).refreshPanel z

theorem Acts.setLone (h : Acts fit s t) (z : Zone) (x : LoneTimer) : Acts fit s (t.setLone z x) := h.updOccupancy _ rfl rfl

theorem Acts.loneGone (h : Acts fit s t) (p : Option Person) : Acts fit s (t.loneGone p) := by
  unfold State.loneGone
  split
  · exact h
  · exact h.conditionGone _ _

theorem Acts.retestLone (h : Acts fit s t) (z : Zone) : Acts fit s (t.retestLone z) := by
  unfold State.retestLone
  dsimp only
  split
  · split
    · exact h
    · exact (h.setLone _ _).loneGone _
  · exact (h.setLone _ _).loneGone _

theorem Acts.announce (h : Acts fit s t) (c : OccChange) : Acts fit s (t.announce c) := (h.notify _).handSummary _

theorem Acts.remove {ev : OccEvent} (h : Acts fit s ev.state) (e : Entry) (cause : OccCause) :
    Acts fit s (ev.remove e cause).state := h.act (.remove _ _)

theorem Acts.uncertain {ev : OccEvent} (h : Acts fit s ev.state) (z : Zone) (cause : OccCause) :
    Acts fit s (ev.uncertain z cause).state := by
  unfold OccEvent.uncertain
  split
  · exact h
  · exact Acts.updOccupancy h (fun o => { o with uncertain := o.uncertain.put z true }) rfl rfl

theorem Acts.uncertainOutside {ev : OccEvent} (h : Acts fit s ev.state) (outside : Option Zone) (cause : OccCause) :
    Acts fit s (ev.uncertainOutside outside cause).state := by
  unfold OccEvent.uncertainOutside
  split
  · exact h
  · exact h.uncertain _ _

theorem Acts.conclude {ev : OccEvent} (h : Acts fit s ev.state) : Acts fit s ev.conclude :=
  ((h.forEach _ _ fun _ _ h => h.conditionGone _ _).forEach _ _ fun _ _ h => (h.refreshWarning _).retestLone _).forEach _ _
    fun _ _ h => h.announce _

theorem Acts.commitExit (h : Acts fit s t) (d : Door) (cfg : DoorCfg) (p : Person) : Acts fit s (t.commitExit d cfg p) := by
  unfold State.commitExit
  split
  · exact (Acts.uncertainOutside (ev := State.occEvent _) (h.notify _) _ _).conclude
  · next e he =>
    refine (Acts.uncertainOutside (Acts.remove (ev := State.occEvent _) ?_ _ _) _ _).conclude
    dsimp only [State.occEvent]
    split
    · exact h
    · exact h.notify _

theorem Acts.unidentifiedExit (h : Acts fit s t) (cfg : DoorCfg) : Acts fit s (t.unidentifiedExit cfg) := by
  refine (Acts.uncertainOutside ?_ _ _).conclude
  split
  · split
    · exact h
    · exact Acts.remove (ev := t.occEvent) h _ _
  · exact Acts.uncertain (ev := t.occEvent) h _ _

theorem Acts.forcedPassage (h : Acts fit s t) (cfg : DoorCfg) : Acts fit s (t.forcedPassage cfg) :=
  ((Acts.uncertain (ev := t.occEvent) h _ _).uncertainOutside _ _).conclude

theorem Acts.entryAfterWithdrawal (h : Acts fit s t) (cfg : DoorCfg) : Acts fit s (t.entryAfterWithdrawal cfg) :=
  (Acts.uncertain (ev := t.occEvent) h _ _).conclude

theorem Acts.checkIn (h : Acts fit s t) (p : Person) : Acts fit s (t.checkIn p) := by
  unfold State.checkIn
  split
  · exact h
  · next e he =>
    split
    · exact h
    · next hd =>
      have due := h.act (.due t p (t.nowSec + t.checkinPeriod e.zone) e he (by simpa [Option.isSome_iff_ne_none] using hd))
      exact ((due.refreshWarning _).conditionGone _ _).announce _

theorem Acts.changeMode (h : Acts fit s t) (z : Zone) (mode : Mode) : Acts fit s (t.changeMode z mode) := by
  have set : Acts fit s ((t.modeSet z mode).refreshWarning z) := (h.act (.mode _ _ _)).refreshWarning z
  unfold State.changeMode
  cases mode with
  | after => exact set.retestLone z
  | working => exact (set.forEach _ _ fun _ _ h => h.conditionGone _ _).retestLone z

theorem Acts.markDeleted (h : Acts fit s t) (p : Person) : Acts fit s (t.markDeleted p) := by
  unfold State.markDeleted
  split
  · exact h
  · exact ((h.act (.mark _ _)).retestLone _).announce _

theorem Acts.forceOut (h : Acts fit s t) (e : Entry) : Acts fit s (t.forceOut e) :=
  (Acts.remove (ev := t.occEvent) h _ _).conclude

theorem Acts.missCheckin (h : Acts fit s t) {p : Person} {e : Entry} (he : t.occupancy.entryOf p = some e)
    (hd : e.deadline.isSome = true) : Acts fit s (t.missCheckin e) := by
  have hp : e.person = p := by simpa using List.find?_some he
  have raised := h.raiseAlarm .missedCheckin (.person e.person) (some e.zone)
  refine Acts.refreshWarning (raised.act (.due _ _ _ e ?_ hd)) _
  rw [hp, Occupancy.entryOf, (t.raiseAlarm_entries _ _ _).1]
  exact he

theorem Acts.evaluateModes (h : Acts fit s t) : Acts fit s t.evaluateModes := by
  refine h.forEach _ _ fun z u hu => ?_
  unfold State.evaluateMode
  split
  · exact hu
  · exact hu.changeMode _ _

theorem Acts.minuteBoundary (h : Acts fit s t) : Acts fit s t.minuteBoundary := by
  refine Acts.evaluateModes ?_
  unfold State.swapSchedules
  split
  · exact (h.quiet (by constructor <;> simp [State.isRunning])).notify _
  · exact h

theorem Acts.advanceSecond (h : Acts fit s t) (now : DateTime) : Acts fit s (t.advanceSecond now) := by
  have set : Acts fit s { t with time := { t.time with tod := some now.next, todMs := t.time.todMs - 1000 } } :=
    h.quiet (by constructor <;> simp [State.isRunning])
  unfold State.advanceSecond
  dsimp only
  split
  · exact set
  · exact set.minuteBoundary

theorem Acts.setTime (h : Acts fit s t) (now : DateTime) : Acts fit s (t.setTime now) :=
  (h.quiet (by constructor <;> simp [State.isRunning])).evaluateModes

/-! ## Doors -/

theorem DoorKeeps.pairingGone (r : DoorRec) : DoorKeeps r { r with pairing := none } :=
  ⟨rfl, rfl, rfl, rfl, rfl, id, by simp⟩

theorem Acts.withdrawPairing (h : Acts fit s t) (d : Door) (cause : WithdrawCause) : Acts fit s (t.withdrawPairing d cause) := by
  unfold State.withdrawPairing
  split
  · exact h
  · exact (h.updDoor _ _ DoorKeeps.pairingGone).notify _

theorem Acts.doorTurn (h : Acts fit s t) {d : Door} {r : DoorRec} {f : DoorRec → DoorRec} (hr : t.doors[d] = some r)
    (hf : DoorTurn r (f r)) : Acts fit s (t.updDoor d f) := h.act (.doorTurn _ _ r _ hr hf)

/-- The record of a door that stands like `r` has its state and withdrawn-window end. -/
theorem DoorRec.core_eq {r x : DoorRec} (h : x.core = r.core) :
    x.cfg = r.cfg ∧ x.state = r.state ∧ x.grant = r.grant ∧ x.pairing = r.pairing ∧ x.openingKind = r.openingKind ∧
    x.openSince = r.openSince ∧ x.withdrawnEnd = r.withdrawnEnd := by
  simpa only [DoorRec.core, DoorCore.mk.injEq] using h

theorem Acts.commitGrant (h : Acts fit s t) (d : Door) (cfg : DoorCfg) {g : Grant} (hg : ¬g.seats) :
    Acts fit s (t.commitGrant d cfg g) := by
  unfold State.commitGrant
  split
  · next hk => exact absurd (.inl hk) hg
  · next hk hp => exact absurd (.inr ⟨hk, by simp [hp]⟩) hg
  · exact (Acts.uncertain (ev := t.occEvent) h _ _).conclude
  · exact ((Acts.uncertain (ev := t.occEvent) h _ _).uncertainOutside _ _).conclude
  · exact h.commitExit _ _ _
  · exact (Acts.uncertainOutside (ev := t.occEvent) h _ _).conclude

theorem State.commitGrant_of_seats (t : State) (d : Door) (cfg : DoorCfg) {g : Grant} (hg : g.seats) :
    t.commitGrant d cfg g = (t.seatEvent d cfg g).conclude := by
  unfold State.commitGrant
  rcases hg with hk | ⟨hk, hp⟩
  · simp [hk, State.commitPersons_eq]
  · rcases hl : g.persons with _ | ⟨p, l⟩
    · exact absurd hl hp
    · simp [hk, State.commitPersons_eq]

theorem State.releaseUnused_of_seats (t : State) (z : Zone) {g : Grant} (hg : g.seats) : t.releaseUnused z g = t := by
  unfold State.releaseUnused
  rcases hg with hk | ⟨hk, hp⟩
  · simp [hk]
  · rcases hl : g.persons with _ | ⟨p, l⟩
    · exact absurd hl hp
    · simp [hk]

theorem Acts.releaseUnused (h : Acts fit s t) (z : Zone) (g : Grant) (hf : fit → ¬g.seats → g.places = 0) :
    Acts fit s (t.releaseUnused z g) := by
  by_cases hg : g.seats
  · rw [State.releaseUnused_of_seats t z hg]; exact h
  · unfold State.releaseUnused
    split
    · exact h
    · exact h
    · exact h.act (.spare _ _ _ fun f => hf f hg)

theorem Acts.grantedOpening (h : Acts fit s t) {d : Door} {r : DoorRec} (stamp : Nat) (hr : t.doorLike d r)
    (hs : r.state = .unlocked) (hf : fit → t.placesFit) : Acts fit s (t.grantedOpening d r stamp) := by
  have opened : t.grantedOpening d r stamp =
      match r.grant with
      | none => t.openedUnder d r stamp
      | some g => ((t.openedUnder d r stamp).commitGrant d r.cfg g).releaseUnused r.cfg.inside g := rfl
  rw [opened]
  split
  · next hg => exact h.act (.openUnder _ _ r _ hr hs (by simp [hg]))
  · next g hg =>
    by_cases seats : g.seats
    · rw [State.releaseUnused_of_seats _ _ seats, State.commitGrant_of_seats _ _ _ seats]
      exact Acts.conclude (h.act (.openSeated _ _ r _ g hr hs hg seats))
    · have under : Acts fit s (t.openedUnder d r stamp) := h.act (.openUnder t d r stamp hr hs (by rintro x hx; rw [hg] at hx; cases hx; exact seats))
      refine (under.commitGrant _ _ seats).releaseUnused _ _ fun f _ => ?_
      obtain ⟨x, hx, e⟩ := hr
      rw [hf f d x g hx ((DoorRec.core_eq e).2.2.1.trans hg), ite_eq_right_iff]
      rintro (hk | hk)
      · exact absurd (.inl hk) seats
      · by_contra hp
        exact seats (.inr ⟨hk, by simpa using hp⟩)

theorem Acts.egressOpening (h : Acts fit s t) {d : Door} {r : DoorRec} (stamp : Nat) (hr : t.doorLike d r)
    (hs : r.state = .secure) (hw : r.withdrawnEnd = none) : Acts fit s (t.egressOpening d r stamp) := by
  obtain ⟨x, hx, e⟩ := hr
  obtain ⟨-, es, -, -, -, -, ew⟩ := DoorRec.core_eq e
  refine Acts.notifyDoor (Acts.unidentifiedExit (Acts.refreshDrive (h.doorTurn hx ?_) _) _) _ _ _ _
  exact ⟨rfl, rfl, rfl, by simp [es, hs], fun _ => ⟨by simp, by simp, by simp [ew, hw]⟩, by simp [DoorRec.underGrant]⟩

theorem Acts.forcedOpening (h : Acts fit s t) {d : Door} {r : DoorRec} (stamp : Nat) (hr : t.doorLike d r)
    (hs : r.state = .secure) (hw : r.withdrawnEnd = none) : Acts fit s (t.forcedOpening d r stamp) := by
  obtain ⟨x, hx, e⟩ := hr
  obtain ⟨-, es, -, -, -, -, ew⟩ := DoorRec.core_eq e
  refine Acts.notifyDoor (Acts.forcedPassage (Acts.refreshDrive (h.doorTurn hx ?_) _) _) _ _ _ _
  refine ⟨rfl, rfl, rfl, by simp [es, hs], fun fits => ⟨?_, by simp, by simp [ew, hw]⟩, by simp [DoorRec.underGrant]⟩
  simpa [es, hs] using fits.kind

theorem Acts.openingAfterWithdrawal (h : Acts fit s t) {d : Door} {r : DoorRec} (stamp : Nat) (hr : t.doorLike d r)
    (hs : r.state = .secure) : Acts fit s (t.openingAfterWithdrawal d r stamp) := by
  obtain ⟨x, hx, e⟩ := hr
  obtain ⟨-, es, -, -, -, -, -⟩ := DoorRec.core_eq e
  refine Acts.notifyDoor (Acts.entryAfterWithdrawal (Acts.refreshDrive (h.doorTurn hx ?_) _) _) _ _ _ _
  exact ⟨rfl, rfl, rfl, by simp [es, hs], fun _ => ⟨by simp, by simp, by simp⟩, by simp [DoorRec.underGrant]⟩

theorem Acts.secureOpening (h : Acts fit s t) {d : Door} {r : DoorRec} (stamp : Nat) (hr : t.doorLike d r)
    (hs : r.state = .secure) : Acts fit s (t.secureOpening d r stamp) := by
  unfold State.secureOpening
  split
  · exact h.openingAfterWithdrawal stamp hr hs
  · next hw =>
    have hw : r.withdrawnEnd = none := by simpa using hw
    split
    · exact h.egressOpening stamp hr hs hw
    · exact h.forcedOpening stamp hr hs hw

theorem Acts.offlineOpening (h : Acts fit s t) (d : Door) (r : DoorRec) (stamp : Nat) : Acts fit s (t.offlineOpening d r stamp) := by
  unfold State.offlineOpening
  split
  · exact (h.unidentifiedExit _).notifyDoor _ _ _ _
  · exact (h.forcedPassage _).notifyDoor _ _ _ _

theorem Acts.doorCloses (h : Acts fit s t) {d : Door} {r : DoorRec} (hr : t.doorLike d r)
    (hs : r.state = .opened ∨ r.state = .heldOpen ∨ r.state = .forced) : Acts fit s (t.doorCloses d r) := by
  obtain ⟨x, hx, e⟩ := hr
  obtain ⟨-, es, -, -, -, -, -⟩ := DoorRec.core_eq e
  refine Acts.notifyDoor (Acts.refreshDrive (h.doorTurn hx ?_) _) _ _ _ _
  refine ⟨rfl, rfl, rfl, ⟨?_, by simp⟩, fun _ => ⟨by simp, by simp, by simp⟩, by simp [DoorRec.underGrant]⟩
  rw [es]
  rintro e
  simp [e] at hs

/-- A door that could not be read takes the state its contact position gives. -/
theorem DoorRec.atContact_turn {r : DoorRec} (hs : r.state = .offline ∨ r.state = .fault) (opened : Bool) (now : Nat) :
    DoorTurn r (r.atContact opened now) := by
  have locked : r.state ≠ .unlocked := by rintro e; simp [e] at hs
  have window (hx : r.Fits) : r.withdrawnEnd = none := by
    by_contra e
    have := hx.window (by rwa [Option.isSome_iff_ne_none])
    simp [this] at hs
  cases opened with
  | true =>
    exact ⟨rfl, rfl, rfl, ⟨locked, by simp [DoorRec.atContact]⟩, fun hx => ⟨by simp [DoorRec.atContact],
      by simp [DoorRec.atContact], by simp [DoorRec.atContact, window hx]⟩, by simp [DoorRec.underGrant, DoorRec.atContact]⟩
  | false =>
    exact ⟨rfl, rfl, rfl, ⟨locked, by simp [DoorRec.atContact]⟩, fun hx => ⟨by simp [DoorRec.atContact],
      by simp [DoorRec.atContact], by simp [DoorRec.atContact]⟩, by simp [DoorRec.underGrant, DoorRec.atContact]⟩

/-- A turn of a door's record with a field besides that no invariant speaks of. -/
theorem DoorTurn.of_core {r x y : DoorRec} (h : DoorTurn r x) (e : y.core = x.core) : DoorTurn r y := by
  obtain ⟨e1, e2, e3, e4, e5, e6, e7⟩ := DoorRec.core_eq e
  refine ⟨e1.trans h.cfg, e3.trans h.grant, e4.trans h.pairing, ⟨h.locked.1, e2 ▸ h.locked.2⟩, fun hr => ?_, fun hr hy => ?_⟩
  · obtain ⟨k, o, w⟩ := h.fits hr
    exact ⟨by rw [e5, e2]; exact k, by rw [e6, e2]; exact o, by rw [e7, e2]; exact w⟩
  · refine h.underGrant hr ?_
    unfold DoorRec.underGrant at hy ⊢
    rwa [e2, e5] at hy

theorem Acts.leaveOffline (h : Acts fit s t) {d : Door} {r : DoorRec} (hr : t.doorLike d r) (hs : r.state = .offline)
    (opened : Bool) : Acts fit s (t.leaveOffline d r opened) := by
  obtain ⟨x, hx, e⟩ := hr
  have es := (DoorRec.core_eq e).2.1
  refine Acts.notifyDoor (Acts.refreshDrive (h.doorTurn hx ?_) _) _ _ _ _
  exact (x.atContact_turn (.inl (es.trans hs)) opened t.nowMs).of_core rfl

theorem Acts.contactRestored (h : Acts fit s t) {d : Door} {r : DoorRec} (hr : t.doorLike d r) (hs : r.state = .fault)
    (opened : Bool) : Acts fit s (t.contactRestored d r opened) := by
  obtain ⟨x, hx, e⟩ := hr
  have es : x.state = .fault := (DoorRec.core_eq e).2.1.trans hs
  have turn : DoorTurn x (if t.doorModuleOnline r then x.atContact opened t.nowMs else { x with state := .offline }) := by
    split
    · exact x.atContact_turn (.inr es) opened t.nowMs
    · refine ⟨rfl, rfl, rfl, by simp [es], fun ⟨k, o, w⟩ => ?_, by simp [DoorRec.underGrant]⟩
      rw [es] at k o w
      exact ⟨by simpa using k, by simpa using o, by simpa using w⟩
  have restored := (h.doorTurn
    (f := fun x => if t.doorModuleOnline r then x.atContact opened t.nowMs else { x with state := .offline }) hx
    turn).refreshDrive d
  unfold State.contactRestored
  dsimp only
  split
  · exact ((restored.forcedPassage _).notifyDoor _ _ _ _).notifyDoor _ _ _ _
  · exact restored.notifyDoor _ _ _ _

theorem Acts.contactReport (h : Acts fit s t) (d : Door) (previous : Option LineClass) (new : LineClass) (stamp : Nat)
    (hf : fit → t.placesFit) : Acts fit s (t.contactReport d previous new stamp) := by
  unfold State.contactReport
  split
  · exact h
  next r hr =>
  split
  · split
    · exact h
    · exact h.act (.lose _ _ _ _ _ hr (.inr rfl))
  dsimp only
  generalize (new == LineClass.active) = opened
  let f (x : DoorRec) : DoorRec := { x with contactOpen := some opened }
  have placed : Acts fit s (t.updDoor d f) := h.updDoor d f fun r => ⟨rfl, rfl, rfl, rfl, rfl, id, id⟩
  have like : (t.updDoor d f).doorLike d r := by
    simp only [Fin.getElem_fin] at hr
    exact ⟨f r, by simp [hr], rfl⟩
  have fits : fit → (t.updDoor d f).placesFit := by
    intro hfit e x g hx hg
    simp only [State.updDoor_doors, Fin.getElem_fin, Tab.getElem_put] at hx
    split at hx
    · next he =>
      rw [Option.map_eq_some_iff] at hx
      obtain ⟨y, hy, rfl⟩ := hx
      exact hf hfit d y g hy hg
    · exact hf hfit e x g hx hg
  split
  · next hs => exact placed.contactRestored like hs opened
  · next hs =>
    split
    · split
      · exact placed.leaveOffline like hs opened
      · exact placed
    · split
      · exact placed.offlineOpening d r stamp
      · exact placed
  · next hs =>
    split
    · exact placed.secureOpening stamp like hs
    · exact placed
  · next hs =>
    split
    · exact placed.grantedOpening stamp like hs fits
    · exact placed
  all_goals
    next hs =>
    split
    · exact placed
    · exact placed.doorCloses like (by simp [hs])

theorem Acts.doorModuleOffline (h : Acts fit s t) (d : Door) : Acts fit s (t.doorModuleOffline d) := by
  unfold State.doorModuleOffline
  split
  · exact h
  · next r hr =>
    split
    · exact h
    · exact h
    all_goals exact h.act (.lose _ _ _ _ _ hr (.inl rfl))

theorem Acts.doorModuleBack (h : Acts fit s t) (d : Door) : Acts fit s (t.doorModuleBack d) := by
  unfold State.doorModuleBack
  split
  · exact h
  · next r hr =>
    split
    · next hs _ => exact h.leaveOffline ⟨r, hr, rfl⟩ hs _
    · exact h

theorem Acts.lockFeedbackReport (h : Acts fit s t) (d : Door) (f : LockFeedback) : Acts fit s (t.lockFeedbackReport d f) := by
  unfold State.lockFeedbackReport
  split
  · exact h.updDoor _ _ fun r => ⟨rfl, rfl, rfl, rfl, rfl, by simp, id⟩
  · exact h

theorem Acts.expirePairing (h : Acts fit s t) (d : Door) (p : Pairing) : Acts fit s (t.expirePairing d p) :=
  ((h.updDoor _ _ DoorKeeps.pairingGone).notify _).startDenial d

end

end Sys2Proof.Machine


/-! Every command is a run of acts. -/

namespace Sys2Proof.Machine

section
variable {fit : Prop} {s t : State}

/-! ## Access decisions -/

/-- What a decision has established before it takes effect. -/
def State.decisionHolds (s : State) (r : DoorRec) : Decision → Prop
  | .pair _ => s.bars r.cfg.inside = false
  | .grant kind persons places =>
    (places = if kind = .entry ∨ kind = .response then persons.length else 0) ∧
      (places ≠ 0 → s.placesFree r.cfg.inside places = true)
  | .checkIn _ => True
  | .deny _ => True

theorem State.decideEntry_holds (s : State) (r : DoorRec) (me : GrantPerson) (record : PersonRec) :
    s.decisionHolds r (s.decideEntry r me record) := by
  unfold State.decideEntry
  dsimp only
  split_ifs with h1 h2 h3 h4 h5 h6 h7 h8 h9
  all_goals simp_all [State.decisionHolds]

theorem State.decide_holds (s : State) (r : DoorRec) (x : Presentation) : s.decisionHolds r (s.decide r x).1 := by
  unfold State.decide
  split
  · unfold State.decideEntryRead
    repeat' split
    rotate_right
    · exact s.decideEntry_holds r _ _
    all_goals trivial
  · unfold State.decideExitRead
    repeat' split
    all_goals simp [State.decisionHolds]
  · unfold State.decideCheckin
    repeat' split
    all_goals trivial

theorem Acts.denyPresentation (h : Acts fit s t) (d : Door) (x : Presentation) (person : Option Person) (reason : DenialReason)
    (duress : Bool) : Acts fit s (t.denyPresentation d x person reason duress) := (h.notify _).startDenial d

theorem Acts.installGrant (h : Acts fit s t) {d : Door} {r : DoorRec} {kind : GrantKind} {persons : List GrantPerson}
    {places : Nat} (hr : t.doors[d] = some r) (hi : t.installRefusal r kind = none)
    (hd : t.decisionHolds r (.grant kind persons places)) : Acts fit s (t.installGrant d r kind persons places) :=
  h.act (.install _ _ _ _ _ _ hr hi hd.1 hd.2)

theorem Acts.offerGrant (h : Acts fit s t) {d : Door} {r : DoorRec} {kind : GrantKind} {persons : List GrantPerson}
    {places : Nat} (hr : t.doors[d] = some r) (hd : t.decisionHolds r (.grant kind persons places)) :
    Acts fit s (t.offerGrant d r kind persons places).1 := by
  unfold State.offerGrant
  split
  · exact h
  · next hi => exact h.installGrant hr hi hd

theorem Acts.applyDecision (h : Acts fit s t) {d : Door} {r : DoorRec} (hr : t.doors[d] = some r) (x : Presentation)
    (person : Option Person) (duress : Bool) {decision : Decision} (hd : t.decisionHolds r decision) :
    Acts fit s (t.applyDecision d r x person duress decision) := by
  cases decision with
  | deny reason => exact h.denyPresentation _ _ _ _ _
  | checkIn p => exact h.checkIn p
  | pair first => exact (Acts.refreshDrive (h.act (.pair _ _ r _ hr hd)) d).notify _
  | grant kind persons places =>
    have offered := h.offerGrant hr hd
    show Acts fit s (match t.offerGrant d r kind persons places with
      | (u, none) => u
      | (u, some reason) => u.denyPresentation d x person reason duress)
    split
    · next u e => rw [e] at offered; exact offered
    · next u reason e => rw [e] at offered; exact offered.denyPresentation _ _ _ _ _

theorem Acts.present (h : Acts fit s t) (d : Door) (x : Presentation) : Acts fit s (t.present d x) := by
  unfold State.present
  split
  · exact h
  · next r hr =>
    have applied := h.applyDecision hr x (t.decide r x).2.1 (t.decide r x).2.2 (t.decide_holds r x)
    show Acts fit s ((t.applyDecision d r x _ _ _).raiseDuress _ _ _)
    unfold State.raiseDuress
    split
    · exact applied.raiseAlarm _ _ _
    · exact applied

/-! ## The door bus -/

theorem Acts.notifyModule (h : Acts fit s t) (m : Module) (failure : Option PollFailure) : Acts fit s (t.notifyModule m failure) := by
  unfold State.notifyModule
  split
  · exact h
  · exact h.notify _

theorem Acts.countFailure (h : Acts fit s t) (m : Module) (failure : PollFailure) : Acts fit s (t.countFailure m failure) := by
  unfold State.countFailure
  split
  · exact h
  · next r _ =>
    split
    · have dropped : Acts fit s { t with bus := { t.bus with queue := t.bus.queue.filter (·.1 != m) } } :=
        h.quiet (by constructor <;> simp [State.isRunning])
      exact ((dropped.updModule m _).doorModuleOffline r.door).notifyModule m _
    · exact h.updModule m _

theorem Acts.goodAnswer (h : Acts fit s t) (m : Module) (a : PollAnswer) : Acts fit s (t.goodAnswer m a) := by
  unfold State.goodAnswer
  split
  · exact h
  next r hr =>
  have presence : Acts fit s (t.answerPresence m r) := by
    unfold State.answerPresence
    dsimp only
    split
    · exact h.updModule _ _
    · exact (h.updModule _ _).doorModuleBack _
  have tamper : Acts fit s ((t.answerPresence m r).answerTamper m r a) := by
    unfold State.answerTamper
    dsimp only
    split
    · exact presence.updModule _ _
    · exact (presence.updModule _ _).notifyModule _ _
  have feedback : Acts fit s (((t.answerPresence m r).answerTamper m r a).answerLockFeedback m r a) := by
    unfold State.answerLockFeedback
    split
    · exact tamper
    · exact (tamper.updModule _ _).lockFeedbackReport _ _
  have recovery : Acts fit s ((((t.answerPresence m r).answerTamper m r a).answerLockFeedback m r a).answerRecovery m r a) := by
    unfold State.answerRecovery State.recoveryDrive
    repeat' split
    · exact feedback
    · exact feedback.handDrive _ _
    · exact feedback
  unfold State.answerEvent
  dsimp only
  repeat' split
  · exact recovery.updModule _ _
  · exact (recovery.updModule _ _).present _ _
  · exact recovery.updModule _ _

theorem Acts.endPoll (h : Acts fit s t) (m : Module) (answer : Option PollAnswer) : Acts fit s (t.endPoll m answer) := by
  unfold State.endPoll
  split
  · exact (h.goodAnswer _ _).busFree
  · exact (h.countFailure _ _).busFree

/-! ## Supervised lines -/

theorem Acts.handReport (h : Acts fit s t) (l : Line) (role : LineRole) (previous : Option LineClass) (new : LineClass)
    (stamp : Nat) (hf : fit → t.placesFit) : Acts fit s (t.handReport l role previous new stamp) := by
  unfold State.handReport
  split
  · exact h.contactReport _ _ _ _ hf
  · unfold State.handleReport
    split
    · exact h.updDoor _ _ fun r => ⟨rfl, rfl, rfl, rfl, rfl, id, id⟩
    · exact h
  · unfold State.abortReport
    repeat' split
    · exact h.act (.joinLine _ _ _)
    · exact h.act (.leaveLine _ _ _)
    all_goals exact h
  · unfold State.buttonReport
    repeat' split
    · exact h.raiseAlarm _ _ _
    · exact h.conditionGone _ _
    all_goals exact h
  · exact h.act (.feedback _ _ _)
  · exact h

theorem State.placesFit_of_doors {s t : State} (e : t.doors = s.doors) (h : s.placesFit) : t.placesFit := by
  unfold State.placesFit at h ⊢
  rwa [e]

theorem Acts.scanLine (h : Acts fit s t) (l : Line) (r : LineRec) (code : Byte) (hf : fit → t.placesFit) :
    Acts fit s (t.scanLine l r code) := by
  have scanned := h.updLine l fun _ => r.scanned code t.nowMs
  unfold State.scanLine State.reportScan
  dsimp only
  split
  · exact scanned
  next new _ =>
  split
  · exact scanned
  refine Acts.handReport ?_ _ _ _ _ _ fun f => State.placesFit_of_doors (by simp) (hf f)
  unfold State.notifyLineFault
  split
  · exact scanned.notify _
  · exact scanned

/-! ## Zones and banks -/

theorem Acts.tickZone (h : Acts fit s t) (z : Zone) : Acts fit s (t.tickZone z) := by
  unfold State.tickZone
  split
  · exact h
  next r hr =>
  split
  · exact h
  next hs =>
  split
  · exact Acts.refreshPanel (h.updZone z (fun x => { x with remaining := some (_ + 1) }) fun _ => rfl) z
  · exact h.act (.enter _ _ r hr (by simpa using hs))

theorem Acts.refreshBank (h : Acts fit s t) (bank : Bank) : Acts fit s (t.refreshBank bank) := by
  unfold State.refreshBank
  dsimp only
  split
  · exact h
  generalize hx : bankStateFor _ _ = x
  have found : Acts fit s (t.updBank bank fun k => { k with state := x }) := by
    refine h.quiet { running := rfl, zones := fun _ _ => rfl, doors := fun _ _ => rfl, entries := rfl, reserved := rfl,
                     modes := rfl, valves := rfl, banks := fun i hi => ?_, alarms := ⟨rfl, rfl, rfl⟩, queues := fun _ => rfl,
                     pending := rfl }
    rw [State.updBank_banks, Tab.getElem_put]
    split
    · next e => subst e; exact ⟨rfl, rfl⟩
    · exact ⟨rfl, rfl⟩
  refine (found.notify _).forEach _ _ fun z u hu => hu.updZone z _ fun r => ?_
  split <;> rfl

theorem Acts.settleContainer (h : Acts fit s t) (c : Container) (previous : ContainerState) (r : ContainerRec) :
    Acts fit s (t.settleContainer c previous r) := by
  unfold State.settleContainer
  dsimp only
  repeat' split
  · exact h.updContainer _ _
  · exact (h.updContainer _ _).notify _
  · exact ((h.updContainer _ _).notify _).refreshBank _

theorem Acts.takeTelegram (h : Acts fit s t) (telegram : List Byte) : Acts fit s (t.takeTelegram telegram) := by
  unfold State.takeTelegram
  split
  · exact h
  unfold State.handleTelegram
  dsimp only
  split
  · exact h.raiseAlarm _ _ _
  · exact h.raiseAlarm _ _ _
  · split
    · exact h
    · exact h.checkIn _
  · exact h.notify _

/-! ## Start-up -/

theorem Acts.endLoading (h : Acts fit s t) (l : Loader) (ht : t.isRunning = false) : Acts fit s (t.endLoading l) := by
  refine Acts.notify (Acts.forEach (h.act (.configure t _ _ ht rfl)) _ _ fun d u hu => hu.refreshDrive d) _

/-- Before STARTUP_DONE a read record leaves the load running. -/
theorem Loader.read_phase (l : Loader) (bytes : List Byte) : (l.read bytes).1.phase = l.phase := by
  unfold Loader.read
  split
  · split <;> rfl
  · split
    · rfl
    · unfold Loader.readRecord
      split
      · dsimp only
        repeat' split
        · rfl
        · rfl
        · rfl
        · unfold Loader.take
          split <;> rfl
      · split <;> rfl

/-! ## Requests -/

theorem Acts.updPort (h : Acts fit s t) (p : Port) (f : PortRec → PortRec)
    (hf : (f t.ports[portIndex p]).queue.length ≤ 48 ∨
      (f t.ports[portIndex p]).queue.length ≤ (t.ports[portIndex p]).queue.length) : Acts fit s (t.updPort p f) :=
  h.act (.port _ _ _ hf)

@[simp] theorem PortRec.send_queue (r : PortRec) (a : Answer) : (r.send a).queue = r.queue := by
  unfold PortRec.send
  split <;> rfl

theorem Acts.answerFrame (h : Acts fit s t) (p : Port) (f : Frame) (decide : State → Reply)
    (hd : ∀ u, Acts fit s u → Acts fit s (decide u).state) : Acts fit s (t.answerFrame p f decide) :=
  (hd _ (h.updPort p (fun x => { x with rx := .hunt }) (.inr (Nat.le_refl _)))).updPort p
    (·.send (composeAnswer f _ _)) (.inr (by simp))

/-- A request whose decision is a run of acts on a controller past STARTUP_DONE. -/
theorem Acts.takeRequest (h : Acts fit s t) (p : Port) (b code : Byte) (rights : Rights) (decide : Decide)
    (hd : ∀ u payload, Acts fit s u → u.isRunning = true → Acts fit s (decide u p payload).state) :
    Acts fit s (t.takeRequest p b code false rights decide) := by
  unfold State.takeRequest
  split
  · exact h
  split
  · exact h
  split
  · refine h.answerFrame _ _ _ fun u hu => ?_
    unfold State.checkRequest
    split
    · exact hu
    · next hr =>
      split
      · exact hu
      · exact hd _ _ hu (by simpa using hr)
  · exact h

/-- A request that reads changes nothing but its port, at any time. -/
theorem Acts.takeReading (h : Acts fit s t) (p : Port) (b code : Byte) (early : Bool) (rights : Rights) (decide : Decide)
    (hd : ∀ u payload, (decide u p payload).state = u) : Acts fit s (t.takeRequest p b code early rights decide) := by
  unfold State.takeRequest
  split
  · exact h
  split
  · exact h
  split
  · refine h.answerFrame _ _ _ fun u hu => ?_
    unfold State.checkRequest
    split
    · exact hu
    · split
      · exact hu
      · rw [hd]; exact hu
  · exact h

@[simp] theorem State.readItem_state {α : Type} (s : State) (payload : List Byte) (find : Nat → Option α)
    (content : α → List Byte) : (s.readItem payload find content).state = s := by
  unfold State.readItem
  repeat' split
  all_goals rfl

@[simp] theorem State.readAll_state (s : State) (payload : List Byte) (content : List Byte) :
    (s.readAll payload content).state = s := by
  unfold State.readAll
  split <;> rfl

/-! ### Persons, groups, schedules -/

theorem Acts.decideWritePerson {p : Port} {payload : List Byte} (h : Acts fit s t) :
    Acts fit s (decideWritePerson t p payload).state := by
  unfold Machine.decideWritePerson
  split
  · exact h
  split
  · exact h
  next _ index r _ _ _ =>
  have written : Acts fit s
      { t with personnel := { t.personnel with table := writeIndex t.personnel.table index r } } :=
    h.quiet (by constructor <;> simp [State.isRunning])
  show Acts fit s (State.retestPerson _ _ _ _)
  unfold State.retestPerson
  split
  · split
    · exact written
    · exact written.retestLone _
  · exact written

theorem Acts.decideDeletePerson {p : Port} {payload : List Byte} (h : Acts fit s t) :
    Acts fit s (decideDeletePerson t p payload).state := by
  unfold Machine.decideDeletePerson
  split
  · exact h
  split
  · exact h
  next _ index _ _ =>
  have erased : Acts fit s { t with personnel := { t.personnel with table := eraseIndex t.personnel.table index } } :=
    h.quiet (by constructor <;> simp [State.isRunning])
  exact (erased.markDeleted index).forEach _ _ fun d u hu => (hu.withdrawPairing d _).refreshDrive d

theorem Acts.decideWriteGroup {p : Port} {payload : List Byte} (h : Acts fit s t) :
    Acts fit s (decideWriteGroup t p payload).state := by
  unfold Machine.decideWriteGroup
  split
  · exact h
  · exact h.quiet (by constructor <;> simp [State.isRunning, State.reply])

theorem Acts.stage (h : Acts fit s t) (f : ScheduleSet → ScheduleSet) : Acts fit s (t.stage f) :=
  h.quiet (by constructor <;> simp [State.isRunning, State.stage])

theorem Acts.decideStageSchedule {p : Port} {payload : List Byte} (h : Acts fit s t) :
    Acts fit s (decideStageSchedule t p payload).state := by
  unfold Machine.decideStageSchedule
  repeat' split
  · exact h
  · exact h
  · exact h.stage fun _ => _

theorem Acts.decideStageHolidays {p : Port} {payload : List Byte} (h : Acts fit s t) :
    Acts fit s (decideStageHolidays t p payload).state := by
  unfold Machine.decideStageHolidays
  repeat' split
  · exact h
  · exact h
  · exact h
  · exact h.stage fun _ => _

theorem Acts.decideCommitSchedules {p : Port} {payload : List Byte} (h : Acts fit s t) :
    Acts fit s (decideCommitSchedules t p payload).state := by
  unfold Machine.decideCommitSchedules
  split
  · exact h
  · exact h.quiet (by constructor <;> simp [State.isRunning, State.reply])

theorem Acts.decideSetTime {p : Port} {payload : List Byte} (h : Acts fit s t) :
    Acts fit s (decideSetTime t p payload).state := by
  unfold Machine.decideSetTime
  split
  · exact h
  · exact h.setTime _

/-! ### Grants by request -/

@[simp] theorem installReply_state (x : State × Option DenialReason) : (installReply x).state = x.1 := by
  unfold installReply
  split <;> rfl

/-- A number that names a door is that door's. -/
theorem State.doorNamed_eq {s : State} {n : Nat} {d : Door} {r : DoorRec} (h : s.doorNamed n = some (d, r)) :
    n = d.val ∧ s.doors[d] = some r := by
  unfold State.doorNamed at h
  split at h
  · next hn =>
    rw [Option.map_eq_some_iff] at h
    obtain ⟨x, hx, e⟩ := h
    cases e
    exact ⟨rfl, hx⟩
  · exact absurd h (by simp)

/-- A number that names a zone is that zone's. -/
theorem State.zoneNamed_eq {s : State} {n : Nat} {z : Zone} {r : ZoneRec} (h : s.zoneNamed n = some (z, r)) :
    n = z.val ∧ s.zones[z] = some r := by
  unfold State.zoneNamed at h
  split at h
  · next hn =>
    rw [Option.map_eq_some_iff] at h
    obtain ⟨x, hx, e⟩ := h
    cases e
    exact ⟨rfl, hx⟩
  · exact absurd h (by simp)

theorem Acts.decideDoorPulse {p : Port} {payload : List Byte} (h : Acts fit s t) :
    Acts fit s (decideDoorPulse t p payload).state := by
  unfold Machine.decideDoorPulse
  split
  · exact h
  split
  · exact h
  next d r hd =>
  unfold State.pulseDoor
  repeat' split
  rotate_right
  · rw [installReply_state]
    exact h.offerGrant (State.doorNamed_eq hd).2 (by simp [State.decisionHolds])
  all_goals exact h

theorem Acts.respond (h : Acts fit s t) {d : Door} {r : DoorRec} (hr : t.doors[d] = some r) (person : Option Person) :
    Acts fit s (t.respond d r person).state := by
  unfold State.respond
  split_ifs with h1 h2 h3 h4 h5 h6 h7
  rotate_right
  · unfold State.offerResponse
    split
    · rw [installReply_state]
      exact h.offerGrant hr (by simp [State.decisionHolds])
    · rw [installReply_state]
      exact h.offerGrant hr (by simpa [State.decisionHolds] using h7)
  all_goals exact h

theorem Acts.decideResponseEntry {p : Port} {payload : List Byte} (h : Acts fit s t) :
    Acts fit s (decideResponseEntry t p payload).state := by
  unfold Machine.decideResponseEntry
  split
  · exact h
  split
  · exact h
  next d r hd => exact h.respond (State.doorNamed_eq hd).2 _

/-! ### Zones -/

/-- A zone's rule is a run of acts from every record the zone has. -/
def ZoneRule.Runs (rule : ZoneRule) : Prop :=
  ∀ (fit : Prop) (s t : State) (z : Zone) (r : ZoneRec), t.zones[z] = some r → Acts fit s t → Acts fit s (rule t z r).1

theorem Acts.onZone (h : Acts fit s t) (n : Nat) {rule : ZoneRule} (hr : rule.Runs) : Acts fit s (t.onZone n rule).state := by
  unfold State.onZone
  split
  · exact h
  · next z r e => exact hr _ _ _ _ _ (State.zoneNamed_eq e).2 h

theorem Acts.decideZone {p : Port} {payload : List Byte} (h : Acts fit s t) {rule : ZoneRule} (hr : rule.Runs) :
    Acts fit s (decideZone rule t p payload).state := by
  unfold Machine.decideZone
  split
  · exact h
  · exact h.onZone _ hr

theorem armZone_runs : ZoneRule.Runs armZone := by
  intro fit s t z r hr h
  unfold armZone
  split
  · next hs =>
    repeat' split
    · exact h
    · exact h
    · next ht =>
      exact h.changeZone hr ⟨rfl, by simp, .inr (by simp), by simp [hs], .inl (by simpa using ht)⟩
  all_goals exact h

theorem isolateZone_runs : ZoneRule.Runs isolateZone := by
  intro fit s t z r hr h
  have turned (hs : r.state ≠ .discharge) : Acts fit s (t.changeZone z .isolate (·.withoutRelease .isolated)) :=
    h.changeZone hr ⟨rfl, id, .inr (by simp [ZoneRec.withoutRelease]), ⟨hs, by simp [ZoneRec.withoutRelease]⟩, .inr (.inr rfl)⟩
  unfold isolateZone
  split
  all_goals first
    | next hs => exact turned (by simp [hs])
    | exact h

theorem clearEntryHold_runs : ZoneRule.Runs clearEntryHold := by
  intro fit s t z r hr h
  unfold clearEntryHold
  split
  · next hs =>
    split
    · exact h.changeZone hr ⟨rfl, by simp, .inl ⟨rfl, rfl⟩, by simp [hs], .inr (.inr hs)⟩
    · exact h
  all_goals exact h

theorem ventZone_runs : ZoneRule.Runs ventZone := by
  intro fit s t z r hr h
  unfold ventZone
  split
  · next hs => exact h.changeZone hr ⟨rfl, by simp, .inr (by simp), by simp [hs], .inr (.inr rfl)⟩
  all_goals exact h

theorem releaseAuto_runs : ZoneRule.Runs releaseAuto := by
  intro fit s t z r hr h
  unfold releaseAuto
  split
  · next hs =>
    split
    · exact h.changeZone hr ⟨rfl, id, .inr (by simp), by simp [hs], .inr (.inl (by simp [hs]))⟩
    · exact h.startCountdown hr _ _ (.inl hs)
  all_goals exact h

theorem releaseManual_runs : ZoneRule.Runs releaseManual := by
  intro fit s t z r hr h
  have upgraded (hs : r.state = .countdown ∨ r.state = .held) :
      Acts fit s (t.changeZone z .manualUpgrade fun x => { x with kind := some .manual }) := by
    refine h.changeZone hr ⟨rfl, id, .inl ⟨rfl, rfl⟩, ?_, .inr (.inl ?_)⟩ <;> rcases hs with hs | hs <;> simp [hs]
  unfold releaseManual
  split
  · next hs => exact h.startCountdown hr _ _ (.inl hs)
  · next hs => exact h.startCountdown hr _ _ (.inr hs)
  · next hs =>
    split
    · exact upgraded (.inl hs)
    · exact h
  · next hs =>
    split
    · exact upgraded (.inr hs)
    · exact h
  all_goals exact h

theorem cancelZone_runs : ZoneRule.Runs cancelZone := by
  intro fit s t z r hr h
  have turned (hs : r.state = .occupiedHold ∨ r.state = .countdown ∨ r.state = .held) :
      Acts fit s (t.changeZone z .cancel (·.withoutRelease .guarded)) := by
    refine h.changeZone hr ⟨rfl, id, .inr (by simp [ZoneRec.withoutRelease]), ⟨?_, by simp [ZoneRec.withoutRelease]⟩, .inr (.inl ?_)⟩ <;>
      rcases hs with hs | hs | hs <;> simp [hs]
  unfold cancelZone
  split
  · next hs => exact turned (.inl hs)
  · next hs => exact turned (.inr (.inl hs))
  · next hs => exact turned (.inr (.inr hs))
  all_goals exact h

theorem Acts.decideRelease {p : Port} {payload : List Byte} (h : Acts fit s t) :
    Acts fit s (decideRelease t p payload).state := by
  unfold Machine.decideRelease
  split
  · exact h
  · exact h.onZone _ releaseAuto_runs
  · exact h.onZone _ releaseManual_runs

theorem Acts.decideTestRelease {p : Port} {payload : List Byte} (h : Acts fit s t) (hs : t.isRunning = true) :
    Acts fit s (decideTestRelease t p payload).state := by
  unfold Machine.decideTestRelease
  split
  · exact h
  split
  · exact h
  next z r e =>
  unfold State.testZone
  split_ifs with h1 h2 h3
  rotate_right
  · exact h.act (.test _ _ r (State.zoneNamed_eq e).2 (by simpa using h2) hs)
  all_goals exact h

/-! ### Alarms, sweeps, panels -/

theorem Acts.decideAckAlarm {p : Port} {payload : List Byte} (h : Acts fit s t) :
    Acts fit s (decideAckAlarm t p payload).state := by
  unfold Machine.decideAckAlarm
  split
  · exact h
  split
  · exact h
  next r hr =>
  show Acts fit s (if _ then _ else _)
  split
  · exact h
  · exact h.acknowledgeAlarm (List.mem_of_find?_eq_some hr)

theorem Acts.decideClearAlarm {p : Port} {payload : List Byte} (h : Acts fit s t) :
    Acts fit s (decideClearAlarm t p payload).state := by
  unfold Machine.decideClearAlarm
  split
  · exact h
  split
  · exact h
  unfold State.clearRecord
  repeat' split
  · exact h
  · exact h
  · exact h.act (.clear _ _)

theorem Acts.decideSweepConfirm {p : Port} {payload : List Byte} (h : Acts fit s t) (hs : t.isRunning = true) :
    Acts fit s (decideSweepConfirm t p payload).state := by
  unfold Machine.decideSweepConfirm
  split
  · exact h
  split
  · exact h
  next z r e =>
  split
  · exact h
  · next hn => exact Acts.conclude (h.act (.sweep _ _ r _ (State.zoneNamed_eq e).2 hn hs))

theorem Acts.decideForceExit {p : Port} {payload : List Byte} (h : Acts fit s t) :
    Acts fit s (decideForceExit t p payload).state := by
  unfold Machine.decideForceExit
  repeat' split
  rotate_right
  · exact h.forceOut _
  all_goals exact h

theorem Acts.decidePanelText {p : Port} {payload : List Byte} (h : Acts fit s t) :
    Acts fit s (decidePanelText t p payload).state := by
  unfold Machine.decidePanelText
  repeat' split
  rotate_right
  · exact h.updPanel _ _
  all_goals exact h

theorem Acts.decideFetchNotices {p : Port} {payload : List Byte} (h : Acts fit s t) :
    Acts fit s (decideFetchNotices t p payload).state := by
  unfold Machine.decideFetchNotices
  split
  · exact h
  · exact h.updPort p (fun r => { r with queue := r.queue.drop _ }) (.inr (by simp))

end

/-! ## The commands -/

theorem Acts.refl (fit : Prop) (s : State) : Acts fit s s := Relation.ReflTransGen.refl

/-- A change of the alarm unit's receiver alone. -/
theorem Quiet.updAlarms (s : State) (f : Alarms → Alarms)
    (h : (f s.alarms).records = s.alarms.records ∧ (f s.alarms).nextNumber = s.alarms.nextNumber ∧
      (f s.alarms).notRecorded = s.alarms.notRecorded) : Quiet s (s.updAlarms f) := by
  constructor <;> simp [State.isRunning, h]

theorem Alarms.byte_quiet (a : Alarms) (b : Byte) :
    (a.byte b).records = a.records ∧ (a.byte b).nextNumber = a.nextNumber ∧ (a.byte b).notRecorded = a.notRecorded := by
  unfold Alarms.byte
  repeat' split
  all_goals simp

theorem Alarms.badByte_quiet (a : Alarms) (b : Byte) (e : Bool) (now : Nat) :
    (a.badByte b e now).records = a.records ∧ (a.badByte b e now).nextNumber = a.nextNumber ∧
      (a.badByte b e now).notRecorded = a.notRecorded := by
  unfold Alarms.badByte Alarms.discard
  repeat' split
  all_goals simp

theorem Alarms.gap_quiet (a : Alarms) (now : Nat) :
    (a.gap now).records = a.records ∧ (a.gap now).nextNumber = a.nextNumber ∧ (a.gap now).notRecorded = a.notRecorded := by
  unfold Alarms.gap Alarms.discard
  repeat' split
  all_goals simp

/-- A command acts on a state through a run of acts. -/
def Runs (s : State) (o : Host.Outcome State Fault Refusal) : Prop := ∃ t, o = .next t ∧ Acts s.placesFit s t

theorem Runs.stay (s : State) : Runs s (.next s) := ⟨s, rfl, .refl _ _⟩

theorem Runs.next {s t : State} (h : Acts s.placesFit s t) : Runs s (.next t) := ⟨t, rfl, h⟩

theorem Runs.ite {s t : State} {c : Prop} [Decidable c] (h : c → Acts s.placesFit s t) : Runs s (.next (if c then t else s)) := by
  split
  · next hc => exact .next (h hc)
  · exact .stay s

/-- Every command gives a next state, which a run of acts reaches. -/
theorem exec_runs (c : Instr) (s : State) : Runs s (exec c s) := by
  have here := Acts.refl s.placesFit s
  cases c <;> dsimp only [exec]
  case powerOnReset => exact .next (here.act (.reset _ _ _ (by simp [Loader.start])))
  case resetLineAssert => exact .next (here.act (.reset _ _ _ (by simp [Loader.start])))
  case resetLineRelease =>
    unfold execResetLineRelease
    split
    · next hp => exact .next (here.quiet (by constructor <;> simp [State.isRunning, hp, Loader.start]))
    · exact .stay s
    · exact .stay s
  case configRecordRead bytes =>
    unfold execConfigRecordRead
    split
    · next hp =>
      have loading : s.isRunning = false := by simp [State.isRunning, hp]
      dsimp only
      split
      · exact .next (here.endLoading _ loading)
      · exact .next (here.quiet (by constructor <;> simp [State.isRunning, Loader.read_phase]))
    · exact .stay s
    · exact .stay s
  case millisecondTick => exact .next (here.quiet (by constructor <;> simp [State.isRunning]))
  case decisecondTick =>
    unfold execDecisecondTick
    split
    · exact .stay s
    · have taken : Acts s.placesFit s { s with time := { s.time with dsDue := s.time.dsDue - 1 } } :=
        here.quiet (by constructor <;> simp [State.isRunning])
      exact .next (taken.forEach _ _ fun z u hu => hu.tickZone z)
  case secondTick =>
    unfold execSecondTick
    split
    · exact .stay s
    · exact .next (here.quiet (by constructor <;> simp [State.isRunning]))
  case timeOfDaySecond =>
    unfold execTimeOfDaySecond
    split
    · exact .stay s
    · exact .ite fun _ => here.advanceSecond _
  case lineScan l code =>
    unfold execLineScan
    split
    · exact .stay s
    · exact .ite fun _ => here.scanLine _ _ _ id
  case pollAnswerReceived b e =>
    unfold execPollAnswerReceived
    repeat' split
    · exact .next (here.endPoll _ _)
    all_goals exact .stay s
  case pollWindowExpiry n =>
    unfold execPollWindowExpiry
    split
    · exact .next (here.countFailure _ _).busFree
    all_goals exact .stay s
  case driveEnd =>
    unfold execDriveEnd
    split
    · exact .next here.busFree
    all_goals exact .stay s
  case moduleRetryDue m => exact .ite fun _ => here.chooseNext
  case unlockWindowExpiry d =>
    unfold execUnlockWindowExpiry
    split
    · exact .stay s
    next r hr =>
    split
    · exact .stay s
    next g hg => exact .ite fun h => here.act (.lapse _ _ r g hr hg (by simpa using And.left (by simpa using h)))
  case withdrawnWindowEnd d =>
    refine .next (here.updDoor d _ fun r => ⟨rfl, rfl, rfl, rfl, rfl, fun h => ?_, id⟩)
    cases e : r.withdrawnEnd <;> simp_all
  case heldOpenLimit d =>
    unfold execHeldOpenLimit
    split
    · exact .stay s
    next r hr =>
    refine .ite fun h => Acts.notifyDoor (Acts.refreshDrive (here.doorTurn hr ?_) _) _ _ _ _
    have hs : r.state = .opened := by
      simp only [DoorRec.heldLongEnough, Bool.and_eq_true, beq_iff_eq] at h
      exact h.1
    refine ⟨rfl, rfl, rfl, by simp [hs], fun ⟨k, o, w⟩ => ?_, by simp [DoorRec.underGrant, hs]⟩
    rw [hs] at k o w
    exact ⟨by simpa using k, by simpa using o, by simpa using w⟩
  case pairingExpiry d =>
    unfold execPairingExpiry
    split
    · exact .stay s
    · exact .ite fun _ => here.expirePairing _ _
  case denialDisplayEnd d =>
    unfold execDenialDisplayEnd
    split
    · exact .stay s
    · exact .ite fun _ =>
        Acts.refreshDrive (here.updDoor d (fun x => { x with denialEnd := none }) fun r => ⟨rfl, rfl, rfl, rfl, rfl, id, id⟩) d
  case checkinWarningTime person =>
    unfold execCheckinWarningTime
    split
    · exact .stay s
    · exact .ite fun _ => here.refreshWarning _
  case checkinDeadline person =>
    unfold execCheckinDeadline
    split
    · exact .stay s
    · next e he =>
      refine .ite fun h => here.missCheckin he ?_
      cases hd : e.deadline <;> simp_all
  case loneTimerExpiry z =>
    unfold execLoneTimerExpiry
    split
    · exact .ite fun _ => (here.setLone _ _).raiseAlarm _ _ _
    all_goals exact .stay s
  case countdownEnd z =>
    refine .ite fun h => ?_
    obtain ⟨r, hr, ho⟩ := (Option.any_eq_true _ _).mp h
    refine here.act (.enter _ _ r hr ?_)
    simp only [ZoneRec.countdownOver, Bool.and_eq_true, beq_iff_eq] at ho
    exact ho.1
  case dischargeEnd z =>
    refine .ite fun h => ?_
    obtain ⟨r, hr, ho⟩ := (Option.any_eq_true _ _).mp h
    refine here.act (.leave _ _ r hr ?_)
    simp only [ZoneRec.dischargeOver, Bool.and_eq_true, beq_iff_eq] at ho
    exact ho.1
  case minimumOnEnd bank => exact .ite fun _ => here.act (.minOn _ _)
  case onCheckExpiry o =>
    unfold execOnCheckExpiry
    split
    · exact .stay s
    · exact .next (here.act (.fail _ _ _))
  case offCheckExpiry o =>
    unfold execOffCheckExpiry
    split
    · exact .stay s
    · exact .next (here.act (.fail _ _ _))
  case testStageEnd z => exact .ite fun _ => here.act (.stage _ _)
  case containerPulse c cycles =>
    unfold execContainerPulse
    split
    · exact .stay s
    · exact .next (here.settleContainer _ _ _)
  case staleExpiry c =>
    unfold execStaleExpiry
    split
    · exact .stay s
    · exact .ite fun _ => here.settleContainer _ _ _
  case pendantTelegram b =>
    unfold execPendantTelegram
    split
    · exact .ite fun _ => (here.quiet (.updAlarms _ _ ⟨rfl, rfl, rfl⟩)).takeTelegram _
    all_goals exact .stay s
  case pendantByteError b e => exact .ite fun _ => here.quiet (.updAlarms _ _ (s.alarms.badByte_quiet _ _ _))
  case pendantGapTimeout => exact .ite fun _ => here.quiet (.updAlarms _ _ (s.alarms.gap_quiet _))
  case slotBoundary => exact .ite fun _ => here.quiet (by constructor <;> simp [State.isRunning])
  case receiveGapTimeout p => exact .next (here.updPort p _ (.inr (Nat.le_refl _)))
  case frameDiscarded p b e => exact .ite fun _ => here.updPort p _ (.inr (Nat.le_refl _))
  case unknownRequest p b =>
    unfold execUnknownRequest
    repeat' split
    · exact .stay s
    · exact .stay s
    · exact .stay s
    · exact .next (here.answerFrame _ _ _ fun u hu => hu)
  case answerTransmissionEnd p =>
    refine .next (here.updPort p _ (.inr ?_))
    split <;> exact Nat.le_refl _
  case portRestart p =>
    refine .ite fun _ => here.updPort p _ (.inl ?_)
    unfold PortRec.restart
    dsimp only
    split <;> simp
  case masterPortByteReceived p b => exact .ite fun _ => here.updPort p _ (.inr (Nat.le_refl _))
  case receiveLineReturnedHigh p => exact .next (here.updPort p _ (.inr (Nat.le_refl _)))
  case pendantLineByteReceived b => exact .ite fun _ => here.quiet (.updAlarms _ _ (s.alarms.byte_quiet _))
  case pollAnswerByteReceived b arrival =>
    unfold execPollAnswerByteReceived
    split
    · exact .next (here.quiet (by constructor <;> simp [State.isRunning]))
    · exact .stay s
  case readStatus p b => exact .next (here.takeReading _ _ _ _ _ _ fun _ _ => by simp [decideReadStatus])
  case readZone p b => exact .next (here.takeReading _ _ _ _ _ _ fun _ _ => by simp [decideReadZone])
  case readDoor p b => exact .next (here.takeReading _ _ _ _ _ _ fun _ _ => by simp [decideReadDoor])
  case readOccupancy p b => exact .next (here.takeReading _ _ _ _ _ _ fun _ _ => by simp [decideReadOccupancy])
  case readAlarms p b => exact .next (here.takeReading _ _ _ _ _ _ fun _ _ => by simp [decideReadAlarms])
  case readBanks p b => exact .next (here.takeReading _ _ _ _ _ _ fun _ _ => by simp [decideReadBanks])
  case readLine p b => exact .next (here.takeReading _ _ _ _ _ _ fun _ _ => by simp [decideReadLine])
  case readPerson p b =>
    refine .next (here.takeReading _ _ _ _ _ _ fun u payload => ?_)
    unfold decideReadPerson
    repeat' split
    all_goals rfl
  case fetchNotices p b => exact .next (here.takeRequest _ _ _ _ _ fun _ _ h _ => h.decideFetchNotices)
  case writePerson p b => exact .next (here.takeRequest _ _ _ _ _ fun _ _ h _ => h.decideWritePerson)
  case deletePerson p b => exact .next (here.takeRequest _ _ _ _ _ fun _ _ h _ => h.decideDeletePerson)
  case writeGroup p b => exact .next (here.takeRequest _ _ _ _ _ fun _ _ h _ => h.decideWriteGroup)
  case stageSchedule p b => exact .next (here.takeRequest _ _ _ _ _ fun _ _ h _ => h.decideStageSchedule)
  case stageHolidays p b => exact .next (here.takeRequest _ _ _ _ _ fun _ _ h _ => h.decideStageHolidays)
  case commitSchedules p b => exact .next (here.takeRequest _ _ _ _ _ fun _ _ h _ => h.decideCommitSchedules)
  case setTime p b => exact .next (here.takeRequest _ _ _ _ _ fun _ _ h _ => h.decideSetTime)
  case doorPulse p b => exact .next (here.takeRequest _ _ _ _ _ fun _ _ h _ => h.decideDoorPulse)
  case armZone p b => exact .next (here.takeRequest _ _ _ _ _ fun _ _ h _ => h.decideZone armZone_runs)
  case isolateZone p b => exact .next (here.takeRequest _ _ _ _ _ fun _ _ h _ => h.decideZone isolateZone_runs)
  case clearEntryHold p b => exact .next (here.takeRequest _ _ _ _ _ fun _ _ h _ => h.decideZone clearEntryHold_runs)
  case releaseRequest p b => exact .next (here.takeRequest _ _ _ _ _ fun _ _ h _ => h.decideRelease)
  case cancelRelease p b => exact .next (here.takeRequest _ _ _ _ _ fun _ _ h _ => h.decideZone cancelZone_runs)
  case ventComplete p b => exact .next (here.takeRequest _ _ _ _ _ fun _ _ h _ => h.decideZone ventZone_runs)
  case testRelease p b => exact .next (here.takeRequest _ _ _ _ _ fun _ _ h hs => h.decideTestRelease hs)
  case ackAlarm p b => exact .next (here.takeRequest _ _ _ _ _ fun _ _ h _ => h.decideAckAlarm)
  case clearAlarm p b => exact .next (here.takeRequest _ _ _ _ _ fun _ _ h _ => h.decideClearAlarm)
  case sweepConfirm p b => exact .next (here.takeRequest _ _ _ _ _ fun _ _ h hs => h.decideSweepConfirm hs)
  case forceExit p b => exact .next (here.takeRequest _ _ _ _ _ fun _ _ h _ => h.decideForceExit)
  case responseEntry p b => exact .next (here.takeRequest _ _ _ _ _ fun _ _ h _ => h.decideResponseEntry)
  case panelText p b => exact .next (here.takeRequest _ _ _ _ _ fun _ _ h _ => h.decidePanelText)

/-- What every act keeps, every step keeps; the front command leaves the queue first. -/
theorem step_keeps {P : State → Prop} {s t : State} (hP : ∀ u v, Act s.placesFit u v → P u → P v) (front : P s → P s.withoutFront)
    (hs : P s) (h : step s = .next t) : P t := by
  unfold step at h
  split at h
  · cases h
    exact hs
  · next i _ _ =>
    obtain ⟨u, hu, acts⟩ := exec_runs i s.withoutFront
    rw [hu] at h
    cases h
    exact acts.keeps hP (front hs)

end Sys2Proof.Machine


/-! ## Table changes of one event change the occupancy alone -/

namespace Sys2Proof.Machine

/-- All of the state but the occupancy. -/
def State.sansOccupancy (s : State) : State := { s with occupancy := .cleared }

theorem OccEvent.uncertain_sansOccupancy (ev : OccEvent) (z : Zone) (cause : OccCause) :
    (ev.uncertain z cause).state.sansOccupancy = ev.state.sansOccupancy := by
  unfold OccEvent.uncertain
  split <;> rfl

theorem OccEvent.commitPerson_sansOccupancy (ev : OccEvent) (d : Door) (cfg : DoorCfg) (persons : List GrantPerson)
    (g : GrantPerson) : (ev.commitPerson d cfg persons g).state.sansOccupancy = ev.state.sansOccupancy := by
  unfold OccEvent.commitPerson
  dsimp only
  repeat' split
  · rfl
  · rfl
  · rfl
  · exact OccEvent.uncertain_sansOccupancy _ _ _

theorem State.seatEvent_sansOccupancy (s : State) (d : Door) (cfg : DoorCfg) (g : Grant) :
    (s.seatEvent d cfg g).state.sansOccupancy = s.sansOccupancy :=
  OccEvent.foldl_keeps _ _ _ (fun ev p => ev.commitPerson_sansOccupancy d cfg g.persons p) _

theorem State.sweepEvent_sansOccupancy (s : State) (z : Zone) (persons : List Person) :
    (s.sweepEvent z persons).state.sansOccupancy = s.sansOccupancy :=
  have removes (l : List Entry) (cause : OccCause) (ev : OccEvent) :
      (l.foldl (fun ev e => ev.remove e cause) ev).state.sansOccupancy = ev.state.sansOccupancy :=
    OccEvent.foldl_keeps l (fun ev e => ev.remove e cause) State.sansOccupancy (fun _ _ => rfl) ev
  have makes (l : List Person) (f : OccEvent → Person → Entry) (ev : OccEvent) :
      (l.foldl (fun ev p => ev.make (f ev p) .sweep) ev).state.sansOccupancy = ev.state.sansOccupancy :=
    OccEvent.foldl_keeps l (fun ev p => ev.make (f ev p) .sweep) State.sansOccupancy (fun _ _ => rfl) ev
  (makes _ _ _).trans ((removes _ _ _).trans (removes _ _ _))

theorem State.frame_of_sansOccupancy {s t : State} (e : t.sansOccupancy = s.sansOccupancy) :
    t.time = s.time ∧
    t.loader = s.loader ∧
    t.lines = s.lines ∧
    t.bus = s.bus ∧
    t.doors = s.doors ∧
    t.personnel = s.personnel ∧
    t.schedules = s.schedules ∧
    t.zones = s.zones ∧
    t.valves = s.valves ∧
    t.banks = s.banks ∧
    t.containers = s.containers ∧
    t.alarms = s.alarms ∧
    t.link = s.link ∧
    t.ports = s.ports ∧
    t.pending = s.pending := by
  cases s
  cases t
  simp only [State.sansOccupancy, State.mk.injEq] at e
  obtain ⟨time, loader, lines, bus, doors, personnel, schedules, -, zones, valves, banks, containers, alarms, link, ports,
    pending⟩ := e
  exact ⟨time, loader, lines, bus, doors, personnel, schedules, zones, valves, banks, containers, alarms, link, ports, pending⟩

@[simp] theorem State.seatEvent_frame (s : State) (d : Door) (cfg : DoorCfg) (g : Grant) :
    (s.seatEvent d cfg g).state.time = s.time ∧
    (s.seatEvent d cfg g).state.loader = s.loader ∧
    (s.seatEvent d cfg g).state.lines = s.lines ∧
    (s.seatEvent d cfg g).state.bus = s.bus ∧
    (s.seatEvent d cfg g).state.doors = s.doors ∧
    (s.seatEvent d cfg g).state.personnel = s.personnel ∧
    (s.seatEvent d cfg g).state.schedules = s.schedules ∧
    (s.seatEvent d cfg g).state.zones = s.zones ∧
    (s.seatEvent d cfg g).state.valves = s.valves ∧
    (s.seatEvent d cfg g).state.banks = s.banks ∧
    (s.seatEvent d cfg g).state.containers = s.containers ∧
    (s.seatEvent d cfg g).state.alarms = s.alarms ∧
    (s.seatEvent d cfg g).state.link = s.link ∧
    (s.seatEvent d cfg g).state.ports = s.ports ∧
    (s.seatEvent d cfg g).state.pending = s.pending :=
  State.frame_of_sansOccupancy (s.seatEvent_sansOccupancy d cfg g)

@[simp] theorem State.sweepEvent_frame (s : State) (z : Zone) (persons : List Person) :
    (s.sweepEvent z persons).state.time = s.time ∧
    (s.sweepEvent z persons).state.loader = s.loader ∧
    (s.sweepEvent z persons).state.lines = s.lines ∧
    (s.sweepEvent z persons).state.bus = s.bus ∧
    (s.sweepEvent z persons).state.doors = s.doors ∧
    (s.sweepEvent z persons).state.personnel = s.personnel ∧
    (s.sweepEvent z persons).state.schedules = s.schedules ∧
    (s.sweepEvent z persons).state.zones = s.zones ∧
    (s.sweepEvent z persons).state.valves = s.valves ∧
    (s.sweepEvent z persons).state.banks = s.banks ∧
    (s.sweepEvent z persons).state.containers = s.containers ∧
    (s.sweepEvent z persons).state.alarms = s.alarms ∧
    (s.sweepEvent z persons).state.link = s.link ∧
    (s.sweepEvent z persons).state.ports = s.ports ∧
    (s.sweepEvent z persons).state.pending = s.pending :=
  State.frame_of_sansOccupancy (s.sweepEvent_sansOccupancy z persons)

end Sys2Proof.Machine

/-! ## R186: no notice queue holds more than 48 notices -/

namespace Sys2Proof.Machine

theorem PortRec.enqueue_length {r : PortRec} (h : r.queue.length ≤ 48) (n : Notice) : (r.enqueue n).queue.length ≤ 48 := by
  unfold PortRec.enqueue
  split
  · simp only [List.length_append, List.length_singleton]; omega
  · simp

theorem PortRec.gains_length {r : PortRec} (h : r.queue.length ≤ 48) (s : State) (q : Port) (bodies : List NoticeBody) :
    (r.gains s q bodies).queue.length ≤ 48 := by
  unfold PortRec.gains
  induction bodies.filter (q ∈ ·.ports) generalizing r with
  | nil => exact h
  | cons b l ih => exact ih (r.enqueue_length h _)

namespace QueuesBounded

variable {s : State}

theorem of_ports (h : QueuesBounded s) {t : State} (e : t.ports = s.ports) : QueuesBounded t := by
  unfold QueuesBounded at h ⊢
  rwa [e]

theorem updDoor (h : QueuesBounded s) (d : Door) (f : DoorRec → DoorRec) : QueuesBounded (s.updDoor d f) := h

theorem updZone (h : QueuesBounded s) (z : Zone) (f : ZoneRec → ZoneRec) : QueuesBounded (s.updZone z f) := h

theorem updOutput (h : QueuesBounded s) (o : Output) (f : OutputRec → OutputRec) : QueuesBounded (s.updOutput o f) := h

theorem setTest (h : QueuesBounded s) (z : Zone) (x : Option TestRec) : QueuesBounded (s.setTest z x) := h

theorem updBank (h : QueuesBounded s) (b : Bank) (f : BankRec → BankRec) : QueuesBounded (s.updBank b f) := h

theorem updAlarms (h : QueuesBounded s) (f : Alarms → Alarms) : QueuesBounded (s.updAlarms f) := h

theorem releasePlaces (h : QueuesBounded s) (z : Zone) (n : Nat) : QueuesBounded (s.releasePlaces z n) := h

theorem reservePlaces (h : QueuesBounded s) (z : Zone) (n : Nat) : QueuesBounded (s.reservePlaces z n) := h

theorem of_sansOccupancy (h : QueuesBounded s) {t : State} (e : t.sansOccupancy = s.sansOccupancy) : QueuesBounded t :=
  have same : t.sansOccupancy.ports = s.sansOccupancy.ports := congrArg State.ports e
  h.of_ports same

theorem forEach {α : Type} (h : QueuesBounded s) (l : List α) (f : α → State → State)
    (hf : ∀ a u, QueuesBounded u → QueuesBounded (f a u)) : QueuesBounded (s.forEach l f) :=
  State.forEach_induct QueuesBounded s l f (fun a _ u => hf a u) h

theorem notify (h : QueuesBounded s) (body : NoticeBody) : QueuesBounded (s.notify body) := by
  intro q
  rw [State.notify_get]
  exact PortRec.gains_length (h q) _ _ _

theorem updPort (h : QueuesBounded s) (p : Port) (f : PortRec → PortRec)
    (hf : (f s.ports[portIndex p]).queue.length ≤ 48) : QueuesBounded (s.updPort p f) := by
  intro q
  simp only [Fin.getElem_fin, State.updPort_get]
  split
  · next e => subst e; exact hf
  · exact h q

/-! ### Doors -/

theorem notifyDoor (h : QueuesBounded s) (d : Door) (previous : DoorState) (cause : DoorCause) (grant : Option Grant) :
    QueuesBounded (s.notifyDoor d previous cause grant) := by
  unfold State.notifyDoor
  split
  · exact h
  · exact h.notify _

theorem withdrawPairing (h : QueuesBounded s) (d : Door) (cause : WithdrawCause) : QueuesBounded (s.withdrawPairing d cause) := by
  unfold State.withdrawPairing
  split
  · exact h
  · exact (h.updDoor d _).notify _

theorem withdrawGrant (h : QueuesBounded s) (d : Door) (cause : WithdrawCause) : QueuesBounded (s.withdrawGrant d cause) := by
  unfold State.withdrawGrant
  repeat' split
  · exact h
  · exact h
  · exact ((h.updDoor d _).releasePlaces _ _).notify _

theorem refreshDrive (h : QueuesBounded s) (d : Door) : QueuesBounded (s.refreshDrive d) := h.of_ports (by simp)

theorem withdrawAtDoor (h : QueuesBounded s) (d : Door) (entered : ZoneState) : QueuesBounded (s.withdrawAtDoor d entered) := by
  unfold State.withdrawAtDoor
  dsimp only
  refine refreshDrive ?_ d
  have first := h.withdrawPairing d .zoneBarred
  repeat' split
  · exact first
  · exact ((first.withdrawGrant d .zoneBarred).updDoor d _).notifyDoor _ _ _ _
  · exact first

theorem followChange (h : QueuesBounded s) (z : Zone) (r : ZoneRec) : QueuesBounded (s.followChange z r) := by
  unfold State.followChange
  split
  · exact h
  · refine of_ports ?_ (State.refreshPanel_frame _ _).2.2.2.2.2.2.2.2.2.2.2.2.2.1
    repeat' split
    · exact h.forEach _ _ fun d t ht => ht.withdrawAtDoor d _
    · exact h.of_ports (by simp)
    · exact h

theorem supersedePairing (h : QueuesBounded s) (d : Door) (r : DoorRec) (g : Grant) : QueuesBounded (s.supersedePairing d r g) := by
  unfold State.supersedePairing
  dsimp only
  repeat' split
  · exact h
  · exact h
  · exact h.updDoor d _
  · exact (h.updDoor d _).notify _

theorem installGrant (h : QueuesBounded s) (d : Door) (r : DoorRec) (kind : GrantKind) (persons : List GrantPerson) (n : Nat) :
    QueuesBounded (s.installGrant d r kind persons n) := by
  unfold State.installGrant
  dsimp only
  exact (((((h.reservePlaces _ _).supersedePairing d r _).updDoor d _).notifyDoor d _ _ _).refreshDrive d).notify _

theorem lapseGrant (h : QueuesBounded s) (d : Door) (r : DoorRec) (g : Grant) : QueuesBounded (s.lapseGrant d r g) :=
  (((h.updDoor d _).releasePlaces _ _).refreshDrive d).notifyDoor _ _ _ _

theorem doorLost (h : QueuesBounded s) (d : Door) (r : DoorRec) (state : DoorState) (cause : DoorCause) :
    QueuesBounded (s.doorLost d r state cause) :=
  ((((h.withdrawGrant d .doorFault).withdrawPairing d .doorFault).updDoor d _).refreshDrive d).notifyDoor _ _ _ _

theorem openedUnder (h : QueuesBounded s) (d : Door) (r : DoorRec) (stamp : Nat) : QueuesBounded (s.openedUnder d r stamp) :=
  ((h.updDoor d _).refreshDrive d).notifyDoor _ _ _ _

/-! ### Zones and valves -/

theorem changeRecord (h : QueuesBounded s) (z : Zone) (cause : ZoneCause) (f : ZoneRec → ZoneRec) :
    QueuesBounded (s.changeRecord z cause f) := by
  unfold State.changeRecord
  split
  · exact h
  · exact (h.updZone z f).notify _

theorem changeZone (h : QueuesBounded s) (z : Zone) (cause : ZoneCause) (f : ZoneRec → ZoneRec) :
    QueuesBounded (s.changeZone z cause f) := by
  unfold State.changeZone
  split
  · exact h
  · exact (h.changeRecord z cause f).followChange z _

theorem afterJoin (h : QueuesBounded s) (z : Zone) : QueuesBounded (s.afterJoin z) := by
  unfold State.afterJoin
  split
  · exact h.changeZone _ _ _
  · exact h

theorem afterLeave (h : QueuesBounded s) (z : Zone) : QueuesBounded (s.afterLeave z) := by
  unfold State.afterLeave
  split
  · exact h.changeZone _ _ _
  · exact h

theorem handPathFault (h : QueuesBounded s) (o : Output) (faulty : Bool) : QueuesBounded (s.handPathFault o faulty) :=
  h.of_ports (by simp)

theorem setPathFault (h : QueuesBounded s) (o : Output) (fault : Option PathFault) (edge : Option Nat) :
    QueuesBounded (s.setPathFault o fault edge) := by
  unfold State.setPathFault
  dsimp only
  split
  · exact h
  · exact ((h.updOutput o _).notify _).handPathFault o _

theorem endTest (h : QueuesBounded s) (z : Zone) (passed : Bool) : QueuesBounded (s.endTest z passed) := by
  unfold State.endTest
  split
  · exact (h.setTest z none).notify _
  · exact h

theorem testChecked (h : QueuesBounded s) (o : Output) (kind : CheckKind) (passed : Bool) :
    QueuesBounded (s.testChecked o kind passed) := by
  unfold State.testChecked
  repeat' split
  · exact h
  · exact h.endTest _ _
  · exact h.setTest _ _
  · exact h

theorem passCheck (h : QueuesBounded s) (o : Output) (kind : CheckKind) : QueuesBounded (s.passCheck o kind) :=
  ((h.updOutput o _).setPathFault o none none).testChecked o kind true

theorem failCheck (h : QueuesBounded s) (o : Output) (c : Check) : QueuesBounded (s.failCheck o c) :=
  ((h.updOutput o _).setPathFault o _ _).testChecked o c.kind false

theorem judgeCheck (h : QueuesBounded s) (o : Output) : QueuesBounded (s.judgeCheck o) := by
  unfold State.judgeCheck
  repeat' split
  · exact h
  · exact h.passCheck _ _
  · exact h

theorem switchOutput (h : QueuesBounded s) (o : Output) (on : Bool) : QueuesBounded (s.switchOutput o on) := by
  unfold State.switchOutput
  dsimp only
  repeat' split
  · exact h
  · exact h.updOutput o _
  · exact (h.updOutput o _).judgeCheck o
  · exact (h.updOutput o _).judgeCheck o

theorem feedbackReport (h : QueuesBounded s) (o : Output) (new : LineClass) : QueuesBounded (s.feedbackReport o new) := by
  have recorded : QueuesBounded (s.updOutput o fun x => { x with feedback := some new }) :=
    h.updOutput o _
  unfold State.feedbackReport
  dsimp only
  repeat' split
  · exact h
  · exact recorded.judgeCheck o
  · exact recorded.setPathFault _ _ _
  · exact recorded
  · exact recorded.setPathFault _ _ _

theorem testSecondStage (h : QueuesBounded s) (z : Zone) : QueuesBounded (s.testSecondStage z) := by
  unfold State.testSecondStage
  repeat' split
  · exact ((h.switchOutput (selectorOf z) false).setTest z none).notify _
  · exact (h.setTest z _).switchOutput _ _
  · exact h

theorem beginTest (h : QueuesBounded s) (z : Zone) : QueuesBounded (s.beginTest z) :=
  (h.setTest z _).switchOutput _ _

theorem settleMainValve (h : QueuesBounded s) (bank : Bank) : QueuesBounded (s.settleMainValve bank) := by
  unfold State.settleMainValve
  dsimp only
  split
  · exact h.switchOutput _ _
  · exact h

theorem openMainValve (h : QueuesBounded s) (bank : Bank) : QueuesBounded (s.openMainValve bank) := by
  unfold State.openMainValve
  split
  · exact h
  · exact (h.updBank bank _).switchOutput _ _

theorem startDischargeValves (h : QueuesBounded s) (z : Zone) : QueuesBounded (s.startDischargeValves z) := by
  unfold State.startDischargeValves
  split
  · exact h
  · exact forEach (((h.switchOutput _ true).updBank _ _).openMainValve _) _ _ fun y _ ht => ht.testSecondStage y

theorem endDischargeValves (h : QueuesBounded s) (z : Zone) : QueuesBounded (s.endDischargeValves z) := by
  unfold State.endDischargeValves
  split
  · exact h
  · exact ((h.switchOutput (selectorOf z) false).updBank _ _).settleMainValve _

theorem enterDischarge (h : QueuesBounded s) (z : Zone) : QueuesBounded (s.enterDischarge z) := by
  unfold State.enterDischarge
  split
  · exact h
  · exact ((h.changeRecord z _ _).startDischargeValves z).followChange z _

theorem leaveDischarge (h : QueuesBounded s) (z : Zone) : QueuesBounded (s.leaveDischarge z) := by
  unfold State.leaveDischarge
  split
  · exact h
  · exact ((h.changeRecord z _ _).endDischargeValves z).followChange z _

/-! ### Alarms -/

theorem appendAlarm (h : QueuesBounded s) (r : AlarmRec) : QueuesBounded (s.appendAlarm r) :=
  (h.updAlarms _).notify _

theorem leaveHoldAlarm (h : QueuesBounded s) (z : Zone) (n : Nat) : QueuesBounded (s.leaveHoldAlarm z n) :=
  (h.updZone z _).afterLeave z

theorem leaveAlarm (h : QueuesBounded s) (r : AlarmRec) : QueuesBounded (s.leaveAlarm r) := by
  unfold State.leaveAlarm
  repeat' split
  · exact h.leaveHoldAlarm _ _
  · exact h
  · exact h

theorem refreshAlarmPanel (h : QueuesBounded s) (z : Option Zone) : QueuesBounded (s.refreshAlarmPanel z) := h.of_ports (by simp)

theorem settleNotRecorded (h : QueuesBounded s) : QueuesBounded s.settleNotRecorded := h.of_ports (by simp)

theorem clearAlarm (h : QueuesBounded s) (r : AlarmRec) : QueuesBounded (s.clearAlarm r) :=
  ((((h.updAlarms _).notify _).leaveAlarm r).refreshAlarmPanel r.zone).settleNotRecorded

theorem cleared (time : Timebase) (loader : Loader) (pending : List Instr) : QueuesBounded (.cleared time loader pending) := by
  intro p
  cases p <;> simp [State.cleared, PortRec.cleared]

end QueuesBounded

/-- R186: every act keeps the bound on the queues. -/
theorem Act.queuesBounded {fit : Prop} {s t : State} (a : Act fit s t) (h : QueuesBounded s) : QueuesBounded t := by
  cases a with
  | quiet q => intro p; rw [q.queues p]; exact h p
  | notify body => exact h.notify body
  | port p f hf =>
    refine h.updPort p f (hf.elim id fun e => e.trans ?_)
    exact h p
  | install d r kind persons places => exact h.installGrant d r kind persons places
  | lapse d r g => exact h.lapseGrant d r g
  | lose d r state cause => exact h.doorLost d r state cause
  | openUnder d r stamp => exact h.openedUnder d r stamp
  | openSeated d r stamp g =>
    exact (h.openedUnder d r stamp).of_sansOccupancy (State.seatEvent_sansOccupancy _ d r.cfg g)
  | zoneTurn z cause f => exact h.changeZone z cause f
  | joinLine z l => exact (h.updZone z _).afterJoin z
  | joinAlarm z n => exact (h.updZone z _).afterJoin z
  | leaveLine z l => exact (h.updZone z _).afterLeave z
  | leaveAlarm z n => exact h.leaveHoldAlarm z n
  | enter z => exact h.enterDischarge z
  | leave z => exact h.leaveDischarge z
  | feedback o new => exact h.feedbackReport o new
  | fail o c => exact h.failCheck o c
  | stage z => exact h.testSecondStage z
  | test z => exact h.beginTest z
  | minOn bank => exact (h.updBank bank _).settleMainValve bank
  | settled old r change => exact ((h.updAlarms _).notify _).settleNotRecorded
  | append kind source zone => exact h.appendAlarm _
  | replaced old kind source zone =>
    exact (QueuesBounded.notify (h.updAlarms _) _).appendAlarm _
  | clear r => exact h.clearAlarm r
  | sweep z r persons => exact h.of_sansOccupancy (s.sweepEvent_sansOccupancy z persons)
  | reset time loader => exact .cleared time loader _
  | _ => exact h.of_ports rfl

/-- Settles O54: every act keeps the bound, so every step does. -/
theorem queuesStayBounded : Obligations.QueuesStayBounded :=
  fun _ _ hs h => step_keeps (fun _ _ a => a.queuesBounded) id hs h

end Sys2Proof.Machine


/-! ## R155, R156, R160: the alarm list -/

namespace Sys2Proof.Machine

/-- R156: the numbers tried for a new record are distinct, so that fewer than 256 records cannot hold them all. -/
theorem Alarms.exists_free (a : Alarms) {n : Nat} (hn : n < 256) (h : a.records.length ≤ n) :
    ∃ k ≤ n, ∀ r ∈ a.records, r.number ≠ (a.nextNumber + k) % 256 := by
  let tried := (Finset.range (n + 1)).image fun k => (a.nextNumber + k) % 256
  have distinct : Set.InjOn (fun k => (a.nextNumber + k) % 256) (Finset.range (n + 1)) := by
    intro i hi j hj e
    simp only [Finset.coe_range, Set.mem_Iio] at hi hj e
    omega
  have fewer : (a.records.map (·.number)).toFinset.card < tried.card := by
    rw [Finset.card_image_of_injOn distinct, Finset.card_range]
    have := List.toFinset_card_le (a.records.map (·.number))
    simp only [List.length_map] at this
    omega
  obtain ⟨x, hx, hfree⟩ := Finset.exists_mem_notMem_of_card_lt_card fewer
  obtain ⟨k, hk, rfl⟩ := Finset.mem_image.1 hx
  refine ⟨k, by simpa [Nat.lt_succ_iff] using hk, fun r hr e => hfree ?_⟩
  simpa using ⟨r, hr, e⟩

/-- R156: the number a new record takes. -/
theorem Alarms.freeNumber_firstFree (a : Alarms) (h : a.records.length ≤ 32) :
    FirstFree a.nextNumber a.records a.freeNumber := by
  obtain ⟨i, hi, hfree⟩ := a.exists_free (by omega) h
  let p := fun k => a.records.all (·.number != (a.nextNumber + k) % 256)
  have some_free : ((List.range 256).find? p).isSome = true :=
    List.find?_isSome.2 ⟨i, List.mem_range.2 (by omega), by simpa [p] using hfree⟩
  obtain ⟨k, hk⟩ := Option.isSome_iff_exists.1 some_free
  have number : a.freeNumber = (a.nextNumber + k) % 256 := by
    unfold Alarms.freeNumber
    rw [List.find?_map]
    show (Option.map _ ((List.range 256).find? p)).getD _ = _
    rw [hk]
    rfl
  obtain ⟨hp, -, before⟩ := List.find?_range_eq_some.1 hk
  refine ⟨k, ?_, number, ?_, fun j hj => ?_⟩
  · by_contra hlt
    have := before i (by omega)
    simp only [p, Bool.not_eq_true', List.all_eq_false] at this
    obtain ⟨r, hr, e⟩ := this
    exact e (by simpa using hfree r hr)
  · rw [number]; simpa [p] using hp
  · have := before j hj
    simpa [p] using this

/-- `AlarmListSound` speaks of the alarm list alone. -/
structure Alarms.Sound (a : Alarms) : Prop where
  length : a.records.length ≤ 32
  distinct : a.records.Pairwise fun a b => a.number ≠ b.number ∧ ¬(a.kind = b.kind ∧ a.source = b.source)
  numbers : ∀ r ∈ a.records, r.number < 256
  next : a.nextNumber < 256
  full : a.notRecorded = true → a.hasRoom = false

theorem alarmListSound_iff (s : State) : AlarmListSound s ↔ s.alarms.Sound :=
  ⟨fun ⟨a, b, c, d, e⟩ => ⟨a, b, c, d, e⟩, fun ⟨a, b, c, d, e⟩ => ⟨a, b, c, d, e⟩⟩

namespace Alarms.Sound

variable {a : Alarms}

theorem of_same (h : a.Sound) {b : Alarms}
    (e : b.records = a.records ∧ b.nextNumber = a.nextNumber ∧ b.notRecorded = a.notRecorded) : b.Sound := by
  obtain ⟨hr, hn, hf⟩ := e
  refine ⟨hr ▸ h.length, hr ▸ h.distinct, hr ▸ h.numbers, hn ▸ h.next, ?_⟩
  simpa only [hf, Alarms.hasRoom, hr] using h.full

/-- Records change in their places, without their numbers, kinds and sources. -/
theorem of_map (h : a.Sound) {b : Alarms} (g : AlarmRec → AlarmRec) (hr : b.records = a.records.map g)
    (hg : ∀ r ∈ a.records, (g r).number = r.number ∧ (g r).kind = r.kind ∧ (g r).source = r.source)
    (hn : b.nextNumber = a.nextNumber) (hf : b.notRecorded = true → b.hasRoom = false) : b.Sound where
  length := by simpa [hr] using h.length
  distinct := by
    rw [hr, List.pairwise_map]
    refine h.distinct.imp_of_mem fun hx hy e => ?_
    obtain ⟨nx, kx, sx⟩ := hg _ hx
    obtain ⟨ny, ky, sy⟩ := hg _ hy
    rwa [nx, kx, sx, ny, ky, sy]
  numbers := by
    rw [hr]
    simp only [List.mem_map, forall_exists_index, and_imp, forall_apply_eq_imp_iff₂]
    exact fun r hm => (hg r hm).1 ▸ h.numbers r hm
  next := hn ▸ h.next
  full := hf

/-- Records leave. -/
theorem of_sublist (h : a.Sound) {b : Alarms} (hr : b.records.Sublist a.records) (hn : b.nextNumber = a.nextNumber)
    (hf : b.notRecorded = true → b.hasRoom = false) : b.Sound where
  length := hr.length_le.trans h.length
  distinct := h.distinct.sublist hr
  numbers r hm := h.numbers r (hr.mem hm)
  next := hn ▸ h.next
  full := hf

/-- The records of two numbers are two. -/
theorem eq_of_number (h : a.Sound) {r x : AlarmRec} (hr : r ∈ a.records) (hx : x ∈ a.records) (e : x.number = r.number) :
    x = r :=
  have numbers : (a.records.map (·.number)).Nodup := List.pairwise_map.2 (h.distinct.imp fun d => d.1)
  List.inj_on_of_nodup_map numbers hx hr e

/-- A record is replaced by one of its number, kind and source. -/
theorem replace (h : a.Sound) {old r : AlarmRec} (ho : old ∈ a.records)
    (hr : r.number = old.number ∧ r.kind = old.kind ∧ r.source = old.source) {b : Alarms} (hb : b.records = (a.replace r).records)
    (hn : b.nextNumber = a.nextNumber) (hf : b.notRecorded = true → b.hasRoom = false) : b.Sound := by
  refine h.of_map _ hb (fun x hx => ?_) hn hf
  obtain ⟨number, kind, source⟩ := hr
  split
  · next e =>
    obtain rfl := h.eq_of_number ho hx (e.trans number)
    exact ⟨number, kind, source⟩
  · exact ⟨rfl, rfl, rfl⟩

/-- A new record joins a list of fewer than 32. -/
theorem append (h : a.Sound) (hl : a.records.length < 32) {r : AlarmRec} (hn : r.number = a.freeNumber)
    (hr : a.lacks r.kind r.source) :
    ({ a with records := a.records ++ [r], nextNumber := (r.number + 1) % 256 } : Alarms).Sound := by
  obtain ⟨k, -, number, free, -⟩ := a.freeNumber_firstFree hl.le
  have unheld (x : AlarmRec) (hx : x ∈ a.records) : x.number ≠ r.number := hn ▸ free x hx
  refine ⟨by simpa using hl, ?_, ?_, Nat.mod_lt _ (by decide), fun full => ?_⟩
  · rw [List.pairwise_append]
    refine ⟨h.distinct, List.pairwise_singleton _ _, fun x hx y hy => ?_⟩
    obtain rfl := List.mem_singleton.1 hy
    exact ⟨unheld x hx, hr x hx⟩
  · intro x hx
    rcases List.mem_append.1 hx with hx | hx
    · exact h.numbers x hx
    · obtain rfl := List.mem_singleton.1 hx
      omega
  · have := h.full full
    simp [Alarms.hasRoom, hl] at this

end Alarms.Sound

/-- The list with room has no not-recorded condition. -/
theorem Alarms.Sound.recorded {a : Alarms} (h : a.Sound) (hr : a.hasRoom = true) : a.notRecorded = false := by
  by_contra hf
  simp [h.full (by simpa using hf)] at hr

/-- A record leaves a list with room. -/
theorem Alarms.Sound.drop {a : Alarms} (h : a.Sound) (hr : a.hasRoom = true) (old : AlarmRec) :
    ({ a with records := a.records.filter (·.number != old.number) } : Alarms).Sound :=
  h.of_sublist List.filter_sublist rfl fun full => absurd full (by simp [h.recorded hr])

theorem Alarms.Sound.cleared : Alarms.cleared.Sound := ⟨Nat.zero_le _, .nil, nofun, Nat.zero_lt_succ _, nofun⟩

/-- R155 to R160: every act keeps the alarm list sound. -/
theorem Act.alarmListSound {fit : Prop} {s t : State} (c : Act fit s t) (h : AlarmListSound s) : AlarmListSound t := by
  rw [alarmListSound_iff] at h ⊢
  cases c with
  | quiet q => exact h.of_same q.alarms
  | repeated old r ho hk hr =>
    refine h.replace ho hk rfl rfl fun full => ?_
    have noRoom := h.full full
    simp only [Alarms.hasRoom, Bool.or_eq_false_iff, decide_eq_false_iff_not, List.any_eq_false] at noRoom ⊢
    refine ⟨by simpa [Alarms.replace] using noRoom.1, fun x hx => ?_⟩
    obtain ⟨y, hy, rfl⟩ := List.mem_map.1 hx
    split
    · simp [hr]
    · exact noRoom.2 y hy
  | settled old r change ho hk =>
    simp only [State.settleNotRecorded, State.updAlarms_alarms, State.notifyChanged, State.notify_frame]
    exact h.replace ho hk rfl rfl (by simp [Alarms.hasRoom])
  | append kind source zone hl hk => 
    simp only [State.appendAlarm, State.notify_frame, State.updAlarms_alarms]
    exact h.append hl rfl hk
  | replaced old kind source zone ho hr hk =>
    have room : s.alarms.hasRoom = true := by simp only [Alarms.hasRoom, Bool.or_eq_true, List.any_eq_true]; exact .inr ⟨old, ho, hr⟩
    simp only [State.replacedAlarm, State.appendAlarm, State.notify_frame, State.updAlarms_alarms, State.notifyChanged, State.dropAlarm]
    refine (h.drop room old).append ?_ rfl fun x hx => hk x (List.mem_of_mem_filter hx)
    exact (List.length_filter_lt_length_iff_exists.2 ⟨old, ho, by simp⟩).trans_le h.length
  | full hl hk =>
    refine ⟨h.length, h.distinct, h.numbers, h.next, fun _ => ?_⟩
    simp only [State.updAlarms_alarms, Alarms.hasRoom, Bool.or_eq_false_iff, List.any_eq_false]
    exact ⟨decide_eq_false (by omega), fun r hr => by simp [hk r hr]⟩
  | clear r =>
    refine h.of_sublist (b := (s.clearAlarm r).alarms) ?_ ?_ ?_ <;>
    simp [State.clearAlarm, State.settleNotRecorded, State.notifyChanged, State.dropAlarm, Alarms.hasRoom]
  | reset => exact .cleared
  | configure l r => exact h.of_same ⟨rfl, rfl, rfl⟩
  | _ => exact h.of_same (by simp [State.openedUnder, State.modeSet])

/-- Settles O56: every act keeps the alarm list sound, so every step does. -/
theorem alarmListStaysSound : Obligations.AlarmListStaysSound :=
  fun _ _ hs h => step_keeps (fun _ _ a => a.alarmListSound) id hs h

end Sys2Proof.Machine


/-! ## R109: zones count down over an empty hold-source set, and are HELD over another -/

namespace Sys2Proof.Machine

theorem mem_insertAscending {n : Nat} (x y : Fin n) (l : List (Fin n)) : y ∈ insertAscending x l ↔ y = x ∨ y ∈ l := by
  induction l with
  | nil => simp [insertAscending]
  | cons a l ih =>
    unfold insertAscending
    split
    · simp
    · split
      · next e => subst e; simp
      · simp only [List.mem_cons, ih]; tauto

theorem insertAscending_ne_nil {n : Nat} (x : Fin n) (l : List (Fin n)) : insertAscending x l ≠ [] :=
  List.ne_nil_of_mem ((mem_insertAscending x x l).2 (.inl rfl))

/-- A record of a table whose entries look the same as another's has its like there. -/
theorem exists_like {α β : Type} {f : α → β} {a b : Option α} (e : a.map f = b.map f) {x : α} (h : a = some x) :
    ∃ r, b = some r ∧ f x = f r := by
  subst h
  cases b with
  | none => simp at e
  | some r => exact ⟨r, rfl, by simpa using e⟩

section
variable (s : State) (i : Nat) (hi : i < 8)

theorem State.enterDischarge_view {α : Type} {view : ZoneRec → α} (hv : Steady view) (z : Zone) :
    ((s.enterDischarge z).zones[i]).map view =
      if z.val = i then (s.zones[i]).map fun r => view (r.discharging s.nowMs) else (s.zones[i]).map view := by
  rw [← s.changeRecord_view i hi z .countdownEnd]
  unfold State.enterDischarge
  split
  · next h => simp [State.changeRecord, h]
  · simp [hv]

theorem State.leaveDischarge_core (z : Zone) :
    ((s.leaveDischarge z).zones[i]).map ZoneRec.core =
      if z.val = i then (s.zones[i]).map fun r => { r.core with state := .discharged } else (s.zones[i]).map ZoneRec.core := by
  trans ((s.changeRecord z .dischargeEnd fun x => { x with state := .discharged, kind := none }).zones[i]).map ZoneRec.core
  · unfold State.leaveDischarge
    split
    · next h => simp [State.changeRecord, h]
    · simp
  · exact s.changeRecord_view i hi z _ _

end

/-- A zone's state suits its hold-source set. -/
def ZoneRec.Matched (r : ZoneRec) : Prop := (r.state = .countdown → r.noHold = true) ∧ (r.state = .held → r.noHold = false)

theorem ZoneRec.matched_of_core {x r : ZoneRec} (e : x.core = r.core) (h : r.Matched) : x.Matched := by
  simp only [ZoneRec.core, ZoneCore.mk.injEq] at e
  obtain ⟨-, state, -, lines, alarms⟩ := e
  simpa only [ZoneRec.Matched, ZoneRec.noHold, state, lines, alarms] using h

theorem ZoneRec.matched_of_idle {r : ZoneRec} (counts : r.state ≠ .countdown) (held : r.state ≠ .held) : r.Matched :=
  ⟨fun e => absurd e counts, fun e => absurd e held⟩

/-- Every zone but `z` suits its hold-source set. -/
def State.matchedBut (s : State) (z : Zone) : Prop := ∀ y r, y ≠ z → s.zones[(y : Zone)] = some r → r.Matched

namespace HoldSetsMatch

variable {s : State}

theorem of_core (h : HoldSetsMatch s) {t : State}
    (e : ∀ (i : Nat) (hi : i < 8), (t.zones[i]).map ZoneRec.core = (s.zones[i]).map ZoneRec.core) : HoldSetsMatch t := by
  intro z x hx
  obtain ⟨r, hr, like⟩ := exists_like (e z.val z.isLt) hx
  exact ZoneRec.matched_of_core like (h z r hr)

theorem matchedBut (h : HoldSetsMatch s) (z : Zone) (f : ZoneRec → ZoneRec) : (s.updZone z f).matchedBut z := by
  intro y r hy hr
  have other : z.val ≠ y.val := fun e => hy (Fin.ext e.symm)
  simp only [State.updZone_zones, Fin.getElem_fin, Tab.getElem_put, other, if_false] at hr
  exact h y r hr

/-- A zone whose record changes and the other zones suit their hold-source sets. -/
theorem of_change {t : State} {z : Zone} {f : ZoneRec → ZoneCore}
    (e : ∀ (i : Nat) (hi : i < 8), (t.zones[i]).map ZoneRec.core =
      if z.val = i then (s.zones[i]).map f else (s.zones[i]).map ZoneRec.core)
    (h : s.matchedBut z) (hz : ∀ (r x : ZoneRec), s.zones[z] = some r → x.core = f r → x.Matched) : HoldSetsMatch t := by
  intro y x hx
  have like := e y.val y.isLt
  split at like
  · next same =>
    have here : z = y := Fin.ext same
    subst here
    rw [show t.zones[z.val] = some x from hx] at like
    obtain ⟨r, hr, e⟩ := Option.map_eq_some_iff.1 like.symm
    exact hz r x hr e.symm
  · next other =>
    obtain ⟨r, hr, e⟩ := exists_like like hx
    exact ZoneRec.matched_of_core e (h y r (fun e => other (congrArg _ e.symm)) hr)

theorem changeZone {z : Zone} (h : s.matchedBut z) (cause : ZoneCause) (f : ZoneRec → ZoneRec)
    (hz : ∀ r, s.zones[z] = some r → (f r).Matched) : HoldSetsMatch (s.changeZone z cause f) :=
  of_change (fun i hi => s.changeZone_view i hi ZoneRec.core_steady z cause f) h fun r _ hr e => ZoneRec.matched_of_core e (hz r hr)

theorem matchedBut_self (h : HoldSetsMatch s) (z : Zone) : s.matchedBut z := fun y r _ hr => h y r hr

theorem of_matchedBut {z : Zone} (h : s.matchedBut z) (hz : ∀ r, s.zones[z] = some r → r.Matched) : HoldSetsMatch s := by
  intro y r hr
  by_cases e : y = z
  · subst e; exact hz r hr
  · exact h y r e hr

theorem afterJoin {z : Zone} (h : s.matchedBut z) (hz : ∀ r, s.zones[z] = some r → r.noHold = false) :
    HoldSetsMatch (s.afterJoin z) := by
  unfold State.afterJoin
  split
  · exact changeZone h _ _ fun r hr => ⟨nofun, fun _ => hz r hr⟩
  · next idle =>
    refine of_matchedBut h fun r hr => ⟨fun counts => absurd ?_ idle, fun _ => hz r hr⟩
    simp [hr, counts]

theorem afterLeave {z : Zone} (h : s.matchedBut z)
    (hz : ∀ r, s.zones[z] = some r → r.state = .countdown → r.noHold = true) : HoldSetsMatch (s.afterLeave z) := by
  unfold State.afterLeave
  split
  · next empty =>
    refine changeZone h _ _ fun r hr => ⟨fun _ => ?_, nofun⟩
    simp only [Fin.getElem_fin] at hr empty
    simp only [hr, Option.any_some, Bool.and_eq_true] at empty
    exact empty.2
  · next stands =>
    refine of_matchedBut h fun r hr => ⟨hz r hr, fun held => ?_⟩
    by_contra hold
    exact stands (by simp [hr, held, hold])

theorem join (h : HoldSetsMatch s) (z : Zone) (f : ZoneRec → ZoneRec) (hf : ∀ r, (f r).noHold = false) :
    HoldSetsMatch ((s.updZone z f).afterJoin z) := by
  refine afterJoin (h.matchedBut z f) fun x hx => ?_
  simp only [State.updZone_zones, Fin.getElem_fin, Tab.getElem_put, if_true] at hx
  obtain ⟨r, -, rfl⟩ := Option.map_eq_some_iff.1 hx
  exact hf r

theorem leave (h : HoldSetsMatch s) (z : Zone) (f : ZoneRec → ZoneRec)
    (hf : ∀ r, (f r).state = r.state ∧ (r.noHold = true → (f r).noHold = true)) :
    HoldSetsMatch ((s.updZone z f).afterLeave z) := by
  refine afterLeave (h.matchedBut z f) fun x hx counts => ?_
  simp only [State.updZone_zones, Fin.getElem_fin, Tab.getElem_put, if_true] at hx
  obtain ⟨r, hr, rfl⟩ := Option.map_eq_some_iff.1 hx
  exact (hf r).2 ((h z r hr).1 ((hf r).1 ▸ counts))

theorem joinHoldLine (h : HoldSetsMatch s) (z : Zone) (l : Line) : HoldSetsMatch (s.joinHoldLine z l) :=
  h.join z _ fun r => by simp [ZoneRec.noHold, insertAscending_ne_nil]

theorem joinHoldAlarm (h : HoldSetsMatch s) (z : Zone) (n : Nat) : HoldSetsMatch (s.joinHoldAlarm z n) := by
  refine h.join z _ fun r => ?_
  simp only [ZoneRec.noHold]
  split <;> aesop

theorem leaveHoldLine (h : HoldSetsMatch s) (z : Zone) (l : Line) : HoldSetsMatch (s.leaveHoldLine z l) :=
  h.leave z _ fun r => ⟨rfl, by simp +contextual [ZoneRec.noHold]⟩

theorem leaveHoldAlarm (h : HoldSetsMatch s) (z : Zone) (n : Nat) : HoldSetsMatch (s.leaveHoldAlarm z n) :=
  h.leave z _ fun r => ⟨rfl, by simp +contextual [ZoneRec.noHold]⟩

theorem clearAlarm (h : HoldSetsMatch s) (r : AlarmRec) : HoldSetsMatch (s.clearAlarm r) := by
  have told : HoldSetsMatch ((s.dropAlarm r).notifyChanged r .cleared) :=
    h.of_core (by simp [State.notifyChanged, State.dropAlarm])
  refine of_core (s := ((s.dropAlarm r).notifyChanged r .cleared).leaveAlarm r) ?_ (by simp [State.clearAlarm])
  unfold State.leaveAlarm
  repeat' split
  · exact told.leaveHoldAlarm _ _
  · exact told
  · exact told

theorem cleared (time : Timebase) (loader : Loader) (pending : List Instr) : HoldSetsMatch (.cleared time loader pending) := by
  intro z r hr
  simp [State.cleared] at hr

end HoldSetsMatch

/-- R109: every act keeps the zones' states and hold-source sets matched. -/
theorem Act.holdSetsMatch {fit : Prop} {s t : State} (a : Act fit s t) (h : HoldSetsMatch s) : HoldSetsMatch t := by
  cases a with
  | quiet q => exact h.of_core q.zones
  | zoneTurn z cause f r hr turn =>
    refine HoldSetsMatch.changeZone (h.matchedBut_self z) cause f fun x hx => ?_
    obtain rfl := Option.some.inj (hx.symm.trans hr)
    rcases turn.hold with ⟨state, hold⟩ | matched
    · simpa only [ZoneRec.Matched, state, hold] using h z x hx
    · exact matched
  | joinLine z l => exact h.joinHoldLine z l
  | joinAlarm z n => exact h.joinHoldAlarm z n
  | leaveLine z l => exact h.leaveHoldLine z l
  | leaveAlarm z n => exact h.leaveHoldAlarm z n
  | enter z =>
    refine HoldSetsMatch.of_change (fun i hi => s.enterDischarge_view i hi ZoneRec.core_steady z) (h.matchedBut_self z) fun r x _ e => ?_
    exact ZoneRec.matched_of_core e (ZoneRec.matched_of_idle nofun nofun)
  | leave z =>
    refine HoldSetsMatch.of_change (fun i hi => s.leaveDischarge_core i hi z) (h.matchedBut_self z) fun r x _ e => ?_
    exact ZoneRec.matched_of_core (r := { r with state := .discharged }) e (ZoneRec.matched_of_idle nofun nofun)
  | clear r => exact h.clearAlarm r
  | reset time loader => exact .cleared time loader _
  | configure l r =>
    intro z x hx
    obtain ⟨c, -, rfl⟩ : ∃ c, r.zones[z] = some c ∧ ZoneRec.fresh c = x := by simpa [State.configured] using hx
    exact ZoneRec.matched_of_idle nofun nofun
  | _ => exact h.of_core (by simp [State.openedUnder, State.replacedAlarm, State.modeSet])

/-- Settles O55: every act keeps the zones' states and hold-source sets matched, so every step does. -/
theorem holdSetsStayMatched : Obligations.HoldSetsStayMatched :=
  fun _ _ hs h => step_keeps (fun _ _ a => a.holdSetsMatch) id hs h

end Sys2Proof.Machine


/-! ## R121 to R124, R131, R132: the valves follow the zones, the tests and the minimum-on periods -/

namespace Sys2Proof.Machine

/-- What allows an output to be ON: for a selector that its zone is in a discharging set or in the first stage of a test, for a main valve
that a zone of its bank is discharging or its minimum-on period runs. -/
def State.mayBeOn (s : State) (o : Output) : Prop :=
  (∃ z, o = selectorOf z ∧ ((∃ bank, z ∈ (s.banks[bankIndex bank]).discharging) ∨ s.testInFirstStage z)) ∨
  ∃ bank, o = mainValveOf bank ∧
    ((∃ z, z ∈ (s.banks[bankIndex bank]).discharging) ∨ (s.banks[bankIndex bank]).minOnEnd.isSome = true)

/-- Only an output in service is ON, and, but for the outputs `free`, only an allowed one. -/
def State.onlyAllowed (s : State) (free : Output → Prop) : Prop :=
  ∀ o : Output, (s.valves.outputs[o]).drive = true → (s.valves.outputs[o]).inService = true ∧ (free o ∨ s.mayBeOn o)

/-- The discharging sets are those of the zones in DISCHARGE. -/
def State.listsDischarges (s : State) : Prop := ∀ bank z, z ∈ (s.banks[bankIndex bank]).discharging ↔ s.discharges z bank

def State.isolated (s : State) (z : Zone) : Prop := ∃ r, s.zones[z] = some r ∧ r.state = .isolated

/-- A test release runs only in an ISOLATED zone, and after STARTUP_DONE. -/
def State.testsIsolated (s : State) : Prop := ∀ z : Zone, s.valves.tests[z] ≠ none → s.isolated z ∧ s.isRunning = true

theorem valvesFollowZones_iff (s : State) :
    ValvesFollowZones s ↔ s.onlyAllowed (fun _ => False) ∧ s.listsDischarges ∧ s.testsIsolated := by
  constructor
  · rintro ⟨service, selector, lists, main, tests, idle⟩
    refine ⟨fun o on => ⟨service o on, .inr ?_⟩, lists, fun z hz => ⟨tests z hz, ?_⟩⟩
    · rcases output_cases o with ⟨z, rfl⟩ | ⟨bank, rfl⟩
      · exact .inl ⟨z, rfl, (selector z on).imp_left fun ⟨bank, d⟩ => ⟨bank, (lists bank z).2 d⟩⟩
      · exact .inr ⟨bank, rfl, (main bank on).imp_left fun ⟨z, d⟩ => ⟨z, (lists bank z).2 d⟩⟩
    · by_contra stopped
      exact hz (idle (by simpa using stopped) z)
  · rintro ⟨allowed, lists, tests⟩
    refine ⟨fun o on => (allowed o on).1, fun z on => ?_, lists, fun bank on => ?_, fun z hz => (tests z hz).1, fun stopped z => ?_⟩
    · rcases (allowed _ on).2 with no | ⟨y, e, h⟩ | ⟨bank, e, -⟩
      · exact no.elim
      · obtain rfl := selectorOf_inj.1 e
        exact h.imp_left fun ⟨bank, d⟩ => ⟨bank, (lists bank z).1 d⟩
      · exact absurd e (selectorOf_ne_mainValveOf z bank)
    · rcases (allowed _ on).2 with no | ⟨y, e, -⟩ | ⟨b, e, h⟩
      · exact no.elim
      · exact absurd e (mainValveOf_ne_selectorOf y bank)
      · obtain rfl := mainValveOf_inj.1 e
        exact h.imp_left fun ⟨z, d⟩ => ⟨z, (lists bank z).1 d⟩
    · by_contra hz
      exact absurd (tests z hz).2 (by simp [stopped])

/-! ### What moves the valves -/

/-- The discharging sets and the minimum-on periods stand. -/
def State.sameSets (s t : State) : Prop :=
  ∀ bank, (t.banks[bankIndex bank]).discharging = (s.banks[bankIndex bank]).discharging ∧
    (t.banks[bankIndex bank]).minOnEnd = (s.banks[bankIndex bank]).minOnEnd

theorem State.sameSets_of_banks {s t : State} (h : t.banks = s.banks) : s.sameSets t := fun _ => by simp [h]

theorem State.sameSets.trans {s t u : State} (a : s.sameSets t) (b : t.sameSets u) : s.sameSets u :=
  fun bank => ⟨(b bank).1.trans (a bank).1, (b bank).2.trans (a bank).2⟩

/-- The drive of output `o` becomes `on`, and every other output keeps its drive; a zone's test at most ends, and the first stage ends only
where the selector is then OFF. -/
structure ValvesMove (s t : State) (o : Output) (on : Bool) : Prop where
  banks : s.sameSets t
  service (x : Output) : (t.valves.outputs[x]).inService = (s.valves.outputs[x]).inService
  drive : (t.valves.outputs[o]).drive = on
  others (x : Output) (hx : x ≠ o) : (t.valves.outputs[x]).drive = (s.valves.outputs[x]).drive
  first (z : Zone) (h : s.testInFirstStage z) : t.testInFirstStage z ∨ (o = selectorOf z ∧ on = false)
  tests (z : Zone) (h : t.valves.tests[z] ≠ none) : s.valves.tests[z] ≠ none

/-- No output's drive changes and no first stage ends. -/
structure ValvesStay (s t : State) : Prop where
  banks : s.sameSets t
  outputs (x : Output) : (t.valves.outputs[x]).inService = (s.valves.outputs[x]).inService ∧
    (t.valves.outputs[x]).drive = (s.valves.outputs[x]).drive
  first (z : Zone) (h : s.testInFirstStage z) : t.testInFirstStage z
  tests (z : Zone) (h : t.valves.tests[z] ≠ none) : s.valves.tests[z] ≠ none

variable {s t u : State}

theorem ValvesStay.of_valves (hv : t.valves = s.valves) (hb : t.banks = s.banks) : ValvesStay s t :=
  ⟨State.sameSets_of_banks hb, fun x => by simp [hv], fun z h => by simpa only [State.testInFirstStage, hv] using h, fun z h => hv ▸ h⟩

theorem ValvesStay.trans (a : ValvesStay s t) (b : ValvesStay t u) : ValvesStay s u :=
  ⟨a.banks.trans b.banks, fun x => ⟨(b.outputs x).1.trans (a.outputs x).1, (b.outputs x).2.trans (a.outputs x).2⟩,
    fun z h => b.first z (a.first z h), fun z h => a.tests z (b.tests z h)⟩

theorem ValvesStay.ite (c : Prop) [Decidable c] (a : ValvesStay s t) : ValvesStay s (if c then t else s) := by
  split
  · exact a
  · exact .of_valves rfl rfl

theorem ValvesMove.trans_stay {o : Output} {on : Bool} (a : ValvesMove s t o on) (b : ValvesStay t u) : ValvesMove s u o on :=
  ⟨a.banks.trans b.banks, fun x => (b.outputs x).1.trans (a.service x), (b.outputs o).2.trans a.drive,
    fun x hx => (b.outputs x).2.trans (a.others x hx), fun z h => (a.first z h).imp_left (b.first z),
    fun z h => a.tests z (b.tests z h)⟩

theorem ValvesStay.updOutput (s : State) (o : Output) (f : OutputRec → OutputRec)
    (hf : ∀ r, (f r).inService = r.inService ∧ (f r).drive = r.drive) : ValvesStay s (s.updOutput o f) := by
  refine ⟨State.sameSets_of_banks rfl, fun x => ?_, fun _ h => h, fun _ h => h⟩
  simp only [State.updOutput_valves, Fin.getElem_fin, Tab.getElem_put]
  split
  · next e => rw [← Fin.ext e]; exact hf _
  · exact ⟨rfl, rfl⟩

theorem ValvesStay.setPathFault (s : State) (o : Output) (fault : Option PathFault) (edge : Option Nat) :
    ValvesStay s (s.setPathFault o fault edge) := by
  unfold State.setPathFault
  dsimp only
  split
  · exact .of_valves rfl rfl
  · exact (ValvesStay.updOutput s o (fun x => { x with fault := fault }) fun _ => ⟨rfl, rfl⟩).trans
      (.of_valves (by simp) (by simp))

theorem ValvesStay.setTest (s : State) (z : Zone) (y : Option TestRec)
    (first : s.testInFirstStage z → ∃ start passed, y = some ⟨start, .first passed⟩)
    (runs : y ≠ none → s.valves.tests[z] ≠ none) : ValvesStay s (s.setTest z y) := by
  refine ⟨State.sameSets_of_banks rfl, fun _ => ⟨rfl, rfl⟩, fun w h => ?_, fun w h => ?_⟩
  · by_cases e : z = w
    · subst e
      obtain ⟨start, passed, rfl⟩ := first h
      exact ⟨start, passed, by simp⟩
    · have other : z.val ≠ w.val := fun x => e (Fin.ext x)
      simpa [State.testInFirstStage, other] using h
  · by_cases e : z = w
    · subst e
      exact runs (by simpa using h)
    · have other : z.val ≠ w.val := fun x => e (Fin.ext x)
      simpa [other] using h

theorem ValvesStay.testChecked (s : State) (o : Output) (kind : CheckKind) (passed : Bool) :
    ValvesStay s (s.testChecked o kind passed) := by
  unfold State.testChecked
  split
  · exact .of_valves rfl rfl
  · next z _ =>
    cases kind with
    | offCheck =>
      dsimp only
      unfold State.endTest
      split
      · next start on h =>
        refine (ValvesStay.setTest s z none (fun ⟨a, b, f⟩ => ?_) (by simp)).trans (.of_valves (by simp) (by simp))
        simp [h] at f
      · exact .of_valves rfl rfl
    | onCheck =>
      dsimp only
      split
      · next start on h => exact ValvesStay.setTest s z _ (fun _ => ⟨_, _, rfl⟩) fun _ => by simp [h]
      · exact .of_valves rfl rfl

theorem ValvesStay.passCheck (s : State) (o : Output) (kind : CheckKind) : ValvesStay s (s.passCheck o kind) :=
  ((ValvesStay.updOutput s o (fun x => { x with check := none }) fun _ => ⟨rfl, rfl⟩).trans (.setPathFault _ o _ _)).trans
    (.testChecked _ o _ _)

theorem ValvesStay.failCheck (s : State) (o : Output) (c : Check) : ValvesStay s (s.failCheck o c) :=
  ((ValvesStay.updOutput s o (fun x => { x with check := none }) fun _ => ⟨rfl, rfl⟩).trans (.setPathFault _ o _ _)).trans
    (.testChecked _ o _ _)

theorem ValvesStay.judgeCheck (s : State) (o : Output) : ValvesStay s (s.judgeCheck o) := by
  unfold State.judgeCheck
  repeat' split
  · exact .of_valves rfl rfl
  · exact .passCheck _ _ _
  · exact .of_valves rfl rfl

theorem ValvesStay.feedbackReport (s : State) (o : Output) (new : LineClass) : ValvesStay s (s.feedbackReport o new) := by
  have recorded : ValvesStay s (s.updOutput o fun x => { x with feedback := some new }) := .updOutput s o _ fun _ => ⟨rfl, rfl⟩
  unfold State.feedbackReport
  dsimp only
  repeat' split
  · exact .of_valves rfl rfl
  · exact recorded.trans (.judgeCheck _ o)
  · exact recorded.trans (.setPathFault _ _ _ _)
  · exact recorded
  · exact recorded.trans (.setPathFault _ _ _ _)

theorem OutputRec.switched_drive (r : OutputRec) (on : Bool) (now : Nat) :
    (r.switched on now).drive = if r.inService then on else r.drive := by
  unfold OutputRec.switched
  by_cases still : r.inService = false ∨ r.drive = on
  · rw [if_pos still]
    rcases still with out | same
    · simp [out]
    · simp [same]
  · have serves : r.inService = true := by simpa using fun e => still (.inl e)
    rw [if_neg still, if_pos (c := r.inService = true) serves]
    split_ifs <;> rfl

theorem OutputRec.switched_inService (r : OutputRec) (on : Bool) (now : Nat) :
    (r.switched on now).inService = r.inService := by
  unfold OutputRec.switched
  split_ifs <;> rfl

/-- R121: what a switching does to the drives. -/
theorem ValvesMove.switchOutput (s : State) (o : Output) (on : Bool) :
    ValvesMove s (s.switchOutput o on) o
      (if (s.valves.outputs[o]).inService then on else (s.valves.outputs[o]).drive) := by
  obtain ⟨u, ⟨became, -, -, -⟩, e⟩ := s.switchOutput_cases o on
  rw [e, ← OutputRec.switched_drive _ on s.nowMs]
  refine ValvesMove.trans_stay ?_ (.ite _ (.testChecked u o _ true))
  have valves : u.valves =
      { outputs := s.valves.outputs.put o ((s.valves.outputs[o]).switched on s.nowMs), tests := s.valves.tests } := by
    rw [became]
  refine ⟨State.sameSets_of_banks (by rw [became]), fun x => ?_, ?_, fun x hx => ?_, fun z h => .inl ?_, fun z h => ?_⟩
  · by_cases h : o = x
    · subst h
      simpa [valves] using OutputRec.switched_inService _ _ _
    · have : o.val ≠ x.val := fun e => h (Fin.ext e)
      simp [valves, this]
  · simp [valves]
  · have : o.val ≠ x.val := fun e => hx (Fin.ext e.symm)
    simp [valves, this]
  · simpa [State.testInFirstStage, valves] using h
  · simpa [valves] using h

/-! ### What stays allowed -/

theorem State.mayBeOn_mono (banks : s.sameSets t) (o : Output)
    (first : ∀ z, o = selectorOf z → s.testInFirstStage z → t.testInFirstStage z) (h : s.mayBeOn o) : t.mayBeOn o := by
  rcases h with ⟨z, e, d | test⟩ | main
  · exact .inl ⟨z, e, .inl (by simpa only [fun b => (banks b).1] using d)⟩
  · exact .inl ⟨z, e, .inr (first z e test)⟩
  · exact .inr (by simpa only [fun b => (banks b).1, fun b => (banks b).2] using main)

theorem State.onlyAllowed_mono {free more : Output → Prop} (h : s.onlyAllowed free)
    (hf : ∀ o, (s.valves.outputs[o]).drive = true → free o → more o ∨ s.mayBeOn o) : s.onlyAllowed more :=
  fun o on => ⟨(h o on).1, (h o on).2.elim (hf o on) .inr⟩

theorem ValvesStay.onlyAllowed (a : ValvesStay s t) {free : Output → Prop} (h : s.onlyAllowed free) : t.onlyAllowed free := by
  intro o on
  obtain ⟨service, drive⟩ := a.outputs o
  rw [drive] at on
  rw [service]
  exact ⟨(h o on).1, (h o on).2.imp_right (State.mayBeOn_mono a.banks o fun z _ => a.first z)⟩

theorem ValvesMove.onlyAllowed {o : Output} {on : Bool} (a : ValvesMove s t o on) {free : Output → Prop} (h : s.onlyAllowed free)
    (service : on = true → (s.valves.outputs[o]).inService = true) :
    t.onlyAllowed fun x => (free x ∧ x ≠ o) ∨ (x = o ∧ on = true) := by
  intro x drive
  by_cases e : x = o
  · subst e
    rw [a.drive] at drive
    exact ⟨(a.service x).trans (service drive), .inl (.inr ⟨rfl, drive⟩)⟩
  · rw [a.others x e] at drive
    refine ⟨(a.service x).trans (h x drive).1, (h x drive).2.imp (fun f => .inl ⟨f, e⟩) ?_⟩
    exact State.mayBeOn_mono a.banks x fun z hz test => (a.first z test).resolve_right fun f => e (hz.trans f.1.symm)

/-- R121: a switching ON may leave an output ON that nothing allows yet. -/
theorem State.onlyAllowed.switchOn {free : Output → Prop} (h : s.onlyAllowed free) (o : Output) :
    (s.switchOutput o true).onlyAllowed fun x => free x ∨ x = o := by
  refine State.onlyAllowed_mono ((ValvesMove.switchOutput s o true).onlyAllowed h fun on => ?_) ?_
  · by_contra out
    simp only [out] at on
    exact out (h o on).1
  · rintro x - (⟨f, -⟩ | ⟨e, -⟩)
    · exact .inl (.inl f)
    · exact .inl (.inr e)

/-- R121: an output that is switched OFF is OFF. -/
theorem State.onlyAllowed.switchOff_drive {free : Output → Prop} (h : s.onlyAllowed free) (o : Output) :
    ((s.switchOutput o false).valves.outputs[o]).drive = false := by
  rw [(ValvesMove.switchOutput s o false).drive]
  split
  · rfl
  · next out =>
    by_contra on
    exact out (h o (by simpa using on)).1

theorem State.onlyAllowed.switchOff {free : Output → Prop} (h : s.onlyAllowed free) (o : Output) :
    (s.switchOutput o false).onlyAllowed fun x => free x ∧ x ≠ o := by
  have moved := ValvesMove.switchOutput s o false
  have off := moved.drive
  rw [h.switchOff_drive o] at off
  rw [← off] at moved
  refine State.onlyAllowed_mono (moved.onlyAllowed h nofun) ?_
  rintro x - (f | ⟨-, on⟩)
  · exact .inl f
  · exact absurd on (by decide)

/-- Where a zone's test changes its stage or ends, nothing may allow its selector any more. -/
theorem State.onlyAllowed.setTest {free : Output → Prop} (h : s.onlyAllowed free) (z : Zone) (y : Option TestRec) :
    (s.setTest z y).onlyAllowed fun o => free o ∨ o = selectorOf z := by
  intro o on
  refine ⟨(h o on).1, ?_⟩
  by_cases e : o = selectorOf z
  · exact .inl (.inr e)
  · refine (h o on).2.imp .inl fun allowed => State.mayBeOn_mono
        (s := s) (t := s.setTest z y) (State.sameSets_of_banks rfl) o (fun w hw test => ?_) allowed
    have other : z.val ≠ w.val := fun x => e (hw.trans (congrArg _ (Fin.ext x.symm)))
    simpa [State.testInFirstStage, other] using test

/-- R132: a test that passes to its second stage leaves its selector OFF. -/
theorem State.onlyAllowed.testSecondStage {free : Output → Prop} (h : s.onlyAllowed free) (z : Zone) :
    (s.testSecondStage z).onlyAllowed free := by
  unfold State.testSecondStage
  split
  · split
    · refine ValvesStay.onlyAllowed (.of_valves (by simp) (by simp)) (s := (s.switchOutput (selectorOf z) false).setTest z none) ?_
      refine State.onlyAllowed_mono ((h.switchOff (selectorOf z)).setTest z none) ?_
      rintro o on (⟨f, -⟩ | rfl)
      · exact .inl f
      · have := h.switchOff_drive (selectorOf z)
        exact absurd (on.symm.trans this) (by decide)
    · refine State.onlyAllowed_mono ((h.setTest z _).switchOff (selectorOf z)) ?_
      rintro o - ⟨f | e, ne⟩
      · exact .inl f
      · exact absurd e ne
  · exact h

/-- What the free outputs are allowed, all are. -/
theorem State.onlyAllowed.close {free : Output → Prop} (h : s.onlyAllowed free) (hf : ∀ o, free o → s.mayBeOn o) :
    s.onlyAllowed fun _ => False :=
  State.onlyAllowed_mono h fun o _ f => .inr (hf o f)

/-- R122: a main valve closes once no zone of its bank is discharging and no minimum-on period runs. -/
theorem State.onlyAllowed.settleMainValve {bank : Bank} (h : s.onlyAllowed (· = mainValveOf bank)) :
    (s.settleMainValve bank).onlyAllowed fun _ => False := by
  unfold State.settleMainValve
  dsimp only
  split
  · refine State.onlyAllowed_mono (h.switchOff (mainValveOf bank)) ?_
    rintro o - ⟨e, ne⟩
    exact absurd e ne
  · next stands =>
    refine h.close fun o e => .inr ⟨bank, e, ?_⟩
    simp only [Fin.getElem_fin, Bool.and_eq_true, List.isEmpty_iff, Option.isNone_iff_eq_none, not_and] at stands
    by_cases none : (s.banks[(bankIndex bank).val]).discharging = []
    · exact .inr (Option.isSome_iff_ne_none.2 (stands none))
    · exact .inl (List.exists_mem_of_ne_nil _ none)

@[simp] theorem bankIndex_inj {a b : Bank} : bankIndex a = bankIndex b ↔ a = b := by
  cases a <;> cases b <;> decide

/-- What is allowed stays so where a bank's discharging set grows and its minimum-on period stands. -/
theorem State.mayBeOn_updBank {o : Output} (h : s.mayBeOn o) (bank : Bank) (f : BankRec → BankRec)
    (sets : ∀ z ∈ (s.banks[bankIndex bank]).discharging, z ∈ (f s.banks[bankIndex bank]).discharging)
    (ends : (s.banks[bankIndex bank]).minOnEnd.isSome = true → (f s.banks[bankIndex bank]).minOnEnd.isSome = true) :
    (s.updBank bank f).mayBeOn o := by
  have grows (b : Bank) : (∀ z ∈ (s.banks[bankIndex b]).discharging, z ∈ ((s.updBank bank f).banks[bankIndex b]).discharging) ∧
      ((s.banks[bankIndex b]).minOnEnd.isSome = true → ((s.updBank bank f).banks[bankIndex b]).minOnEnd.isSome = true) := by
    by_cases e : bank = b
    · subst e
      simpa using ⟨sets, ends⟩
    · have other : (bankIndex bank).val ≠ (bankIndex b).val := fun x => e (bankIndex_inj.1 (Fin.ext x))
      simp [other]
  rcases h with ⟨z, e, ⟨b, d⟩ | test⟩ | ⟨b, e, ⟨z, d⟩ | m⟩
  · exact .inl ⟨z, e, .inl ⟨b, (grows b).1 z d⟩⟩
  · exact .inl ⟨z, e, .inr test⟩
  · exact .inr ⟨b, e, .inl ⟨z, (grows b).1 z d⟩⟩
  · exact .inr ⟨b, e, .inr ((grows b).2 m)⟩

/-- R122: the main valve of a bank with a zone discharging opens. -/
theorem State.onlyAllowed.openMainValve (h : s.onlyAllowed fun _ => False) {bank : Bank} {z : Zone}
    (hz : z ∈ (s.banks[bankIndex bank]).discharging) : (s.openMainValve bank).onlyAllowed fun _ => False := by
  unfold State.openMainValve
  split
  · exact h
  · let u := s.updBank bank fun k => { k with minOnEnd := some (s.nowMs + k.cfg.tMin * 1000) }
    have begun : u.onlyAllowed fun _ => False := fun o on =>
      ⟨(h o on).1, (h o on).2.imp_right fun a => State.mayBeOn_updBank a bank _ (fun _ m => m) fun _ => rfl⟩
    refine (begun.switchOn (mainValveOf bank)).close fun o f => .inr ⟨bank, f.resolve_left id, .inl ⟨z, ?_⟩⟩
    simpa [u] using hz

/-- R122, R123: the valves of a zone that enters DISCHARGE. -/
theorem State.onlyAllowed.startDischargeValves (h : s.onlyAllowed fun _ => False) (z : Zone) :
    (s.startDischargeValves z).onlyAllowed fun _ => False := by
  unfold State.startDischargeValves
  split
  · exact h
  · next bank _ =>
    let u := s.switchOutput (selectorOf z) true
    let v := u.updBank bank fun k => { k with discharging := insertAscending z k.discharging }
    have joined : z ∈ (v.banks[bankIndex bank]).discharging := by simp [v, mem_insertAscending]
    have allowed : v.onlyAllowed fun _ => False := by
      intro o on
      obtain ⟨service, f | m⟩ := h.switchOn (selectorOf z) o on
      · exact ⟨service, .inr (.inl ⟨z, f.resolve_left id, .inl ⟨bank, joined⟩⟩)⟩
      · exact ⟨service, .inr (State.mayBeOn_updBank m bank _ (fun _ d => (mem_insertAscending _ _ _).2 (.inr d)) id)⟩
    exact State.forEach_induct (fun t => t.onlyAllowed fun _ => False) _ _ _ (fun y _ t ht => ht.testSecondStage y)
      (allowed.openMainValve joined)

/-- R124: the valves of a zone that leaves DISCHARGE. -/
theorem State.onlyAllowed.endDischargeValves (h : s.onlyAllowed fun _ => False) (z : Zone) :
    (s.endDischargeValves z).onlyAllowed fun _ => False := by
  unfold State.endDischargeValves
  split
  · exact h
  · next bank _ =>
    refine State.onlyAllowed.settleMainValve fun o on => ?_
    obtain ⟨service, ⟨no, -⟩ | m⟩ := h.switchOff (selectorOf z) o on
    · exact no.elim
    · let u := s.switchOutput (selectorOf z) false
      have kept (b : Bank) (y : Zone) (hy : y ≠ z) (d : y ∈ (u.banks[bankIndex b]).discharging) :
          y ∈ ((u.updBank bank fun k => { k with discharging := k.discharging.filter (· != z) }).banks[bankIndex b]).discharging := by
        by_cases e : bank = b
        · subst e
          simpa [hy] using d
        · have other : (bankIndex bank).val ≠ (bankIndex b).val := fun x => e (bankIndex_inj.1 (Fin.ext x))
          simpa [other] using d
      refine ⟨service, ?_⟩
      rcases m with ⟨y, rfl, ⟨b, d⟩ | test⟩ | ⟨b, rfl, m⟩
      · have ne : y ≠ z := by
          rintro rfl
          exact absurd (on.symm.trans (h.switchOff_drive (selectorOf y))) (by decide)
        exact .inr (.inl ⟨y, rfl, .inl ⟨b, kept b y ne d⟩⟩)
      · exact .inr (.inl ⟨y, rfl, .inr test⟩)
      · by_cases e : bank = b
        · exact .inl (congrArg mainValveOf e.symm)
        · have other : (bankIndex bank).val ≠ (bankIndex b).val := fun x => e (bankIndex_inj.1 (Fin.ext x))
          exact .inr (.inr ⟨b, rfl, by simpa [other] using m⟩)

/-! ### Zones -/

/-- A zone's bank and state. -/
def State.look (s : State) (z : Zone) : Option (Bank × ZoneState) := (s.zones[z]).map fun r => (r.cfg.bank, r.state)

def ZoneCore.look (c : ZoneCore) : Bank × ZoneState := (c.cfg.bank, c.state)

theorem State.look_eq (s : State) (z : Zone) : s.look z = ((s.zones[z.val]).map ZoneRec.core).map ZoneCore.look := by
  simp only [Option.map_map]
  rfl

theorem State.look_of_core (e : ∀ (i : Nat) (hi : i < 8), (t.zones[i]).map ZoneRec.core = (s.zones[i]).map ZoneRec.core) (z : Zone) :
    t.look z = s.look z := by
  rw [State.look_eq, State.look_eq, e]

theorem State.discharges_iff (s : State) (z : Zone) (bank : Bank) : s.discharges z bank ↔ s.look z = some (bank, .discharge) := by
  simp [State.discharges, State.look]

theorem State.isolated_iff (s : State) (z : Zone) : s.isolated z ↔ ∃ bank, s.look z = some (bank, .isolated) := by
  constructor
  · rintro ⟨r, hr, e⟩
    exact ⟨r.cfg.bank, by simp only [State.look, hr, Option.map_some, e]⟩
  · rintro ⟨bank, e⟩
    obtain ⟨r, hr, e⟩ := Option.map_eq_some_iff.1 e
    exact ⟨r, hr, (Prod.mk.inj e).2⟩

/-- The zone that changes, and the others. -/
theorem State.look_of_change {z : Zone} {f : ZoneRec → ZoneCore}
    (e : ∀ (i : Nat) (hi : i < 8), (t.zones[i]).map ZoneRec.core =
      if z.val = i then (s.zones[i]).map f else (s.zones[i]).map ZoneRec.core) (y : Zone) :
    t.look y = if z = y then (s.zones[y]).map fun r => (f r).look else s.look y := by
  rw [State.look_eq, e]
  by_cases h : z = y
  · subst h
    simp [Function.comp_def]
  · have : z.val ≠ y.val := fun x => h (Fin.ext x)
    rw [if_neg this, if_neg h, State.look_eq]

/-- No zone enters or leaves DISCHARGE, and an ISOLATED zone with a test stays so. -/
structure ZonesStay (s t : State) : Prop where
  discharges (z : Zone) (bank : Bank) : t.discharges z bank ↔ s.discharges z bank
  isolated (z : Zone) (test : s.valves.tests[z] ≠ none) (h : s.isolated z) : t.isolated z

theorem ZonesStay.of_look (e : ∀ z, t.look z = s.look z) : ZonesStay s t :=
  ⟨fun z bank => by simp only [State.discharges_iff, e], fun z _ h => by simpa only [State.isolated_iff, e] using h⟩

theorem ZonesStay.trans (a : ZonesStay s t) (b : ZonesStay t u) (v : t.valves = s.valves) : ZonesStay s u :=
  ⟨fun z bank => (b.discharges z bank).trans (a.discharges z bank),
    fun z test h => b.isolated z (v ▸ test) (a.isolated z test h)⟩

theorem ZonesStay.changeZone (s : State) (z : Zone) (cause : ZoneCause) (f : ZoneRec → ZoneRec)
    (h : ∀ r, s.zones[z] = some r → (f r).cfg = r.cfg ∧ r.state ≠ .discharge ∧ (f r).state ≠ .discharge ∧
      (s.valves.tests[z] = none ∨ r.state ≠ .isolated ∨ (f r).state = .isolated)) :
    ZonesStay s (s.changeZone z cause f) := by
  have looks := State.look_of_change fun i hi => s.changeZone_view i hi ZoneRec.core_steady z cause f
  refine ⟨fun y bank => ?_, fun y test here => ?_⟩
  · rw [State.discharges_iff, State.discharges_iff, looks]
    split
    · next e =>
      subst e
      cases hr : s.zones[z] with
      | none => simp [State.look, hr]
      | some r =>
        obtain ⟨-, before, after, -⟩ := h r hr
        simp only [Option.map_some, Option.some.injEq, State.look, hr, ZoneCore.look, ZoneRec.core, Prod.mk.injEq]
        exact ⟨fun x => absurd x.2 after, fun x => absurd x.2 before⟩
    · rfl
  · rw [State.isolated_iff] at here ⊢
    rw [looks]
    split
    · next e =>
      subst e
      obtain ⟨bank, look⟩ := here
      obtain ⟨r, hr, e⟩ := Option.map_eq_some_iff.1 look
      obtain ⟨cfg, -, -, turn⟩ := h r hr
      have state := (turn.resolve_left test).resolve_left fun no => no (Prod.mk.inj e).2
      exact ⟨r.cfg.bank, by simp only [hr, Option.map_some, ZoneCore.look, ZoneRec.core, state, cfg]⟩
    · exact here

theorem ZonesStay.updZone (s : State) (z : Zone) (f : ZoneRec → ZoneRec) (h : ∀ r, (f r).cfg = r.cfg ∧ (f r).state = r.state) :
    ZonesStay s (s.updZone z f) := by
  refine .of_look fun y => ?_
  simp only [State.look, State.updZone_zones, Fin.getElem_fin, Tab.getElem_put]
  split
  · next e =>
    rw [← Fin.ext e]
    cases s.zones[z.val] <;> simp [h]
  · rfl

theorem ZonesStay.afterJoin (s : State) (z : Zone) : ZonesStay s (s.afterJoin z) := by
  unfold State.afterJoin
  split
  · next counts =>
    refine .changeZone s z _ _ fun r hr => ?_
    simp only [Fin.getElem_fin] at hr counts
    simp only [hr, Option.any_some, beq_iff_eq] at counts
    exact ⟨rfl, by simp [counts], nofun, .inr (.inl (by simp [counts]))⟩
  · exact .of_look fun _ => rfl

theorem ZonesStay.afterLeave (s : State) (z : Zone) : ZonesStay s (s.afterLeave z) := by
  unfold State.afterLeave
  split
  · next counts =>
    refine .changeZone s z _ _ fun r hr => ?_
    simp only [Fin.getElem_fin] at hr counts
    simp only [hr, Option.any_some, Bool.and_eq_true, beq_iff_eq] at counts
    exact ⟨rfl, by simp [counts.1], nofun, .inr (.inl (by simp [counts.1]))⟩
  · exact .of_look fun _ => rfl

theorem ZonesStay.joinHoldLine (s : State) (z : Zone) (l : Line) : ZonesStay s (s.joinHoldLine z l) :=
  have joined := ZonesStay.updZone s z (fun r => { r with holdLines := insertAscending l r.holdLines }) fun _ => ⟨rfl, rfl⟩
  joined.trans (.afterJoin _ z) rfl

theorem ZonesStay.joinHoldAlarm (s : State) (z : Zone) (n : Nat) : ZonesStay s (s.joinHoldAlarm z n) :=
  have joined := ZonesStay.updZone s z
    (fun r => { r with holdAlarms := if n ∈ r.holdAlarms then r.holdAlarms else r.holdAlarms ++ [n] }) fun _ => ⟨rfl, rfl⟩
  joined.trans (.afterJoin _ z) rfl

theorem ZonesStay.leaveHoldLine (s : State) (z : Zone) (l : Line) : ZonesStay s (s.leaveHoldLine z l) :=
  have left := ZonesStay.updZone s z (fun r => { r with holdLines := r.holdLines.filter (· != l) }) fun _ => ⟨rfl, rfl⟩
  left.trans (.afterLeave _ z) rfl

theorem ZonesStay.leaveHoldAlarm (s : State) (z : Zone) (n : Nat) : ZonesStay s (s.leaveHoldAlarm z n) :=
  have left := ZonesStay.updZone s z (fun r => { r with holdAlarms := r.holdAlarms.filter (· != n) }) fun _ => ⟨rfl, rfl⟩
  left.trans (.afterLeave _ z) rfl

theorem ZonesStay.clearAlarm (s : State) (r : AlarmRec) : ZonesStay s (s.clearAlarm r) := by
  let told := (s.dropAlarm r).notifyChanged r .cleared
  have before : ZonesStay s told := .of_look fun z => by simp [told, State.look, State.notifyChanged, State.dropAlarm]
  have left : ZonesStay told (told.leaveAlarm r) := by
    unfold State.leaveAlarm
    repeat' split
    · exact .leaveHoldAlarm told _ _
    · exact .of_look fun _ => rfl
    · exact .of_look fun _ => rfl
  have after : ZonesStay (told.leaveAlarm r) (s.clearAlarm r) := .of_look fun z => by simp [told, State.clearAlarm, State.look]
  have same : told.valves = s.valves := by simp [told, State.notifyChanged, State.dropAlarm]
  exact (before.trans left same).trans after (by simpa using same)

/-! ### The acts -/

namespace ValvesFollowZones

theorem of_stay (h : ValvesFollowZones s) (v : ValvesStay s t) (z : ZonesStay s t) (running : t.isRunning = s.isRunning) :
    ValvesFollowZones t := by
  rw [valvesFollowZones_iff] at h ⊢
  obtain ⟨allowed, lists, tests⟩ := h
  refine ⟨v.onlyAllowed allowed, fun bank y => ?_, fun y hy => ?_⟩
  · rw [(v.banks bank).1, z.discharges]
    exact lists bank y
  · have runs := v.tests y hy
    exact ⟨z.isolated y runs (tests y runs).1, running.trans (tests y runs).2⟩

/-- The valves, the banks and the zones stand. -/
theorem of_same (h : ValvesFollowZones s) (valves : t.valves = s.valves) (banks : t.banks = s.banks) (loader : t.loader = s.loader)
    (zones : ∀ (i : Nat) (hi : i < 8), (t.zones[i]).map ZoneRec.core = (s.zones[i]).map ZoneRec.core) : ValvesFollowZones t :=
  h.of_stay (.of_valves valves banks) (.of_look (State.look_of_core zones)) (by simp only [State.isRunning, loader])

/-- A zone changes; the valves and the banks stand. -/
theorem of_zones (h : ValvesFollowZones s) (z : ZonesStay s t) (valves : t.valves = s.valves) (banks : t.banks = s.banks)
    (loader : t.loader = s.loader) : ValvesFollowZones t :=
  h.of_stay (.of_valves valves banks) z (by simp only [State.isRunning, loader])

end ValvesFollowZones

/-- A test at most ends. -/
def State.testsWithin (s t : State) : Prop := ∀ z : Zone, t.valves.tests[z] ≠ none → s.valves.tests[z] ≠ none

theorem State.testsWithin.trans (a : s.testsWithin t) (b : t.testsWithin u) : s.testsWithin u := fun z hz => a z (b z hz)

theorem State.testsWithin_updBank (s : State) (bank : Bank) (f : BankRec → BankRec) : s.testsWithin (s.updBank bank f) :=
  fun _ h => h

theorem State.testsWithin_switchOutput (s : State) (o : Output) (on : Bool) : s.testsWithin (s.switchOutput o on) :=
  (ValvesMove.switchOutput s o on).tests

theorem State.testsWithin_setTest (s : State) (z : Zone) (y : Option TestRec) (h : s.valves.tests[z] ≠ none) :
    s.testsWithin (s.setTest z y) := by
  intro w hw
  by_cases e : z = w
  · exact e ▸ h
  · have other : z.val ≠ w.val := fun x => e (Fin.ext x)
    simpa [other] using hw

theorem State.testsWithin_testSecondStage (s : State) (z : Zone) : s.testsWithin (s.testSecondStage z) := by
  unfold State.testSecondStage
  split
  · next h =>
    have runs : s.valves.tests[z] ≠ none := by simp [h]
    split
    · intro w hw
      simp only [State.notify_frame] at hw
      have switched := s.testsWithin_switchOutput (selectorOf z) false
      by_cases e : z = w
      · exact e ▸ runs
      · have other : z.val ≠ w.val := fun x => e (Fin.ext x)
        exact switched w (by simpa [other] using hw)
    · exact fun w hw => s.testsWithin_setTest z _ runs w (State.testsWithin_switchOutput _ _ _ w hw)
  · exact fun _ h => h

theorem State.testsWithin_settleMainValve (s : State) (bank : Bank) : s.testsWithin (s.settleMainValve bank) := by
  unfold State.settleMainValve
  dsimp only
  split
  · exact s.testsWithin_switchOutput _ _
  · exact fun _ h => h

theorem State.testsWithin_openMainValve (s : State) (bank : Bank) : s.testsWithin (s.openMainValve bank) := by
  unfold State.openMainValve
  split
  · exact fun _ h => h
  · exact (s.testsWithin_updBank bank _).trans (State.testsWithin_switchOutput _ _ _)

theorem State.testsWithin_cutTests (s : State) (z : Zone) (bank : Bank) : s.testsWithin (s.cutTests z bank) :=
  State.forEach_induct s.testsWithin s _ _ (fun y _ t ht => ht.trans (t.testsWithin_testSecondStage y)) fun _ h => h

theorem State.testsWithin_startDischargeValves (s : State) (z : Zone) : s.testsWithin (s.startDischargeValves z) := by
  unfold State.startDischargeValves
  split
  · exact fun _ h => h
  · exact (s.testsWithin_switchOutput _ true).trans
      ((State.testsWithin_updBank _ _ _).trans
        ((State.testsWithin_openMainValve _ _).trans (State.testsWithin_cutTests _ _ _)))

theorem State.testsWithin_endDischargeValves (s : State) (z : Zone) : s.testsWithin (s.endDischargeValves z) := by
  unfold State.endDischargeValves
  split
  · exact fun _ h => h
  · exact (s.testsWithin_switchOutput _ false).trans
      ((State.testsWithin_updBank _ _ _).trans (State.testsWithin_settleMainValve _ _))

/-- R122: a zone that enters DISCHARGE joins its bank's discharging set. -/
theorem State.startDischargeValves_lists {s : State} {z : Zone} {bank : Bank} (h : s.bankOf z = some bank) (b : Bank) (y : Zone) :
    y ∈ ((s.startDischargeValves z).banks[bankIndex b]).discharging ↔
      (y = z ∧ bank = b) ∨ y ∈ (s.banks[bankIndex b]).discharging := by
  have opened (u : State) : ((u.openMainValve bank).banks[bankIndex b]).discharging = (u.banks[bankIndex b]).discharging := by
    unfold State.openMainValve
    split
    · rfl
    · simp only [State.switchOutput_frame, State.updBank_banks, Fin.getElem_fin, Tab.getElem_put]
      split
      · next e => simp [e]
      · rfl
  unfold State.startDischargeValves
  simp only [h, State.cutTests_frame, opened]
  simp only [State.updBank_banks, State.switchOutput_frame, Fin.getElem_fin, Tab.getElem_put, Fin.val_inj, bankIndex_inj]
  split
  · next e => subst e; simp [mem_insertAscending]
  · next e => simp [e]

/-- R124: a zone that leaves DISCHARGE leaves its bank's discharging set. -/
theorem State.endDischargeValves_lists {s : State} {z : Zone} {bank : Bank} (h : s.bankOf z = some bank) (b : Bank) (y : Zone) :
    y ∈ ((s.endDischargeValves z).banks[bankIndex b]).discharging ↔
      y ∈ (s.banks[bankIndex b]).discharging ∧ ¬(y = z ∧ bank = b) := by
  unfold State.endDischargeValves
  simp only [h, State.settleMainValve_frame]
  simp only [State.updBank_banks, State.switchOutput_frame, Fin.getElem_fin, Tab.getElem_put, Fin.val_inj, bankIndex_inj]
  split
  · next e => subst e; simp
  · next e => simp [e]

namespace ValvesFollowZones

theorem enterDischarge (h : ValvesFollowZones s) {z : Zone} {r : ZoneRec} (hr : s.zones[z] = some r) (counts : r.state = .countdown) :
    ValvesFollowZones (s.enterDischarge z) := by
  rw [valvesFollowZones_iff] at h ⊢
  obtain ⟨allowed, lists, tests⟩ := h
  let u := s.changeRecord z .countdownEnd (·.discharging s.nowMs)
  have result : s.enterDischarge z = (u.startDischargeValves z).followChange z r := by simp only [State.enterDischarge, hr, u]
  have valves : u.valves = s.valves ∧ u.banks = s.banks := by simp [u]
  have began : u.onlyAllowed fun _ => False := (ValvesStay.of_valves valves.1 valves.2).onlyAllowed allowed
  have looks (y : Zone) := State.look_of_change (fun i hi => s.enterDischarge_view i hi ZoneRec.core_steady z) y
  have bank : u.bankOf z = some r.cfg.bank := by
    simp only [u, State.bankOf, State.changeRecord, hr]
    simp only [Fin.getElem_fin] at hr
    simp [hr, ZoneRec.discharging]
  refine ⟨?_, fun b y => ?_, fun y hy => ?_⟩
  · rw [result]
    exact (ValvesStay.of_valves (by simp) (by simp)).onlyAllowed (began.startDischargeValves z)
  · rw [result, (State.followChange_frame _ _ _).2.2.2.2.2.2.1, State.startDischargeValves_lists bank, valves.2, ← result,
      State.discharges_iff, looks, lists b y, State.discharges_iff]
    by_cases e : z = y
    · subst e
      simp [State.look, hr, counts, ZoneCore.look, ZoneRec.core, ZoneRec.discharging]
    · simp [e, Ne.symm e]
  · have runs : s.valves.tests[y] ≠ none := by
      rw [← valves.1]
      refine u.testsWithin_startDischargeValves z y ?_
      rwa [result, (State.followChange_frame _ _ _).2.2.2.2.2.1] at hy
    obtain ⟨isolated, running⟩ := tests y runs
    refine ⟨?_, by simpa [State.isRunning, State.enterDischarge_frame] using running⟩
    rw [State.isolated_iff] at isolated ⊢
    have other : z ≠ y := by
      rintro rfl
      obtain ⟨b, look⟩ := isolated
      simp [State.look, hr, counts] at look
    rwa [looks, if_neg other]

theorem leaveDischarge (h : ValvesFollowZones s) {z : Zone} {r : ZoneRec} (hr : s.zones[z] = some r) (on : r.state = .discharge) :
    ValvesFollowZones (s.leaveDischarge z) := by
  rw [valvesFollowZones_iff] at h ⊢
  obtain ⟨allowed, lists, tests⟩ := h
  let u := s.changeRecord z .dischargeEnd fun x => { x with state := .discharged, kind := none }
  have result : s.leaveDischarge z = (u.endDischargeValves z).followChange z r := by simp only [State.leaveDischarge, hr, u]
  have valves : u.valves = s.valves ∧ u.banks = s.banks := by simp [u]
  have began : u.onlyAllowed fun _ => False := (ValvesStay.of_valves valves.1 valves.2).onlyAllowed allowed
  have looks (y : Zone) := State.look_of_change (fun i hi => s.leaveDischarge_core i hi z) y
  have bank : u.bankOf z = some r.cfg.bank := by
    simp only [u, State.bankOf, State.changeRecord, hr]
    simp only [Fin.getElem_fin] at hr
    simp [hr]
  refine ⟨?_, fun b y => ?_, fun y hy => ?_⟩
  · rw [result]
    exact (ValvesStay.of_valves (by simp) (by simp)).onlyAllowed (began.endDischargeValves z)
  · rw [result, (State.followChange_frame _ _ _).2.2.2.2.2.2.1, State.endDischargeValves_lists bank, valves.2, ← result,
      State.discharges_iff, looks, lists b y, State.discharges_iff]
    by_cases e : z = y
    · subst e
      simp [State.look, hr, ZoneCore.look, ZoneRec.core, on]
    · simp [e, Ne.symm e]
  · have runs : s.valves.tests[y] ≠ none := by
      rw [← valves.1]
      refine u.testsWithin_endDischargeValves z y ?_
      rwa [result, (State.followChange_frame _ _ _).2.2.2.2.2.1] at hy
    obtain ⟨isolated, running⟩ := tests y runs
    refine ⟨?_, by simpa [State.isRunning, State.leaveDischarge_frame] using running⟩
    rw [State.isolated_iff] at isolated ⊢
    have other : z ≠ y := by
      rintro rfl
      obtain ⟨b, look⟩ := isolated
      simp [State.look, hr, on] at look
    rwa [looks, if_neg other]

theorem testSecondStage (h : ValvesFollowZones s) (z : Zone) : ValvesFollowZones (s.testSecondStage z) := by
  rw [valvesFollowZones_iff] at h ⊢
  obtain ⟨allowed, lists, tests⟩ := h
  have looks := State.look_of_core (s := s) (t := s.testSecondStage z) (by simp)
  refine ⟨allowed.testSecondStage z, fun b y => ?_, fun y hy => ?_⟩
  · simp only [State.testSecondStage_frame, State.discharges_iff, looks]
    exact (lists b y).trans (s.discharges_iff y b)
  · obtain ⟨isolated, running⟩ := tests y (s.testsWithin_testSecondStage z y hy)
    exact ⟨by simpa only [State.isolated_iff, looks] using isolated, by simpa [State.isRunning] using running⟩

theorem beginTest (h : ValvesFollowZones s) {z : Zone} (iso : s.isolated z) (running : s.isRunning = true) :
    ValvesFollowZones (s.beginTest z) := by
  rw [valvesFollowZones_iff] at h ⊢
  obtain ⟨allowed, lists, tests⟩ := h
  have looks := State.look_of_core (s := s) (t := s.beginTest z) (by simp)
  refine ⟨?_, fun b y => ?_, fun y hy => ?_⟩
  · let u := s.setTest z (some { start := s.nowMs, stage := .first false })
    have first : u.testInFirstStage z := ⟨s.nowMs, false, by simp [u]⟩
    refine State.onlyAllowed_mono ((allowed.setTest z _).switchOn (selectorOf z)) fun o on f => .inr ?_
    obtain rfl : o = selectorOf z := f.elim (fun f => f.resolve_left id) id
    have moved := ValvesMove.switchOutput u (selectorOf z) true
    exact .inl ⟨z, rfl, .inr ((moved.first z first).resolve_right fun off =>
      absurd (on.symm.trans (moved.drive.trans off.2)) (by decide))⟩
  · simp only [State.beginTest_frame, State.discharges_iff, looks]
    exact (lists b y).trans (s.discharges_iff y b)
  · have begun := State.testsWithin_switchOutput _ _ _ y hy
    have facts : s.isolated y ∧ s.isRunning = true := by
      by_cases e : z = y
      · exact ⟨e ▸ iso, running⟩
      · have other : z.val ≠ y.val := fun x => e (Fin.ext x)
        exact tests y (by simpa [other] using begun)
    exact ⟨by simpa only [State.isolated_iff, looks] using facts.1, by simpa [State.isRunning] using facts.2⟩

theorem minOnEnd (h : ValvesFollowZones s) (bank : Bank) :
    ValvesFollowZones ((s.updBank bank fun k => { k with minOnEnd := none }).settleMainValve bank) := by
  rw [valvesFollowZones_iff] at h ⊢
  obtain ⟨allowed, lists, tests⟩ := h
  let u := s.updBank bank fun k => { k with minOnEnd := none }
  have looks := State.look_of_core (s := s) (t := u.settleMainValve bank) (by simp [u])
  have others {b : Bank} (e : bank ≠ b) : u.banks[bankIndex b] = s.banks[bankIndex b] := by
    have other : (bankIndex bank).val ≠ (bankIndex b).val := fun x => e (bankIndex_inj.1 (Fin.ext x))
    simp [u, other]
  have sets (b : Bank) : (u.banks[bankIndex b]).discharging = (s.banks[bankIndex b]).discharging := by
    by_cases e : bank = b
    · subst e; simp [u]
    · rw [others e]
  refine ⟨State.onlyAllowed.settleMainValve fun o on => ?_, fun b y => ?_, fun y hy => ?_⟩
  · obtain ⟨service, no | m⟩ := allowed o on
    · exact no.elim
    · refine ⟨service, ?_⟩
      rcases m with ⟨z, rfl, ⟨b, d⟩ | test⟩ | ⟨b, rfl, m⟩
      · exact .inr (.inl ⟨z, rfl, .inl ⟨b, (sets b).symm ▸ d⟩⟩)
      · exact .inr (.inl ⟨z, rfl, .inr test⟩)
      · by_cases e : bank = b
        · exact .inl (congrArg mainValveOf e.symm)
        · exact .inr (.inr ⟨b, rfl, (others e).symm ▸ m⟩)
  · rw [(State.settleMainValve_frame _ _).2.2.2.2.2.2.2.2.1, sets, State.discharges_iff, looks]
    exact (lists b y).trans (s.discharges_iff y b)
  · obtain ⟨isolated, running⟩ := tests y (u.testsWithin_settleMainValve bank y hy)
    rw [State.isolated_iff] at isolated ⊢
    exact ⟨by rwa [looks], by simpa [State.isRunning] using running⟩

/-- No output is ON, no zone is in DISCHARGE, no test runs. -/
theorem of_idle (outputs : ∀ o : Output, (s.valves.outputs[o]).drive = false)
    (sets : ∀ bank, (s.banks[bankIndex bank]).discharging = []) (zones : ∀ z r, s.zones[(z : Zone)] = some r → r.state ≠ .discharge)
    (tests : ∀ z : Zone, s.valves.tests[z] = none) : ValvesFollowZones s := by
  rw [valvesFollowZones_iff]
  refine ⟨fun o on => absurd (on.symm.trans (outputs o)) (by decide), fun bank z => ?_, fun z hz => absurd (tests z) hz⟩
  rw [sets]
  constructor
  · exact nofun
  · rintro ⟨r, hr, -, e⟩
    exact absurd e (zones z r hr)

theorem cleared (time : Timebase) (loader : Loader) (pending : List Instr) : ValvesFollowZones (.cleared time loader pending) := by
  refine of_idle (fun o => ?_) (fun bank => ?_) (fun z r hr => ?_) fun z => ?_
  · simp [State.cleared, Valves.cleared, OutputRec.cleared]
  · simp [State.cleared, BankRec.cleared]
  · simp [State.cleared] at hr
  · simp [State.cleared, Valves.cleared]

end ValvesFollowZones

/-- R121 to R132: every act keeps the valves with the zones. -/
theorem Act.valvesFollowZones {fit : Prop} (a : Act fit s t) (h : ValvesFollowZones s) : ValvesFollowZones t := by
  cases a with
  | quiet q =>
    have valves : ValvesStay s t :=
      ⟨fun bank => q.banks _ (bankIndex bank).isLt, fun x => by simp [q.valves],
        fun z first => by simpa only [State.testInFirstStage, q.valves] using first, fun z test => q.valves ▸ test⟩
    exact h.of_stay valves (.of_look (State.look_of_core q.zones)) q.running
  | zoneTurn z cause f r hr turn =>
    refine h.of_zones (.changeZone s z cause f fun x hx => ?_) (by simp) (by simp) (by simp)
    obtain rfl := Option.some.inj (hx.symm.trans hr)
    exact ⟨turn.cfg, turn.notDischarge.1, turn.notDischarge.2, turn.test⟩
  | joinLine z l => exact h.of_zones (.joinHoldLine s z l) (by simp) (by simp) (by simp)
  | leaveLine z l => exact h.of_zones (.leaveHoldLine s z l) (by simp) (by simp) (by simp)
  | joinAlarm z n => exact h.of_zones (.joinHoldAlarm s z n) (by simp) (by simp) (by simp)
  | leaveAlarm z n => exact h.of_zones (.leaveHoldAlarm s z n) (by simp) (by simp) (by simp)
  | clear r => exact h.of_zones (.clearAlarm s r) (by simp) (by simp) (by simp)
  | enter z r hr counts => exact h.enterDischarge hr counts
  | leave z r hr on => exact h.leaveDischarge hr on
  | feedback o new => exact h.of_stay (.feedbackReport s o new) (.of_look (State.look_of_core (by simp))) (by simp [State.isRunning])
  | fail o c => exact h.of_stay (.failCheck s o c) (.of_look (State.look_of_core (by simp))) (by simp [State.isRunning])
  | stage z => exact h.testSecondStage z
  | test z r hr iso running => exact h.beginTest ⟨r, hr, iso⟩ running
  | minOn bank => exact h.minOnEnd bank
  | reset time loader => exact .cleared time loader _
  | configure l r stopped =>
    refine ValvesFollowZones.of_idle (fun o => ?_) (fun bank => ?_) (fun z x hx => ?_) fun z => ?_
    · simp [State.configured, Records.outputs, OutputRec.cleared]
    · cases bank <;> rfl
    · obtain ⟨c, -, rfl⟩ : ∃ c, r.zones[z] = some c ∧ ZoneRec.fresh c = x := by simpa [State.configured] using hx
      exact nofun
    · obtain ⟨-, -, -, -, -, tests⟩ := h
      exact tests stopped z
  | _ =>
    exact h.of_same (by simp [State.openedUnder, State.replacedAlarm, State.modeSet])
      (by simp [State.openedUnder, State.replacedAlarm, State.modeSet])
      (by simp [State.openedUnder, State.replacedAlarm, State.modeSet])
      (by simp [State.openedUnder, State.replacedAlarm, State.modeSet])

/-- Settles O58: every act keeps the valves with the zones, so every step does. -/
theorem valvesKeepFollowingZones : Obligations.ValvesKeepFollowingZones :=
  fun _ _ hs h => step_keeps (fun _ _ a => a.valvesFollowZones) id hs h

end Sys2Proof.Machine


/-! ## What the door operations do to the door records -/

namespace Sys2Proof.Machine

/-- What bars entry to a zone: its state and its entry hold. -/
def State.stance (s : State) (z : Zone) : Option (ZoneState × Bool) := (s.zones[z]).map fun r => (r.state, r.entryHold)

def ZoneCore.stance (c : ZoneCore) : ZoneState × Bool := (c.state, c.entryHold)

theorem State.stance_eq (s : State) (z : Zone) : s.stance z = ((s.zones[z.val]).map ZoneRec.core).map ZoneCore.stance := by
  simp only [Option.map_map]
  rfl

theorem State.bars_eq (s : State) (z : Zone) : s.bars z = (s.stance z).any fun x => stateBars x.1 || x.2 := by
  simp only [State.bars, State.stance, Option.any_map]
  rfl

theorem State.zonePermits_eq (s : State) (z : Zone) (kind : GrantKind) :
    s.zonePermits z kind =
      match kind with
      | .entry | .command => !s.bars z
      | .response => !(s.stance z).any fun x => stateBarsResponse x.1
      | .exit => true := by
  cases kind with
  | response =>
    simp only [State.zonePermits, State.stance, Option.any_map]
  | _ => rfl

variable {s t : State}

theorem State.stance_of_core (e : ∀ (i : Nat) (hi : i < 8), (t.zones[i]).map ZoneRec.core = (s.zones[i]).map ZoneRec.core) (z : Zone) :
    t.stance z = s.stance z := by
  rw [State.stance_eq, State.stance_eq, e]

theorem State.bars_of_core (e : ∀ (i : Nat) (hi : i < 8), (t.zones[i]).map ZoneRec.core = (s.zones[i]).map ZoneRec.core) (z : Zone) :
    t.bars z = s.bars z := by
  rw [State.bars_eq, State.bars_eq, State.stance_of_core e]

section
variable (s : State)

@[simp] theorem State.withdrawGrant_bars (d : Door) (cause : WithdrawCause) (z : Zone) :
    (s.withdrawGrant d cause).bars z = s.bars z := State.bars_of_core (by simp) z

@[simp] theorem State.releasePlaces_bars (y : Zone) (n : Nat) (z : Zone) : (s.releasePlaces y n).bars z = s.bars z :=
  State.bars_of_core (by simp) z

@[simp] theorem State.reservePlaces_bars (y : Zone) (n : Nat) (z : Zone) : (s.reservePlaces y n).bars z = s.bars z :=
  State.bars_of_core (by simp) z

@[simp] theorem State.withdrawAtDoor_bars (d : Door) (entered : ZoneState) (z : Zone) :
    (s.withdrawAtDoor d entered).bars z = s.bars z := State.bars_of_core (by simp) z

/-- The bars are read off the zones. -/
theorem State.bars_of_zones (e : t.zones = s.zones) (z : Zone) : t.bars z = s.bars z := by simp only [State.bars, e]

@[simp] theorem State.withdrawPairing_bars (d : Door) (cause : WithdrawCause) (z : Zone) :
    (s.withdrawPairing d cause).bars z = s.bars z := State.bars_of_zones s (by simp) z

@[simp] theorem State.updDoor_bars (d : Door) (f : DoorRec → DoorRec) (z : Zone) : (s.updDoor d f).bars z = s.bars z := rfl

@[simp] theorem State.notify_bars (b : NoticeBody) (z : Zone) : (s.notify b).bars z = s.bars z :=
  State.bars_of_zones s (by simp) z

@[simp] theorem State.notifyDoor_bars (d : Door) (previous : DoorState) (cause : DoorCause) (grant : Option Grant) (z : Zone) :
    (s.notifyDoor d previous cause grant).bars z = s.bars z := State.bars_of_zones s (by simp) z

@[simp] theorem State.refreshDrive_bars (d : Door) (z : Zone) : (s.refreshDrive d).bars z = s.bars z :=
  State.bars_of_zones s (by simp) z

theorem put_eq_self {α : Type} {n : Nat} {t : Tab α n} {i : Fin n} {x : α} (h : x = t[i]) : t.put i x = t := by
  rw [h, Tab.put_self]

theorem State.withdrawPairing_doors (d : Door) (cause : WithdrawCause) :
    (s.withdrawPairing d cause).doors = s.doors.put d ((s.doors[d]).map fun r => { r with pairing := none }) := by
  unfold State.withdrawPairing
  split
  · next h =>
    refine (put_eq_self ?_).symm
    cases hr : s.doors[d] with
    | none => rfl
    | some r =>
      have none : r.pairing = none := by simpa [hr] using h
      rw [Option.map_some, ← none]
  · simp

theorem State.withdrawGrant_doors (d : Door) (cause : WithdrawCause) :
    (s.withdrawGrant d cause).doors = s.doors.put d ((s.doors[d]).map fun r => { r with grant := none }) := by
  unfold State.withdrawGrant
  split
  · next h => exact (put_eq_self (by rw [h, Option.map_none])).symm
  · next r h =>
    split
    · next none => exact (put_eq_self (by rw [h, Option.map_some, ← none])).symm
    · simp

theorem orderWithdraws_iff {entered : ZoneState} (h : stateBars entered = true) (kind : GrantKind) :
    orderWithdraws entered kind = true ↔ kind = .entry ∨ kind = .command ∨ (kind = .response ∧ entered ≠ .occupiedHold) := by
  cases kind <;> cases entered <;> simp_all [orderWithdraws, stateBars, stateBarsResponse]

theorem DoorRec.ordered_eq {entered : ZoneState} (h : stateBars entered = true) (r : DoorRec) :
    r.ordered entered = r.grant.filter fun g => orderWithdraws entered g.kind := by
  unfold DoorRec.ordered
  congr 1
  funext g
  rw [Bool.eq_iff_iff, decide_eq_true_iff, orderWithdraws_iff h]

theorem DoorRec.withdrawn_of_none {r : DoorRec} {entered : ZoneState} (h : r.ordered entered = none) :
    r.withdrawn entered = { r with pairing := none } := by
  simp only [DoorRec.withdrawn, h]

theorem DoorRec.withdrawn_of_some {r : DoorRec} {entered : ZoneState} {g : Grant} (h : r.ordered entered = some g) :
    r.withdrawn entered = { r with pairing := none, grant := none, state := .secure, withdrawnEnd := some g.expiry } := by
  simp only [DoorRec.withdrawn, h]

@[simp] theorem DoorRec.withdrawn_cfg (r : DoorRec) (entered : ZoneState) : (r.withdrawn entered).cfg = r.cfg := by
  unfold DoorRec.withdrawn
  split <;> rfl

/-- R40, R47: a withdrawal order at a door. -/
theorem State.withdrawAtDoor_doors (d : Door) {entered : ZoneState} (h : stateBars entered = true) :
    (s.withdrawAtDoor d entered).doors =
      s.doors.put d ((s.doors[d]).map fun r => (r.withdrawn entered).driven (s.bars r.cfg.inside)) := by
  cases hr : s.doors[d] with
  | none =>
    have absent : s.doors[d.val] = none := hr
    simp [State.withdrawAtDoor, State.refreshDrive_doors, State.withdrawPairing_doors, absent]
  | some r =>
    have at_d : s.doors[d.val] = some r := hr
    have first : ((s.withdrawPairing d .zoneBarred).doors[d]) = some { r with pairing := none } := by
      simp [State.withdrawPairing_doors, at_d]
    have ordered := DoorRec.ordered_eq h r
    cases hg : r.grant with
    | none =>
      rw [Option.map_some, DoorRec.withdrawn_of_none (by rw [ordered, hg, Option.filter_none])]
      simp only [State.withdrawAtDoor, first, Option.bind_some, hg, State.refreshDrive_doors]
      simp [State.withdrawPairing_doors, at_d, hg]
    | some g =>
      by_cases withdraws : orderWithdraws entered g.kind = true
      · rw [Option.map_some, DoorRec.withdrawn_of_some (ordered.trans (by simp [hg, withdraws]) : _ = some g)]
        simp only [State.withdrawAtDoor, first, Option.bind_some, hg, withdraws, if_true, State.refreshDrive_doors]
        simp [at_d, State.withdrawPairing_doors, State.withdrawGrant_doors]
      · rw [Option.map_some, DoorRec.withdrawn_of_none (ordered.trans (by simp [hg, withdraws]))]
        simp only [State.withdrawAtDoor, first, Option.bind_some, hg, if_neg withdraws, State.refreshDrive_doors]
        simp [at_d, State.withdrawPairing_doors, hg]

/-- What a sequence over distinct doors, each of which changes its own door alone and no barring, leaves of the doors. -/
theorem State.forEach_ownDoors (g : DoorRec → Bool → DoorRec) (f : Door → State → State)
    (hf : ∀ d (t : State), (f d t).doors = t.doors.put d ((t.doors[d]).map fun r => g r (t.bars r.cfg.inside)))
    (hb : ∀ d (t : State) z, (f d t).bars z = t.bars z) (l : List Door) (hl : l.Nodup) (s : State) (d : Door) :
    (s.forEach l f).doors[d] = (s.doors[d]).map fun r => if d ∈ l then g r (s.bars r.cfg.inside) else r := by
  induction l generalizing s with
  | nil => simp [State.forEach]
  | cons a l ih =>
    obtain ⟨ha, hl⟩ := List.nodup_cons.1 hl
    have := ih hl (f a s)
    simp only [State.forEach, List.foldl_cons] at this ⊢
    rw [this, hf]
    simp only [hb]
    by_cases e : a = d
    · subst e
      simp [ha, Function.comp_def]
    · have other : a.val ≠ d.val := fun x => e (Fin.ext x)
      simp [other, Ne.symm e]

theorem State.mem_doorsInto {z : Zone} {d : Door} : d ∈ s.doorsInto z ↔ ∃ r, s.doors[d] = some r ∧ r.cfg.inside = z := by
  simp only [State.doorsInto, List.mem_filter, List.mem_finRange, true_and, Option.any_eq_true, decide_eq_true_iff]

theorem State.doorsInto_nodup (z : Zone) : (s.doorsInto z).Nodup := (List.nodup_finRange 16).filter _

/-- R40, R47: a withdrawal order. -/
theorem State.withdrawalOrder_doors (z : Zone) {entered : ZoneState} (h : stateBars entered = true) (d : Door) :
    (s.withdrawalOrder z entered).doors[d] =
      (s.doors[d]).map fun r => if r.cfg.inside = z then (r.withdrawn entered).driven (s.bars z) else r := by
  unfold State.withdrawalOrder
  rw [State.forEach_ownDoors (fun r barred => (r.withdrawn entered).driven barred) _ (fun d t => t.withdrawAtDoor_doors d h)
    (fun d t z => t.withdrawAtDoor_bars d entered z) _ (s.doorsInto_nodup z)]
  cases hr : s.doors[d] with
  | none => rfl
  | some r =>
    have here : d ∈ s.doorsInto z ↔ r.cfg.inside = z := by simp [State.mem_doorsInto, hr]
    simp only [Option.map_some, here]
    split
    · next e => rw [e]
    · rfl

/-- R47, R96: the end of the barring of a zone. -/
theorem State.barringEnded_doors (z : Zone) (d : Door) :
    (s.barringEnded z).doors[d] = (s.doors[d]).map fun r => if r.cfg.inside = z then r.driven (s.bars z) else r := by
  unfold State.barringEnded
  rw [State.forEach_ownDoors (fun r barred => r.driven barred) _ (fun d t => t.refreshDrive_doors d)
    (fun d t z => t.refreshDrive_bars d z) _ (s.doorsInto_nodup z)]
  cases hr : s.doors[d] with
  | none => rfl
  | some r =>
    have here : d ∈ s.doorsInto z ↔ r.cfg.inside = z := by simp [State.mem_doorsInto, hr]
    simp only [Option.map_some, here]
    split
    · next e => rw [e]
    · rfl

/-- R36, R47: a grant lapses. -/
theorem State.lapseGrant_doors (d : Door) (r : DoorRec) (g : Grant) :
    (s.lapseGrant d r g).doors = s.doors.put d ((s.doors[d]).map fun x =>
      ({ x with grant := none, state := .secure } : DoorRec).driven (s.bars x.cfg.inside)) := by
  simp [State.lapseGrant, State.refreshDrive_doors, Function.comp_def]

/-- R43, R47: a door is lost. -/
theorem State.doorLost_doors (d : Door) (r : DoorRec) (state : DoorState) (cause : DoorCause) :
    (s.doorLost d r state cause).doors = s.doors.put d ((s.doors[d]).map fun x =>
      ({ x with
          grant := none, pairing := none, state := state, withdrawnEnd := none, openingKind := none, openSince := none,
          leftOffline := x.leftOffline || r.state == .offline } : DoorRec).driven (s.bars x.cfg.inside)) := by
  simp [State.doorLost, State.refreshDrive_doors, State.withdrawPairing_doors, State.withdrawGrant_doors, Function.comp_def]

/-- R37, R47: a door opens under its grant. -/
theorem State.openedUnder_doors (d : Door) (r : DoorRec) (stamp : Nat) :
    (s.openedUnder d r stamp).doors = s.doors.put d ((s.doors[d]).map fun x =>
      ({ x with state := .opened, openingKind := some .granted, openSince := some stamp, grant := none } : DoorRec).driven
        (s.bars x.cfg.inside)) := by
  simp [State.openedUnder, State.refreshDrive_doors, Function.comp_def]

/-- R45, R49: a door's record once a grant is installed, its drive still to be recomputed. -/
def DoorRec.installed (r : DoorRec) (g : Grant) : DoorRec :=
  { r with
    pairing := if g.kind = .exit then r.pairing else none, state := .unlocked, withdrawnEnd := none, grant := some g }

theorem State.supersedePairing_doors (d : Door) (r : DoorRec) (g : Grant) (hr : s.doors[d] = some r) :
    (s.supersedePairing d r g).doors =
      s.doors.put d (some { r with pairing := if g.kind = .exit then r.pairing else none }) := by
  have at_d : s.doors[d.val] = some r := hr
  unfold State.supersedePairing
  split
  · next none =>
    refine (put_eq_self ?_).symm
    rw [hr, ← none, ite_self]
  · split
    · exact (put_eq_self hr.symm).symm
    · dsimp only
      split <;> simp [at_d]

@[simp] theorem State.supersedePairing_bars (d : Door) (r : DoorRec) (g : Grant) (z : Zone) :
    (s.supersedePairing d r g).bars z = s.bars z := State.bars_of_zones s (by simp) z

/-- R45, R47, R49: a grant is installed. -/
theorem State.installGrant_doors (d : Door) (r : DoorRec) (kind : GrantKind) (persons : List GrantPerson) (places : Nat)
    (hr : s.doors[d] = some r) :
    (s.installGrant d r kind persons places).doors = s.doors.put d ((s.doors[d]).map fun x =>
      (x.installed ⟨kind, persons, s.nowMs + r.cfg.unlockWindow * 1000, places⟩).driven (s.bars x.cfg.inside)) := by
  have reserved : (s.reservePlaces r.cfg.inside places).doors[d] = some r := hr
  have at_d : s.doors[d.val] = some r := hr
  simp [State.installGrant, State.refreshDrive_doors, State.supersedePairing_doors _ d r _ reserved, at_d, DoorRec.installed]

end

end Sys2Proof.Machine


/-! ## R32, R34, R35, R40, R41, R96: the doors are sound -/

namespace Sys2Proof.Machine

variable {s t u : State}

theorem stateBars_of_response {x : ZoneState} (h : stateBarsResponse x = true) : stateBars x = true := by
  cases x <;> simp_all [stateBars, stateBarsResponse]

/-- What `DoorsSound` asks of a door's record by itself. -/
structure DoorRec.SoundIn (r : DoorRec) (s : State) : Prop where
  unlocked : r.state = .unlocked ↔ r.grant.isSome = true
  fits : r.Fits
  permitted (g : Grant) : r.grant = some g → s.zonePermits r.cfg.inside g.kind = true
  pairing : r.pairing.isSome = true → s.bars r.cfg.inside = false

/-- Partners name each other, and at most one of them is UNLOCKED or open under a grant. -/
def State.airlocks (s : State) : Prop :=
  ∀ d r, s.doors[(d : Door)] = some r → ∀ p, r.cfg.partner = some p →
    p ≠ d ∧ ∃ x, s.doors[p] = some x ∧ x.cfg.partner = some d ∧ ¬(r.underGrant ∧ x.underGrant)

theorem doorsSound_iff : DoorsSound s ↔ (∀ d r, s.doors[(d : Door)] = some r → r.SoundIn s) ∧ s.airlocks := by
  constructor
  · intro h
    refine ⟨fun d r hr => ?_, fun d r hr => ?_⟩
    · obtain ⟨unlocked, kind, since, window, permitted, pairing, -⟩ := h d r hr
      exact ⟨unlocked, ⟨kind, since, window⟩, permitted, pairing⟩
    · obtain ⟨-, -, -, -, -, -, partner⟩ := h d r hr
      exact partner
  · rintro ⟨sound, airlocks⟩ d r hr
    obtain ⟨unlocked, ⟨kind, since, window⟩, permitted, pairing⟩ := sound d r hr
    exact ⟨unlocked, kind, since, window, permitted, pairing, airlocks d r hr⟩

theorem State.zonePermits_of_stance {z : Zone} (e : t.stance z = s.stance z) (kind : GrantKind) :
    t.zonePermits z kind = s.zonePermits z kind := by
  simp only [State.zonePermits_eq, State.bars_eq, e]

theorem State.bars_of_stance {z : Zone} (e : t.stance z = s.stance z) : t.bars z = s.bars z := by
  simp only [State.bars_eq, e]

namespace DoorRec

variable {r x : DoorRec}

theorem Fits.of_core (e : x.core = r.core) (h : r.Fits) : x.Fits := by
  obtain ⟨-, state, -, -, kind, since, window⟩ := DoorRec.core_eq e
  exact ⟨by rw [kind, state]; exact h.kind, by rw [since, state]; exact h.since, by rw [window, state]; exact h.window⟩

/-- A door that is not open has no opening. -/
theorem Fits.closed (h : r.Fits) (opened : r.state ≠ .opened) (held : r.state ≠ .heldOpen) (forced : r.state ≠ .forced) :
    r.openingKind = none ∧ r.openSince = none :=
  ⟨by simpa using mt h.kind.1 (by tauto), by simpa using mt h.since.1 (by tauto)⟩

theorem Fits.noWindow (h : r.Fits) (state : r.state ≠ .secure) : r.withdrawnEnd = none := by simpa using mt h.window state

/-- A door without opening, not open. -/
theorem Fits.of_closed (opened : r.state ≠ .opened) (held : r.state ≠ .heldOpen) (forced : r.state ≠ .forced)
    (kind : r.openingKind = none) (since : r.openSince = none) (window : r.withdrawnEnd.isSome = true → r.state = .secure) : r.Fits :=
  ⟨by simp [kind, opened, held], by simp [since, opened, held, forced], window⟩

theorem underGrant_of_core (e : x.core = r.core) : x.underGrant ↔ r.underGrant := by
  obtain ⟨-, state, -, -, kind, -, -⟩ := DoorRec.core_eq e
  unfold DoorRec.underGrant
  rw [state, kind]

/-- What may be granted and paired at the door only grows. -/
theorem SoundIn.mono (h : r.SoundIn s) (permits : ∀ kind, s.zonePermits r.cfg.inside kind = true → t.zonePermits r.cfg.inside kind = true)
    (bars : s.bars r.cfg.inside = false → t.bars r.cfg.inside = false) : r.SoundIn t :=
  ⟨h.unlocked, h.fits, fun g hg => permits _ (h.permitted g hg), fun hp => bars (h.pairing hp)⟩

theorem SoundIn.of_core (e : x.core = r.core) (h : r.SoundIn s) : x.SoundIn s := by
  obtain ⟨cfg, state, grant, pairing, -, -, -⟩ := DoorRec.core_eq e
  refine ⟨by rw [state, grant]; exact h.unlocked, h.fits.of_core e, ?_, ?_⟩
  · rw [grant, cfg]; exact h.permitted
  · rw [pairing, cfg]; exact h.pairing

theorem SoundIn.of_stance (h : r.SoundIn s) (e : ∀ z, t.stance z = s.stance z) : r.SoundIn t :=
  h.mono (fun kind hk => (State.zonePermits_of_stance (e _) kind).trans hk) fun hb => (State.bars_of_stance (e _)).trans hb

@[simp] theorem driven_soundIn (b : Bool) : (r.driven b).SoundIn s ↔ r.SoundIn s :=
  ⟨.of_core (r.driven_core b).symm, .of_core (r.driven_core b)⟩

@[simp] theorem driven_underGrant (b : Bool) : (r.driven b).underGrant ↔ r.underGrant := underGrant_of_core (r.driven_core b)

@[simp] theorem driven_cfg (b : Bool) : (r.driven b).cfg = r.cfg := (core_eq (r.driven_core b)).1

/-- A door without grant and pairing record, not UNLOCKED. -/
theorem SoundIn.bare (state : r.state ≠ .unlocked) (grant : r.grant = none) (pairing : r.pairing = none) (fits : r.Fits) :
    r.SoundIn s :=
  ⟨by simp [state, grant], fits, by simp [grant], by simp [pairing]⟩

end DoorRec

theorem State.installRefusal_none {r : DoorRec} {kind : GrantKind} : s.installRefusal r kind = none ↔
    r.state = .secure ∧ r.grant = none ∧ s.partnerSecure r.cfg = true ∧ s.zonePermits r.cfg.inside kind = true := by
  have faulty : r.state.faulty = true → r.state ≠ .secure := by
    cases r.state <;> decide
  simp only [State.installRefusal, Bool.or_eq_true, bne_iff_ne, Option.isSome_iff_ne_none, Bool.not_eq_true', ite_eq_iff, reduceCtorEq,
    and_false, false_or, and_true, Bool.not_eq_false, not_or, not_not]
  have := fun e : r.state = .secure => mt faulty (not_not.2 e)
  tauto

theorem State.secure_of_partnerSecure {cfg : DoorCfg} (h : s.partnerSecure cfg = true) {p : Door} (hp : cfg.partner = some p)
    {y : DoorRec} (hy : s.doors[p] = some y) : y.state = .secure := by
  have at_p : s.doors[p.val] = some y := hy
  simpa [State.partnerSecure, State.doorState, hp, at_p] using h

/-- R40: what a withdrawal order leaves at a door may stand. -/
theorem DoorRec.SoundIn.withdrawn {r : DoorRec} (h : r.SoundIn s) {entered : ZoneState} (barring : stateBars entered = true) {hold : Bool}
    (stance : t.stance r.cfg.inside = some (entered, hold)) : (r.withdrawn entered).cfg = r.cfg ∧
      ((r.withdrawn entered).underGrant → r.underGrant ∨
        ∀ p y, r.cfg.partner = some p → t.doors[p] = some y → ¬y.underGrant) ∧ (r.withdrawn entered).SoundIn t := by
  refine ⟨r.withdrawn_cfg entered, ?_⟩
  have ordered := DoorRec.ordered_eq barring r
  cases ho : r.ordered entered with
  | none =>
    rw [DoorRec.withdrawn_of_none ho]
    refine ⟨.inl, h.unlocked, ⟨h.fits.kind, h.fits.since, h.fits.window⟩, fun g hg => ?_, nofun⟩
    have stands : orderWithdraws entered g.kind = false := by
      rw [ho, show r.grant = some g from hg] at ordered
      simpa using ordered.symm
    rw [State.zonePermits_eq, State.bars_eq, stance]
    cases hk : g.kind <;> simp_all [orderWithdraws]
  | some g =>
    rw [DoorRec.withdrawn_of_some ho]
    have granted : r.grant.isSome = true := by
      rw [ordered, Option.filter_eq_some_iff] at ho
      rw [ho.1, Option.isSome_some]
    have unlocked := h.unlocked.2 granted
    obtain ⟨kind, since⟩ := h.fits.closed (by simp [unlocked]) (by simp [unlocked]) (by simp [unlocked])
    exact ⟨fun u => absurd u (by simp [DoorRec.underGrant]),
      .bare nofun rfl rfl (.of_closed nofun nofun nofun kind since fun _ => rfl)⟩

/-- From `s` to `t` every door keeps its configuration, comes under a grant only where its partner is not, and is sound. -/
structure DoorsFollow (s t : State) : Prop where
  absent (d : Door) (h : s.doors[d] = none) : t.doors[d] = none
  present (d : Door) (r : DoorRec) (hr : s.doors[d] = some r) : ∃ x, t.doors[d] = some x ∧ x.cfg = r.cfg ∧
    (x.underGrant → r.underGrant ∨ ∀ p y, r.cfg.partner = some p → t.doors[p] = some y → ¬y.underGrant) ∧ x.SoundIn t

namespace DoorsSound

theorem of_follow (h : DoorsSound s) (f : DoorsFollow s t) : DoorsSound t := by
  have before {d : Door} {x : DoorRec} (hx : t.doors[d] = some x) : ∃ r, s.doors[d] = some r := by
    cases hr : s.doors[d] with
    | none => rw [f.absent d hr] at hx; cases hx
    | some r => exact ⟨r, rfl⟩
  rw [doorsSound_iff] at h ⊢
  refine ⟨fun d x hx => ?_, fun d x hx p hp => ?_⟩
  · obtain ⟨r, hr⟩ := before hx
    obtain ⟨y, hy, -, -, sound⟩ := f.present d r hr
    exact Option.some.inj (hy.symm.trans hx) ▸ sound
  · obtain ⟨r, hr⟩ := before hx
    obtain ⟨x', hx', cfg, under, -⟩ := f.present d r hr
    obtain rfl := Option.some.inj (hx'.symm.trans hx)
    rw [cfg] at hp
    obtain ⟨ne, q, hq, back, one⟩ := h.2 d r hr p hp
    obtain ⟨y, hy, cfg', under', -⟩ := f.present p q hq
    refine ⟨ne, y, hy, by rw [cfg', back], fun ⟨a, b⟩ => ?_⟩
    rcases under a with a' | alone
    · rcases under' b with b' | alone
      · exact one ⟨a', b'⟩
      · exact alone d x' back hx a
    · exact alone p y hp hy b

/-- The doors and the zones' stances stand. -/
theorem of_same (h : DoorsSound s) (doors : ∀ (i : Nat) (hi : i < 16), (t.doors[i]).map DoorRec.core = (s.doors[i]).map DoorRec.core)
    (stances : ∀ z, t.stance z = s.stance z) : DoorsSound t := by
  refine h.of_follow ⟨fun d hd => ?_, fun d r hr => ?_⟩
  · have like := doors d.val d.isLt
    rw [show s.doors[d.val] = none from hd] at like
    simpa using like
  · obtain ⟨x, hx, e⟩ := exists_like (doors d.val d.isLt).symm hr
    exact ⟨x, hx, (DoorRec.core_eq e).1.symm, fun u => .inl ((DoorRec.underGrant_of_core e).2 u),
      (((doorsSound_iff.1 h).1 d r hr).of_core e.symm).of_stance stances⟩

/-- One door changes; the zones' stances stand. -/
theorem of_door (h : DoorsSound s) {d : Door} {f : DoorRec → DoorRec} (doors : t.doors = s.doors.put d ((s.doors[d]).map f))
    (stances : ∀ z, t.stance z = s.stance z)
    (hf : ∀ r, s.doors[d] = some r → r.SoundIn s → (f r).cfg = r.cfg ∧
      ((f r).underGrant → r.underGrant ∨ ∀ p y, p ≠ d → r.cfg.partner = some p → s.doors[p] = some y → ¬y.underGrant) ∧
      (f r).SoundIn s) : DoorsSound t := by
  have own : t.doors[d] = (s.doors[d]).map f := by simp [doors]
  have other {e : Door} (he : e ≠ d) : t.doors[e] = s.doors[e] := by
    have : d.val ≠ e.val := fun x => he (Fin.ext x.symm)
    simp [doors, this]
  rw [doorsSound_iff] at h
  refine (doorsSound_iff.2 h).of_follow ⟨fun e he => ?_, fun e r hr => ?_⟩
  · by_cases same : e = d
    · subst same; rw [own, he, Option.map_none]
    · rw [other same, he]
  · by_cases same : e = d
    · subst same
      obtain ⟨cfg, under, sound⟩ := hf r hr (h.1 e r hr)
      refine ⟨f r, by rw [own, hr, Option.map_some], cfg, fun u => (under u).imp_right fun alone p y hp hy => ?_,
        sound.of_stance stances⟩
      obtain ⟨ne, -⟩ := h.2 e r hr p hp
      exact alone p y ne hp ((other ne).symm.trans hy)
    · exact ⟨r, by rw [other same, hr], rfl, .inl, (h.1 e r hr).of_stance stances⟩

/-- A zone changes, nobody's barring beginning but by its state, and the doors follow. -/
theorem followChange (h : DoorsSound s) {z : Zone} {r : ZoneRec} (hr : s.zones[z] = some r) (doors : u.doors = s.doors)
    (others : ∀ y, y ≠ z → u.stance y = s.stance y)
    (hold : ∀ state hold, u.stance z = some (state, hold) → hold = true → r.entryHold = true) :
    DoorsSound (u.followChange z r) := by
  have stances (y : Zone) : (u.followChange z r).stance y = u.stance y := State.stance_of_core (by simp) y
  rw [doorsSound_iff] at h
  have kept {y : Zone} (hy : y ≠ z) : (u.followChange z r).stance y = s.stance y := (stances y).trans (others y hy)
  have bars_z : s.bars z = zoneBars r := by simp only [State.bars, hr, Option.any_some]
  by_cases enters : ∃ x, u.zones[z] = some x ∧ stateBars x.state = true ∧ x.state ≠ r.state
  · obtain ⟨x, hx, barring, changed⟩ := enters
    have stance : (u.followChange z r).stance z = some (x.state, x.entryHold) := by
      rw [stances, State.stance, hx, Option.map_some]
    have table (d : Door) : (u.followChange z r).doors[d] =
        (s.doors[d]).map fun y => if y.cfg.inside = z then (y.withdrawn x.state).driven (u.bars z) else y := by
      rw [← doors, ← u.withdrawalOrder_doors z barring]
      simp only [State.followChange, hx, barring, Bool.true_and, bne_iff_ne, ne_eq, changed, not_false_eq_true, if_true,
        State.refreshPanel_frame]
    refine (doorsSound_iff.2 h).of_follow ⟨fun d hd => by rw [table, hd, Option.map_none], fun d y hy => ?_⟩
    refine ⟨_, by rw [table, hy, Option.map_some], ?_⟩
    by_cases into : y.cfg.inside = z
    · rw [if_pos into, DoorRec.driven_cfg, DoorRec.driven_underGrant, DoorRec.driven_soundIn]
      exact (h.1 d y hy).withdrawn barring (by rw [into, stance])
    · rw [if_neg into]
      exact ⟨rfl, .inl, (h.1 d y hy).mono (fun kind => by rw [State.zonePermits_of_stance (kept into)]; exact id)
        (by rw [State.bars_of_stance (kept into)]; exact id)⟩
  · have table (i : Nat) (hi : i < 16) :
        ((u.followChange z r).doors[i]).map DoorRec.core = (s.doors[i]).map DoorRec.core := by
      rw [← doors]
      unfold State.followChange
      split
      · rfl
      · next x hx =>
        have stays : (stateBars x.state && x.state != r.state) = false := by
          by_contra both
          simp only [Bool.not_eq_false, Bool.and_eq_true, bne_iff_ne] at both
          exact enters ⟨x, hx, both⟩
        simp only [stays, Bool.false_eq_true, if_false, State.refreshPanel_frame]
        split
        · exact u.barringEnded_core i hi z
        · rfl
    have stance (x : ZoneRec) (hx : u.zones[z] = some x) : (stateBars x.state = true → x.state = r.state) ∧
        (x.entryHold = true → r.entryHold = true) := by
      refine ⟨fun bars => ?_, hold x.state x.entryHold (by rw [State.stance, hx, Option.map_some])⟩
      by_contra changed
      exact enters ⟨x, hx, bars, changed⟩
    have barred (b : u.bars z = true) : s.bars z = true := by
      obtain ⟨x, hx, bars⟩ := (Option.any_eq_true _ _).1 b
      rw [bars_z, zoneBars, Bool.or_eq_true]
      rw [zoneBars, Bool.or_eq_true] at bars
      exact bars.imp (fun state => (stance x hx).1 state ▸ state) (stance x hx).2
    have response (b : (u.stance z).any (fun x => stateBarsResponse x.1) = true) :
        (s.stance z).any (fun x => stateBarsResponse x.1) = true := by
      rw [State.stance, Option.any_map] at b ⊢
      obtain ⟨x, hx, bars⟩ := (Option.any_eq_true _ _).1 b
      have same : x.state = r.state := (stance x hx).1 (stateBars_of_response bars)
      exact (Option.any_eq_true _ _).2 ⟨r, hr, same ▸ bars⟩
    refine (doorsSound_iff.2 h).of_follow ⟨fun d hd => ?_, fun d y hy => ?_⟩
    · have like := table d.val d.isLt
      rw [show s.doors[d.val] = none from hd] at like
      simpa using like
    · obtain ⟨x, hx, like⟩ := exists_like (table d.val d.isLt).symm hy
      refine ⟨x, hx, (DoorRec.core_eq like).1.symm, fun b => .inl ((DoorRec.underGrant_of_core like).2 b),
        ((h.1 d y hy).mono (fun kind permits => ?_) fun free => ?_).of_core like.symm⟩
      · by_cases into : y.cfg.inside = z
        · rw [into] at permits ⊢
          rw [State.zonePermits_of_stance (stances z)]
          rw [State.zonePermits_eq] at permits ⊢
          cases kind with
          | response =>
            simp only [Bool.not_eq_true'] at permits ⊢
            exact Bool.eq_false_iff.2 (mt response (Bool.eq_false_iff.1 permits))
          | exit => rfl
          | _ =>
            simp only [Bool.not_eq_true'] at permits ⊢
            exact Bool.eq_false_iff.2 (mt barred (Bool.eq_false_iff.1 permits))
        · rwa [State.zonePermits_of_stance (kept into)]
      · by_cases into : y.cfg.inside = z
        · rw [into] at free ⊢
          rw [State.bars_of_stance (stances z)]
          exact Bool.eq_false_iff.2 (mt barred (Bool.eq_false_iff.1 free))
        · rwa [State.bars_of_stance (kept into)]

theorem changeZone (h : DoorsSound s) (z : Zone) (cause : ZoneCause) (f : ZoneRec → ZoneRec)
    (hf : ∀ r, s.zones[z] = some r → (f r).entryHold = true → r.entryHold = true) : DoorsSound (s.changeZone z cause f) := by
  unfold State.changeZone
  split
  · exact h
  · next r hr =>
    have stance (y : Zone) := State.stance_eq (s.changeRecord z cause f) y
    simp only [State.changeRecord_view] at stance
    refine h.followChange hr (by simp) (fun y hy => ?_) fun state hold e => ?_
    · have other : z.val ≠ y.val := fun x => hy (Fin.ext x.symm)
      rw [stance, if_neg other, ← State.stance_eq]
    · rw [stance, if_pos rfl] at e
      have at_z : s.zones[z.val] = some r := hr
      simp only [at_z, Option.map_some, ZoneCore.stance, ZoneRec.core, Option.some.injEq, Prod.mk.injEq] at e
      exact e.2 ▸ hf r hr

theorem updZone (h : DoorsSound s) (z : Zone) (f : ZoneRec → ZoneRec)
    (hf : ∀ r, (f r).state = r.state ∧ (f r).entryHold = r.entryHold) : DoorsSound (s.updZone z f) := by
  refine h.of_same (fun _ _ => rfl) fun y => ?_
  simp only [State.stance, State.updZone_zones, Fin.getElem_fin, Tab.getElem_put]
  split
  · next e =>
    rw [← Fin.ext e]
    cases s.zones[z.val] <;> simp [hf]
  · rfl

theorem afterJoin (h : DoorsSound s) (z : Zone) : DoorsSound (s.afterJoin z) := by
  unfold State.afterJoin
  split
  · exact h.changeZone z _ _ fun _ _ hold => hold
  · exact h

theorem afterLeave (h : DoorsSound s) (z : Zone) : DoorsSound (s.afterLeave z) := by
  unfold State.afterLeave
  split
  · exact h.changeZone z _ _ fun _ _ hold => hold
  · exact h

theorem join (h : DoorsSound s) (z : Zone) (f : ZoneRec → ZoneRec)
    (hf : ∀ r, (f r).state = r.state ∧ (f r).entryHold = r.entryHold) : DoorsSound ((s.updZone z f).afterJoin z) :=
  (h.updZone z f hf).afterJoin z

theorem leave (h : DoorsSound s) (z : Zone) (f : ZoneRec → ZoneRec)
    (hf : ∀ r, (f r).state = r.state ∧ (f r).entryHold = r.entryHold) : DoorsSound ((s.updZone z f).afterLeave z) :=
  (h.updZone z f hf).afterLeave z

theorem leaveHoldAlarm (h : DoorsSound s) (z : Zone) (n : Nat) : DoorsSound (s.leaveHoldAlarm z n) :=
  h.leave z _ fun _ => ⟨rfl, rfl⟩

theorem clearAlarm (h : DoorsSound s) (r : AlarmRec) : DoorsSound (s.clearAlarm r) := by
  have told : DoorsSound ((s.dropAlarm r).notifyChanged r .cleared) :=
    h.of_same (by simp) (State.stance_of_core (by simp))
  have left : DoorsSound (((s.dropAlarm r).notifyChanged r .cleared).leaveAlarm r) := by
    unfold State.leaveAlarm
    repeat' split
    · exact told.leaveHoldAlarm _ _
    · exact told
    · exact told
  exact left.of_same (by simp [State.clearAlarm]) (State.stance_of_core (by simp [State.clearAlarm]))

theorem enterDischarge (h : DoorsSound s) (z : Zone) : DoorsSound (s.enterDischarge z) := by
  unfold State.enterDischarge
  split
  · exact h
  · next r hr =>
    have stance (y : Zone) := State.stance_eq ((s.changeRecord z .countdownEnd (·.discharging s.nowMs)).startDischargeValves z) y
    simp only [State.startDischargeValves_view _ _ _ ZoneRec.core_steady, State.changeRecord_view] at stance
    refine h.followChange hr (by simp) (fun y hy => ?_) fun state hold e => ?_
    · have other : z.val ≠ y.val := fun x => hy (Fin.ext x.symm)
      rw [stance, if_neg other, ← State.stance_eq]
    · rw [stance, if_pos rfl] at e
      have at_z : s.zones[z.val] = some r := hr
      simp only [at_z, Option.map_some, ZoneCore.stance, ZoneRec.core, Option.some.injEq, Prod.mk.injEq] at e
      exact fun on => e.2.trans on

theorem leaveDischarge (h : DoorsSound s) (z : Zone) : DoorsSound (s.leaveDischarge z) := by
  unfold State.leaveDischarge
  split
  · exact h
  · next r hr =>
    have stance (y : Zone) := State.stance_eq
      ((s.changeRecord z .dischargeEnd fun x => { x with state := .discharged, kind := none }).endDischargeValves z) y
    simp only [State.endDischargeValves_view _ _ _ ZoneRec.core_steady, State.changeRecord_view] at stance
    refine h.followChange hr (by simp) (fun y hy => ?_) fun state hold e => ?_
    · have other : z.val ≠ y.val := fun x => hy (Fin.ext x.symm)
      rw [stance, if_neg other, ← State.stance_eq]
    · rw [stance, if_pos rfl] at e
      have at_z : s.zones[z.val] = some r := hr
      simp only [at_z, Option.map_some, ZoneCore.stance, ZoneRec.core, Option.some.injEq, Prod.mk.injEq] at e
      exact fun on => e.2.trans on

theorem openedUnder (h : DoorsSound s) {d : Door} {r : DoorRec} (like : s.doorLike d r) (unlocked : r.state = .unlocked) (stamp : Nat) :
    DoorsSound (s.openedUnder d r stamp) := by
  refine h.of_door (s.openedUnder_doors d r stamp) (State.stance_of_core (by simp [State.openedUnder])) fun x hx sound => ?_
  obtain ⟨y, hy, core⟩ := like
  obtain rfl := Option.some.inj (hy.symm.trans hx)
  have state : y.state = .unlocked := (DoorRec.core_eq core).2.1.trans unlocked
  have window := sound.fits.noWindow (by simp [state])
  rw [DoorRec.driven_cfg, DoorRec.driven_underGrant, DoorRec.driven_soundIn]
  exact ⟨rfl, fun _ => .inl (.inl state), by simp, ⟨by simp, by simp, by simp [window]⟩, nofun, sound.pairing⟩

theorem cleared (time : Timebase) (loader : Loader) (pending : List Instr) : DoorsSound (.cleared time loader pending) := by
  intro d r hr
  simp [State.cleared] at hr

/-- The doors as configured. -/
theorem configured (s : State) (r : Records) : DoorsSound (s.configured r) := by
  let fresh (d : Door) (c : DoorCfg) : DoorRec :=
    .fresh { c with partner := r.settledPartner d c } (r.lineWith (.doorContact d)) (r.lineWith (.egressHandle d)) (r.settledModule d c)
  have table (d : Door) : (s.configured r).doors[d] = (r.doors[d]).map (fresh d) := by
    simp [State.configured, Records.doorRecs, fresh]
  have shut (d : Door) (c : DoorCfg) : (fresh d c).state ≠ .unlocked ∧ (fresh d c).state ≠ .opened ∧ (fresh d c).state ≠ .heldOpen ∧
      (fresh d c).state ≠ .forced := by
    simp only [fresh, DoorRec.fresh]
    split <;> decide
  refine doorsSound_iff.2 ⟨fun d x hx => ?_, fun d x hx p hp => ?_⟩
  · rw [table] at hx
    obtain ⟨c, -, rfl⟩ := Option.map_eq_some_iff.1 hx
    obtain ⟨unlocked, opened, held, forced⟩ := shut d c
    exact .bare unlocked rfl rfl (.of_closed opened held forced rfl rfl nofun)
  · rw [table] at hx
    obtain ⟨c, hc, rfl⟩ := Option.map_eq_some_iff.1 hx
    obtain ⟨named, other⟩ := Option.filter_eq_some_iff.1 (show r.settledPartner d c = some p from hp)
    simp only [Bool.and_eq_true, bne_iff_ne, Option.any_eq_true, decide_eq_true_iff] at other
    obtain ⟨ne, q, hq, back⟩ := other
    refine ⟨ne, fresh p q, by rw [table, hq, Option.map_some], ?_, fun both => ?_⟩
    · show r.settledPartner p q = some d
      have at_d : r.doors[d.val] = some c := hc
      simp [Records.settledPartner, back, at_d, named, Ne.symm ne]
    · obtain ⟨unlocked, opened, held, -⟩ := shut d c
      simp [DoorRec.underGrant, unlocked, opened, held] at both

end DoorsSound

/-- R32 to R41, R96: every act keeps the doors sound. -/
theorem Act.doorsSound {fit : Prop} (a : Act fit s t) (h : DoorsSound s) : DoorsSound t := by
  cases a with
  | quiet q => exact h.of_same q.doors (State.stance_of_core q.zones)
  | door d f keeps =>
    refine h.of_door (State.updDoor_doors ..) (fun _ => rfl) fun r _ sound => ?_
    obtain ⟨cfg, state, grant, kind, since, window, pairing⟩ := keeps r
    refine ⟨cfg, fun u => .inl (by simpa only [DoorRec.underGrant, state, kind] using u), ?_, ?_, ?_, ?_⟩
    · rw [state, grant]; exact sound.unlocked
    · exact ⟨by rw [kind, state]; exact sound.fits.kind, by rw [since, state]; exact sound.fits.since,
        fun w => state.trans (sound.fits.window (window w))⟩
    · rw [grant, cfg]; exact sound.permitted
    · rw [cfg]; exact fun p => sound.pairing (pairing p)
  | doorTurn d r f hr turn =>
    refine h.of_door (State.updDoor_doors ..) (fun _ => rfl) fun x hx sound => ?_
    obtain rfl := Option.some.inj (hx.symm.trans hr)
    obtain ⟨cfg, grant, pairing, locked, fits, under⟩ := turn
    refine ⟨cfg, fun u => .inl (under sound.fits u), ?_, fits sound.fits, ?_, ?_⟩
    · rw [grant, ← sound.unlocked]
      exact ⟨fun e => absurd e locked.2, fun e => absurd e locked.1⟩
    · rw [grant, cfg]; exact sound.permitted
    · rw [pairing, cfg]; exact sound.pairing
  | pair d r p hr free =>
    refine h.of_door (State.updDoor_doors ..) (fun _ => rfl) fun x hx sound => ?_
    obtain rfl := Option.some.inj (hx.symm.trans hr)
    exact ⟨rfl, .inl, sound.unlocked, ⟨sound.fits.kind, sound.fits.since, sound.fits.window⟩, sound.permitted, fun _ => free⟩
  | install d r kind persons places hr free =>
    refine h.of_door (s.installGrant_doors d r kind persons places hr) (State.stance_of_core (by simp)) fun x hx sound => ?_
    obtain rfl := Option.some.inj (hx.symm.trans hr)
    obtain ⟨secure, -, alone, permits⟩ := State.installRefusal_none.1 free
    obtain ⟨kind', since⟩ := sound.fits.closed (by simp [secure]) (by simp [secure]) (by simp [secure])
    rw [DoorRec.driven_cfg, DoorRec.driven_underGrant, DoorRec.driven_soundIn]
    refine ⟨rfl, fun _ => .inr fun p y _ hp hy => ?_, by simp [DoorRec.installed], .of_closed nofun nofun nofun kind' since nofun, ?_, ?_⟩
    · have := State.secure_of_partnerSecure alone hp hy
      simp [DoorRec.underGrant, this]
    · rintro g ⟨⟩
      exact permits
    · intro paired
      by_cases exit : kind = .exit
      · exact sound.pairing (by simpa [DoorRec.installed, exit] using paired)
      · simp [DoorRec.installed, exit] at paired
  | lapse d r g hr hg unlocked =>
    refine h.of_door (s.lapseGrant_doors d r g) (State.stance_of_core (by simp)) fun x hx sound => ?_
    obtain rfl := Option.some.inj (hx.symm.trans hr)
    obtain ⟨kind, since⟩ := sound.fits.closed (by simp [unlocked]) (by simp [unlocked]) (by simp [unlocked])
    have window := sound.fits.noWindow (by simp [unlocked])
    rw [DoorRec.driven_cfg, DoorRec.driven_underGrant, DoorRec.driven_soundIn]
    exact ⟨rfl, fun u => absurd u (by simp [DoorRec.underGrant]), by simp, .of_closed nofun nofun nofun kind since fun _ => rfl, nofun,
      sound.pairing⟩
  | lose d r state cause hr lost =>
    refine h.of_door (s.doorLost_doors d r state cause) (State.stance_of_core (by simp)) fun x hx sound => ?_
    have shut : state ≠ .unlocked ∧ state ≠ .opened ∧ state ≠ .heldOpen ∧ state ≠ .forced := by
      rcases lost with rfl | rfl <;> decide
    obtain ⟨unlocked, opened, held, forced⟩ := shut
    rw [DoorRec.driven_cfg, DoorRec.driven_underGrant, DoorRec.driven_soundIn]
    exact ⟨rfl, fun u => absurd u (by simp [DoorRec.underGrant, unlocked, opened, held]),
      .bare unlocked rfl rfl (.of_closed opened held forced rfl rfl nofun)⟩
  | openUnder d r stamp like unlocked => exact h.openedUnder like unlocked stamp
  | openSeated d r stamp g like unlocked =>
    exact (h.openedUnder like unlocked stamp).of_same (by simp) (State.stance_of_core (by simp))
  | zoneTurn z cause f r hr turn =>
    refine h.changeZone z cause f fun x hx => ?_
    obtain rfl := Option.some.inj (hx.symm.trans hr)
    exact turn.entryHold
  | joinLine z l => exact h.join z _ fun _ => ⟨rfl, rfl⟩
  | leaveLine z l => exact h.leave z _ fun _ => ⟨rfl, rfl⟩
  | joinAlarm z n => exact h.join z _ fun _ => ⟨rfl, rfl⟩
  | leaveAlarm z n => exact h.leaveHoldAlarm z n
  | clear r => exact h.clearAlarm r
  | enter z => exact h.enterDischarge z
  | leave z => exact h.leaveDischarge z
  | reset time loader => exact .cleared time loader _
  | configure l r => exact .configured _ r
  | _ => exact h.of_same (by simp [State.replacedAlarm, State.modeSet]) (State.stance_of_core (by simp [State.replacedAlarm, State.modeSet]))

/-- Settles O59: every act keeps the doors sound, so every step does. -/
theorem doorsAreSound : Obligations.DoorsAreSound :=
  fun _ _ hs h => step_keeps (fun _ _ a => a.doorsSound) id hs h

end Sys2Proof.Machine


/-! ## The entries an event of the Occupancy Unit leaves -/

namespace Sys2Proof.Machine

theorem OccEvent.remove_entries (ev : OccEvent) (e : Entry) (cause : OccCause) :
    (ev.remove e cause).state.occupancy.entries = ev.state.occupancy.entries.filter (·.person != e.person) := rfl

theorem OccEvent.make_entries (ev : OccEvent) (e : Entry) (cause : OccCause) :
    (ev.make e cause).state.occupancy.entries = ev.state.occupancy.entries ++ [e] := rfl

theorem OccEvent.uncertain_entries (ev : OccEvent) (z : Zone) (cause : OccCause) :
    (ev.uncertain z cause).state.occupancy.entries = ev.state.occupancy.entries := by
  unfold OccEvent.uncertain
  split <;> rfl

theorem Occupancy.entryOf_eq_none {o : Occupancy} {p : Person} : o.entryOf p = none ↔ ∀ e ∈ o.entries, e.person ≠ p := by
  simp [Occupancy.entryOf]

theorem Occupancy.entryOf_person {o : Occupancy} {p : Person} {e : Entry} (h : o.entryOf p = some e) : e.person = p := by
  simpa using List.find?_some h

theorem Occupancy.entryOf_mem {o : Occupancy} {p : Person} {e : Entry} (h : o.entryOf p = some e) : e ∈ o.entries :=
  List.mem_of_find?_eq_some h

/-- Removing the entries of a person without one changes nothing. -/
theorem Occupancy.filter_of_entryOf_none {o : Occupancy} {p : Person} (h : o.entryOf p = none) :
    o.entries.filter (·.person != p) = o.entries := by
  rw [List.filter_eq_self]
  simpa using Occupancy.entryOf_eq_none.1 h

/-- An entry is made of what stands outside the occupancy. -/
theorem State.commitEntry_of_sansOccupancy {s t : State} (e : t.sansOccupancy = s.sansOccupancy) (d : Door) (cfg : DoorCfg)
    (persons : List GrantPerson) (g : GrantPerson) : t.commitEntry d cfg persons g = s.commitEntry d cfg persons g :=
  have same : t.sansOccupancy.commitEntry d cfg persons g = s.sansOccupancy.commitEntry d cfg persons g := by rw [e]
  same

/-- R80: the entries after the commit of one person: an earlier entry of the person is gone, and the new one stands last. -/
theorem OccEvent.commitPerson_entries (ev : OccEvent) (d : Door) (cfg : DoorCfg) (persons : List GrantPerson) (g : GrantPerson) :
    (ev.commitPerson d cfg persons g).state.occupancy.entries =
      ev.state.occupancy.entries.filter (·.person != g.person) ++ [ev.state.commitEntry d cfg persons g] := by
  unfold OccEvent.commitPerson
  dsimp only
  have gone {e : Entry} (h : ev.state.occupancy.entryOf g.person = some e) (cause : OccCause) :
      (ev.remove e cause).state.occupancy.entries = ev.state.occupancy.entries.filter (·.person != g.person) := by
    rw [OccEvent.remove_entries, Occupancy.entryOf_person h]
  split
  · next h =>
    rw [OccEvent.make_entries, Occupancy.filter_of_entryOf_none h]
  · next e h =>
    repeat' split
    · rw [OccEvent.make_entries, gone h]; rfl
    · rw [OccEvent.make_entries, gone h]; rfl
    · have same : ((ev.remove e .moved).uncertain e.zone .moved).state.sansOccupancy = ev.state.sansOccupancy :=
        OccEvent.uncertain_sansOccupancy _ _ _
      rw [OccEvent.make_entries, OccEvent.uncertain_entries, gone h, State.commitEntry_of_sansOccupancy same]

/-- R80: one entry after another, each in place of the person's earlier one. -/
def enterAll (entries : List Entry) (news : List Entry) : List Entry :=
  news.foldl (fun l e => l.filter (·.person != e.person) ++ [e]) entries

/-- R80: the entries after a commit. -/
theorem State.seatEvent_entries (s : State) (d : Door) (cfg : DoorCfg) (g : Grant) :
    (s.seatEvent d cfg g).state.occupancy.entries =
      enterAll s.occupancy.entries (g.persons.map (s.commitEntry d cfg g.persons)) := by
  have run (l : List GrantPerson) (ev : OccEvent) (h : ev.state.sansOccupancy = s.sansOccupancy) :
      (l.foldl (fun ev p => ev.commitPerson d cfg g.persons p) ev).state.occupancy.entries =
        enterAll ev.state.occupancy.entries (l.map (s.commitEntry d cfg g.persons)) := by
    induction l generalizing ev with
    | nil => rfl
    | cons p l ih =>
      rw [List.foldl_cons, ih _ ((ev.commitPerson_sansOccupancy d cfg g.persons p).trans h), ev.commitPerson_entries,
        State.commitEntry_of_sansOccupancy h]
      rfl
  exact run g.persons _ rfl

theorem OccEvent.uncertain_reserved (ev : OccEvent) (z : Zone) (cause : OccCause) :
    (ev.uncertain z cause).state.occupancy.reserved = ev.state.occupancy.reserved := by
  unfold OccEvent.uncertain
  split <;> rfl

/-- R78: a commit releases the places of its grant. -/
theorem State.seatEvent_reserved (s : State) (d : Door) (cfg : DoorCfg) (g : Grant) :
    (s.seatEvent d cfg g).state.occupancy.reserved =
      s.occupancy.reserved.put cfg.inside (s.occupancy.reserved[cfg.inside] - g.places) := by
  refine (OccEvent.foldl_keeps g.persons (fun ev p => ev.commitPerson d cfg g.persons p) (·.occupancy.reserved) (fun ev p => ?_) _).trans rfl
  unfold OccEvent.commitPerson
  dsimp only
  repeat' split
  · rfl
  · rfl
  · rfl
  · exact OccEvent.uncertain_reserved _ _ _

/-- R79: the entries of some persons leave. -/
theorem OccEvent.removeAll_entries (l : List Entry) (cause : OccCause) (ev : OccEvent) :
    (l.foldl (fun ev e => ev.remove e cause) ev).state.occupancy.entries =
      ev.state.occupancy.entries.filter fun x => x.person ∉ l.map (·.person) := by
  induction l generalizing ev with
  | nil => simp
  | cons e l ih =>
    rw [List.foldl_cons, ih, OccEvent.remove_entries, List.filter_filter]
    refine List.filter_congr fun x _ => ?_
    by_cases h : x.person = e.person <;> simp [h]

/-- R84: the entries after a sweep: those of the other zones, but for the listed persons, and then a fresh one for each listed person. -/
theorem State.sweepEvent_entries (s : State) (z : Zone) (persons : List Person) :
    (s.sweepEvent z persons).state.occupancy.entries =
      (s.occupancy.entries.filter fun x => x.person ∉ (s.occupancy.entriesIn z).map (·.person) ∧ x.person ∉ persons) ++
        persons.map (s.sweepEntry s.occupancy z) := by
  have makes (l : List Person) (ev : OccEvent) (h : ev.state.sansOccupancy = s.sansOccupancy) :
      (l.foldl (fun ev p => ev.make (ev.state.sweepEntry s.occupancy z p) .sweep) ev).state.occupancy.entries =
        ev.state.occupancy.entries ++ l.map (s.sweepEntry s.occupancy z) := by
    induction l generalizing ev with
    | nil => simp
    | cons p l ih =>
      have same : ev.state.sansOccupancy.sweepEntry s.occupancy z p = s.sansOccupancy.sweepEntry s.occupancy z p := by rw [h]
      rw [List.foldl_cons, ih _ (by exact h), OccEvent.make_entries, List.map_cons, List.append_assoc,
        show ev.state.sweepEntry s.occupancy z p = s.sweepEntry s.occupancy z p from same]
      rfl
  let swept := (s.occupancy.entriesIn z).foldl (fun ev e => ev.remove e .sweep) (s.occEvent.touch z .sweep persons)
  let moved := (persons.filterMap fun p => swept.state.occupancy.entryOf p).foldl (fun ev e => ev.remove e .moved) swept
  have same : moved.state.sansOccupancy = s.sansOccupancy :=
    (OccEvent.foldl_keeps _ (fun ev e => ev.remove e .moved) State.sansOccupancy (fun _ _ => rfl) _).trans
      (OccEvent.foldl_keeps _ (fun ev e => ev.remove e .sweep) State.sansOccupancy (fun _ _ => rfl) _)
  have first : swept.state.occupancy.entries =
      s.occupancy.entries.filter fun x => x.person ∉ (s.occupancy.entriesIn z).map (·.person) := OccEvent.removeAll_entries _ _ _
  have second : moved.state.occupancy.entries = swept.state.occupancy.entries.filter fun x => x.person ∉ persons := by
    refine (OccEvent.removeAll_entries _ _ _).trans (List.filter_congr fun x hx => ?_)
    rw [decide_eq_decide, not_iff_not]
    simp only [List.mem_map, List.mem_filterMap]
    constructor
    · rintro ⟨e, ⟨p, hp, he⟩, same⟩
      rwa [← same, Occupancy.entryOf_person he]
    · intro hp
      cases he : swept.state.occupancy.entryOf x.person with
      | none => exact absurd rfl (Occupancy.entryOf_eq_none.1 he x hx)
      | some e => exact ⟨e, ⟨x.person, hp, he⟩, Occupancy.entryOf_person he⟩
  refine (makes persons moved same).trans ?_
  rw [second, first, List.filter_filter]
  congr 1
  exact List.filter_congr fun x _ => by rw [Bool.and_comm, Bool.decide_and]

/-- R78: an installed grant's places are reserved. -/
theorem State.installGrant_occupancy (s : State) (d : Door) (r : DoorRec) (kind : GrantKind) (persons : List GrantPerson) (places : Nat) :
    (s.installGrant d r kind persons places).occupancy = { s.occupancy with
      reserved := s.occupancy.reserved.put r.cfg.inside (s.occupancy.reserved[r.cfg.inside] + places) } := by
  simp [State.installGrant]
  rfl

/-- R84: a sweep leaves the reserved places. -/
theorem State.sweepEvent_reserved (s : State) (z : Zone) (persons : List Person) :
    (s.sweepEvent z persons).state.occupancy.reserved = s.occupancy.reserved := by
  have removes (l : List Entry) (cause : OccCause) (ev : OccEvent) :
      (l.foldl (fun ev e => ev.remove e cause) ev).state.occupancy.reserved = ev.state.occupancy.reserved :=
    OccEvent.foldl_keeps l (fun ev e => ev.remove e cause) (·.occupancy.reserved) (fun _ _ => rfl) ev
  have makes (l : List Person) (f : OccEvent → Person → Entry) (ev : OccEvent) :
      (l.foldl (fun ev p => ev.make (f ev p) .sweep) ev).state.occupancy.reserved = ev.state.occupancy.reserved :=
    OccEvent.foldl_keeps l (fun ev p => ev.make (f ev p) .sweep) (·.occupancy.reserved) (fun _ _ => rfl) ev
  exact (makes _ _ _).trans ((removes _ _ _).trans (removes _ _ _))

end Sys2Proof.Machine


/-! ## R34, R78, R79, R86: entries, reserved places and limits -/

namespace Sys2Proof.Machine

/-! ### Sums over tables -/

theorem toList_sum {n : Nat} (v : Tab Nat n) : v.toList.sum = ∑ i : Fin n, v[i] := by
  have : v.toList = List.ofFn fun i : Fin n => v[i] := List.ext_getElem (by simp) fun i h _ => by simp
  rw [this, List.sum_ofFn]

/-- The sum of the others is the same. -/
theorem sum_change {n : Nat} {f g : Fin n → Nat} (i : Fin n) (h : ∀ j, j ≠ i → g j = f j) :
    (∑ j, g j) + f i = (∑ j, f j) + g i := by
  have new := Finset.add_sum_erase Finset.univ g (Finset.mem_univ i)
  have old := Finset.add_sum_erase Finset.univ f (Finset.mem_univ i)
  have others : ∑ j ∈ Finset.univ.erase i, g j = ∑ j ∈ Finset.univ.erase i, f j :=
    Finset.sum_congr rfl fun j hj => h j (Finset.ne_of_mem_erase hj)
  omega

theorem sum_put {n : Nat} (v : Tab Nat n) (i : Fin n) (x : Nat) : (v.put i x).toList.sum + v[i] = v.toList.sum + x := by
  rw [toList_sum, toList_sum]
  have := sum_change (f := fun j => v[j]) (g := fun j => (v.put i x)[j]) i fun j hj => by
    have : i.val ≠ j.val := fun e => hj (Fin.ext e.symm)
    simp [this]
  simpa using this

theorem sum_le {n : Nat} {v w : Tab Nat n} (h : ∀ i : Fin n, v[i] ≤ w[i]) : v.toList.sum ≤ w.toList.sum := by
  rw [toList_sum, toList_sum]
  exact Finset.sum_le_sum fun i _ => h i

/-! ### The places of the grants -/

variable {s t u : State}

/-- A zone's limit. -/
def State.limit (s : State) (z : Zone) : Option Nat := (s.zones[z]).map (·.cfg.limit)

/-- The inside zone of a door and its grant. -/
def State.seat (s : State) (d : Door) : Option (Zone × Option Grant) := (s.doors[d]).map fun r => (r.cfg.inside, r.grant)

theorem State.limit_of_core (e : ∀ (i : Nat) (hi : i < 8), (t.zones[i]).map ZoneRec.core = (s.zones[i]).map ZoneRec.core) (z : Zone) :
    t.limit z = s.limit z := by
  have := congrArg (Option.map fun c : ZoneCore => c.cfg.limit) (e z.val z.isLt)
  simp only [Option.map_map] at this
  exact this

theorem State.seat_of_core (e : ∀ (i : Nat) (hi : i < 16), (t.doors[i]).map DoorRec.core = (s.doors[i]).map DoorRec.core) (d : Door) :
    t.seat d = s.seat d := by
  have := congrArg (Option.map fun c : DoorCore => (c.cfg.inside, c.grant)) (e d.val d.isLt)
  simp only [Option.map_map] at this
  exact this

theorem State.seat_of_put {d : Door} {f : DoorRec → DoorRec} (e : t.doors = s.doors.put d ((s.doors[d]).map f))
    (hf : ∀ r, s.doors[d] = some r → (f r).cfg = r.cfg ∧ (f r).grant = r.grant) (x : Door) : t.seat x = s.seat x := by
  by_cases same : d = x
  · subst same
    simp only [State.seat, e, Fin.getElem_fin, Tab.getElem_put, if_true]
    cases hr : s.doors[d.val] with
    | none => rfl
    | some r =>
      obtain ⟨cfg, grant⟩ := hf r hr
      simp [cfg, grant]
  · have : d.val ≠ x.val := fun h => same (Fin.ext h)
    simp [State.seat, e, this]

/-- R78: the places that a grant at the door holds in zone `z`. -/
def DoorRec.placesInto (r : DoorRec) (z : Zone) : Nat := if r.cfg.inside = z then (r.grant.map (·.places)).getD 0 else 0

def State.doorPlaces (s : State) (d : Door) (z : Zone) : Nat := ((s.doors[d]).map (·.placesInto z)).getD 0

theorem State.grantPlaces_eq (s : State) (z : Zone) : s.grantPlaces z = ∑ d, s.doorPlaces d z := by
  unfold State.grantPlaces
  rw [Fin.sum_univ_def]
  congr 1
  refine List.map_congr_left fun d _ => ?_
  unfold State.doorPlaces
  cases s.doors[d] <;> rfl

theorem State.grantPlaces_of_seat (e : ∀ d, t.seat d = s.seat d) (z : Zone) : t.grantPlaces z = s.grantPlaces z := by
  rw [State.grantPlaces_eq, State.grantPlaces_eq]
  refine Finset.sum_congr rfl fun d _ => ?_
  have := congrArg (Option.map fun c : Zone × Option Grant => if c.1 = z then (c.2.map (·.places)).getD 0 else 0) (e d)
  simp only [State.seat, Option.map_map] at this
  exact congrArg (·.getD 0) this

/-- Another door's places bear on no change. -/
theorem State.grantPlaces_change {d : Door} (h : ∀ e, e ≠ d → t.doors[e] = s.doors[e]) (z : Zone) :
    t.grantPlaces z + s.doorPlaces d z = s.grantPlaces z + t.doorPlaces d z := by
  rw [State.grantPlaces_eq, State.grantPlaces_eq]
  exact sum_change (f := fun e => s.doorPlaces e z) (g := fun e => t.doorPlaces e z) d fun e he => by
    unfold State.doorPlaces
    rw [h e he]

theorem State.doorPlaces_le (s : State) (d : Door) (z : Zone) : s.doorPlaces d z ≤ s.grantPlaces z := by
  rw [State.grantPlaces_eq]
  exact Finset.single_le_sum (f := fun d => s.doorPlaces d z) (fun _ _ => Nat.zero_le _) (Finset.mem_univ d)

/-! ### The parts of `OccupancySound` -/

/-- R79, R86: one entry a person, each with a deadline exactly in AFTER mode. -/
structure EntriesSound (entries : List Entry) (modes : Tab Mode 8) : Prop where
  distinct : entries.Pairwise fun a b => a.person ≠ b.person
  deadlines (e : Entry) (h : e ∈ entries) : e.deadline.isSome = true ↔ modes[e.zone] = .after

/-- R78: the entries and reserved places of a zone are within its limit, and those of all zones within 64. -/
structure State.WithinLimits (s : State) : Prop where
  zone (z : Zone) (r : ZoneRec) (hr : s.zones[z] = some r) : (s.occupancy.entriesIn z).length + s.occupancy.reserved[z] ≤ r.cfg.limit
  total : s.occupancy.entries.length + s.occupancy.reserved.toList.sum ≤ 64

/-- R78: a zone's reserved places are those of the grants into it. -/
def State.placesHeld (s : State) : Prop := ∀ z : Zone, s.occupancy.reserved[z] = s.grantPlaces z

def State.emptyBefore (s : State) : Prop := s.isRunning = false → s.occupancy.entries = [] ∧ ∀ d : Door, s.doors[d] = none

theorem occupancySound_iff : OccupancySound s ↔
    EntriesSound s.occupancy.entries s.schedules.modes ∧ s.WithinLimits ∧ s.placesHeld ∧ s.placesFit ∧ s.emptyBefore :=
  ⟨fun ⟨a, b, c, d, e, f, g⟩ => ⟨⟨a, b⟩, ⟨c, d⟩, e, f, g⟩, fun ⟨⟨a, b⟩, ⟨c, d⟩, e, f, g⟩ => ⟨a, b, c, d, e, f, g⟩⟩

theorem State.WithinLimits.of_less (h : s.WithinLimits) (limits : ∀ z : Zone, t.limit z = s.limit z)
    (entries : t.occupancy.entries = s.occupancy.entries) (reserved : ∀ z : Zone, t.occupancy.reserved[z] ≤ s.occupancy.reserved[z]) :
    t.WithinLimits := by
  refine ⟨fun z x hx => ?_, ?_⟩
  · obtain ⟨r, hr, same⟩ := exists_like (limits z) hx
    have before := h.zone z r hr
    have in_z : t.occupancy.entriesIn z = s.occupancy.entriesIn z := by simp only [Occupancy.entriesIn, entries]
    have less := reserved z
    rw [in_z, same]
    omega
  · have before := h.total
    have less := sum_le reserved
    rw [entries]
    omega

/-- From `s` to `t` the entries stand and grants at most go, each with its places. -/
structure Releases (s t : State) : Prop where
  entries : t.occupancy.entries = s.occupancy.entries
  modes : t.schedules.modes = s.schedules.modes
  limits (z : Zone) : t.limit z = s.limit z
  running : t.isRunning = s.isRunning
  absent (d : Door) (h : s.doors[d] = none) : t.doors[d] = none
  grants (d : Door) (x : DoorRec) (g : Grant) (hx : t.doors[d] = some x) (hg : x.grant = some g) :
    ∃ r, s.doors[d] = some r ∧ r.grant = some g
  reserved (z : Zone) : t.occupancy.reserved[z] ≤ s.occupancy.reserved[z]
  held (h : s.placesHeld) : t.placesHeld

theorem Releases.trans (a : Releases s t) (b : Releases t u) : Releases s u where
  entries := b.entries.trans a.entries
  modes := b.modes.trans a.modes
  limits z := (b.limits z).trans (a.limits z)
  running := b.running.trans a.running
  absent d h := b.absent d (a.absent d h)
  grants d x g hx hg := by
    obtain ⟨r, hr, hg⟩ := b.grants d x g hx hg
    exact a.grants d r g hr hg
  reserved z := (b.reserved z).trans (a.reserved z)
  held h := b.held (a.held h)

theorem OccupancySound.of_releases (h : OccupancySound s) (a : Releases s t) : OccupancySound t := by
  rw [occupancySound_iff] at h ⊢
  obtain ⟨entries, limits, held, fit, empty⟩ := h
  refine ⟨by rw [a.entries, a.modes]; exact entries, limits.of_less a.limits a.entries a.reserved, a.held held,
    fun d x g hx hg => ?_, fun stopped => ?_⟩
  · obtain ⟨r, hr, hg⟩ := a.grants d x g hx hg
    exact fit d r g hr hg
  · obtain ⟨none, doors⟩ := empty (a.running ▸ stopped)
    exact ⟨a.entries.trans none, fun d => a.absent d (doors d)⟩

/-- Doors keep their grants, zones their limits, and the occupancy stands. -/
theorem Releases.of_same (entries : t.occupancy.entries = s.occupancy.entries) (reserved : t.occupancy.reserved = s.occupancy.reserved)
    (modes : t.schedules.modes = s.schedules.modes) (running : t.isRunning = s.isRunning) (limits : ∀ z, t.limit z = s.limit z)
    (seats : ∀ d, t.seat d = s.seat d) : Releases s t where
  entries := entries
  modes := modes
  limits := limits
  running := running
  absent d h := by
    have like := seats d
    simpa [State.seat, show s.doors[d.val] = none from h] using like
  grants d x g hx hg := by
    obtain ⟨r, hr, like⟩ := exists_like (seats d) hx
    exact ⟨r, hr, (Prod.mk.inj like).2.symm.trans hg⟩
  reserved z := by rw [reserved]
  held h z := by rw [reserved, h z, State.grantPlaces_of_seat seats]

/-- One door loses its grant, whose places are released. -/
theorem Releases.release {d : Door} {r : DoorRec} (hr : s.doors[d] = some r) (f : DoorRec → DoorRec)
    (grant : (f r).grant = none) {n : Nat} (hn : n = (r.grant.map (·.places)).getD 0) :
    Releases s ((s.updDoor d f).releasePlaces r.cfg.inside n) := by
  have at_d : s.doors[d.val] = some r := hr
  have own : ((s.updDoor d f).releasePlaces r.cfg.inside n).doors[d] = some (f r) := by simp [at_d]
  have others (e : Door) (he : e ≠ d) : ((s.updDoor d f).releasePlaces r.cfg.inside n).doors[e] = s.doors[e] := by
    have : d.val ≠ e.val := fun x => he (Fin.ext x.symm)
    simp [this]
  have reserved (z : Zone) : ((s.updDoor d f).releasePlaces r.cfg.inside n).occupancy.reserved[z] =
      if r.cfg.inside = z then s.occupancy.reserved[z] - n else s.occupancy.reserved[z] := by
    by_cases e : r.cfg.inside = z
    · subst e; simp [State.releasePlaces]
    · have : r.cfg.inside.val ≠ z.val := fun x => e (Fin.ext x)
      simp [State.releasePlaces, this, e]
  refine ⟨by simp, by simp, fun z => ?_, by simp [State.isRunning], fun e he => ?_, fun e x g hx hg => ?_, fun z => ?_, fun h z => ?_⟩
  · exact State.limit_of_core (by simp) z
  · have ne : e ≠ d := by rintro rfl; rw [hr] at he; cases he
    rw [others e ne, he]
  · by_cases same : e = d
    · subst same
      obtain rfl := Option.some.inj (own.symm.trans hx)
      rw [grant] at hg; cases hg
    · exact ⟨x, (others e same).symm.trans hx, hg⟩
  · rw [reserved]
    split <;> omega
  · have change := State.grantPlaces_change others z
    have before : s.doorPlaces d z = if r.cfg.inside = z then n else 0 := by
      unfold State.doorPlaces
      rw [hr, hn]; rfl
    have after : ((s.updDoor d f).releasePlaces r.cfg.inside n).doorPlaces d z = 0 := by
      unfold State.doorPlaces
      rw [own]
      simp [DoorRec.placesInto, grant]
    rw [reserved, h z]
    rw [before, after] at change
    by_cases e : r.cfg.inside = z
    · rw [if_pos e] at change ⊢
      omega
    · rw [if_neg e] at change ⊢
      omega

theorem Releases.refl (s : State) : Releases s s := .of_same rfl rfl rfl rfl (fun _ => rfl) fun _ => rfl

theorem Releases.notify (s : State) (b : NoticeBody) : Releases s (s.notify b) :=
  .of_same (by simp) (by simp) (by simp) (by simp [State.isRunning]) (State.limit_of_core (by simp)) (State.seat_of_core (by simp))

theorem Releases.refreshDrive (s : State) (d : Door) : Releases s (s.refreshDrive d) :=
  .of_same (by simp) (by simp) (by simp) (by simp [State.isRunning]) (State.limit_of_core (by simp)) (State.seat_of_core (by simp))

theorem Releases.notifyDoor (s : State) (d : Door) (previous : DoorState) (cause : DoorCause) (grant : Option Grant) :
    Releases s (s.notifyDoor d previous cause grant) :=
  .of_same (by simp) (by simp) (by simp) (by simp [State.isRunning]) (State.limit_of_core (by simp)) (State.seat_of_core (by simp))

theorem Releases.updDoor (s : State) (d : Door) (f : DoorRec → DoorRec)
    (hf : ∀ r, s.doors[d] = some r → (f r).cfg = r.cfg ∧ (f r).grant = r.grant) : Releases s (s.updDoor d f) :=
  .of_same rfl rfl rfl rfl (fun _ => rfl) (State.seat_of_put (State.updDoor_doors ..) hf)

theorem Releases.withdrawGrant (s : State) (d : Door) (cause : WithdrawCause) : Releases s (s.withdrawGrant d cause) := by
  unfold State.withdrawGrant
  split
  · exact .refl s
  · next r hr =>
    split
    · exact .refl s
    · next g hg =>
      exact (Releases.release hr (fun x => { x with grant := none }) rfl (n := g.places) (by simp [hg])).trans (.notify _ _)

theorem Releases.withdrawPairing (s : State) (d : Door) (cause : WithdrawCause) : Releases s (s.withdrawPairing d cause) :=
  .of_same (by simp) (by simp) (by simp) (by simp [State.isRunning]) (State.limit_of_core (by simp))
    (State.seat_of_put (s.withdrawPairing_doors d cause) fun _ _ => ⟨rfl, rfl⟩)

theorem Releases.withdrawAtDoor (s : State) (d : Door) (entered : ZoneState) : Releases s (s.withdrawAtDoor d entered) := by
  unfold State.withdrawAtDoor
  dsimp only
  refine Releases.trans ?_ (.refreshDrive _ d)
  have first := Releases.withdrawPairing s d .zoneBarred
  repeat' split
  · exact first
  · exact ((first.trans (.withdrawGrant _ d _)).trans (.updDoor _ d _ (by intros; exact ⟨rfl, rfl⟩))).trans (.notifyDoor _ _ _ _ _)
  · exact first

theorem Releases.withdrawalOrder (s : State) (z : Zone) (entered : ZoneState) : Releases s (s.withdrawalOrder z entered) :=
  State.forEach_induct (Releases s) s _ _ (fun d _ t ht => ht.trans (.withdrawAtDoor t d entered)) (.refl s)

theorem Releases.followChange (s : State) (z : Zone) (r : ZoneRec) : Releases s (s.followChange z r) := by
  have shown (t : State) : Releases t (t.refreshPanel z) :=
    .of_same (by simp) (by simp) (by simp) (by simp [State.isRunning]) (State.limit_of_core (by simp)) (State.seat_of_core (by simp))
  unfold State.followChange
  split
  · exact .refl s
  · refine Releases.trans ?_ (shown _)
    repeat' split
    · exact .withdrawalOrder s z _
    · exact .of_same (by simp) (by simp) (by simp) (by simp [State.isRunning]) (State.limit_of_core (by simp)) (State.seat_of_core (by simp))
    · exact .refl s

theorem Releases.lapseGrant {d : Door} {r : DoorRec} {g : Grant} (hr : s.doors[d] = some r) (hg : r.grant = some g) :
    Releases s (s.lapseGrant d r g) :=
  ((Releases.release hr (fun x => { x with grant := none, state := .secure }) rfl (n := g.places) (by simp [hg])).trans
    (.refreshDrive _ d)).trans (.notifyDoor _ _ _ _ _)

theorem Releases.doorLost (s : State) (d : Door) (r : DoorRec) (state : DoorState) (cause : DoorCause) :
    Releases s (s.doorLost d r state cause) :=
  ((((Releases.withdrawGrant s d _).trans (.withdrawPairing _ d _)).trans (.updDoor _ d _ (by intros; exact ⟨rfl, rfl⟩))).trans
    (.refreshDrive _ d)).trans (.notifyDoor _ _ _ _ _)

end Sys2Proof.Machine


/-! ## R34, R78, R79, R86: the occupancy is sound -/

namespace Sys2Proof.Machine

variable {s t u : State}

/-! ### Zones -/

theorem Releases.changeRecord (s : State) (z : Zone) (cause : ZoneCause) (f : ZoneRec → ZoneRec)
    (hf : ∀ r, s.zones[z] = some r → (f r).cfg = r.cfg) : Releases s (s.changeRecord z cause f) := by
  refine .of_same (by simp) (by simp) (by simp) (by simp [State.isRunning]) (fun y => ?_) (State.seat_of_core (by simp))
  have core := s.changeRecord_view y.val y.isLt (view := ZoneRec.core) z cause f
  have := congrArg (Option.map fun c : ZoneCore => c.cfg.limit) core
  split at this
  · next e =>
    obtain rfl := Fin.ext e
    simp only [Option.map_map] at this
    refine Eq.trans this ?_
    unfold State.limit
    cases hr : s.zones[z.val] with
    | none => rfl
    | some r => exact congrArg (fun c : ZoneCfg => some c.limit) (hf r hr)
  · simp only [Option.map_map] at this
    exact this

theorem Releases.changeZone (s : State) (z : Zone) (cause : ZoneCause) (f : ZoneRec → ZoneRec)
    (hf : ∀ r, s.zones[z] = some r → (f r).cfg = r.cfg) : Releases s (s.changeZone z cause f) := by
  unfold State.changeZone
  split
  · exact .refl s
  · exact (Releases.changeRecord s z cause f hf).trans (.followChange _ z _)

theorem Releases.updZone (s : State) (z : Zone) (f : ZoneRec → ZoneRec) (hf : ∀ r, (f r).cfg = r.cfg) : Releases s (s.updZone z f) := by
  refine .of_same rfl rfl rfl rfl (fun y => ?_) fun _ => rfl
  simp only [State.limit, State.updZone_zones, Fin.getElem_fin, Tab.getElem_put]
  split
  · next e =>
    rw [← Fin.ext e]
    cases s.zones[z.val] <;> simp [hf]
  · rfl

theorem Releases.afterJoin (s : State) (z : Zone) : Releases s (s.afterJoin z) := by
  unfold State.afterJoin
  split
  · exact .changeZone s z _ _ fun _ _ => rfl
  · exact .refl s

theorem Releases.afterLeave (s : State) (z : Zone) : Releases s (s.afterLeave z) := by
  unfold State.afterLeave
  split
  · exact .changeZone s z _ _ fun _ _ => rfl
  · exact .refl s

theorem Releases.join (s : State) (z : Zone) (f : ZoneRec → ZoneRec) (hf : ∀ r, (f r).cfg = r.cfg) :
    Releases s ((s.updZone z f).afterJoin z) := (Releases.updZone s z f hf).trans (.afterJoin _ z)

theorem Releases.leave (s : State) (z : Zone) (f : ZoneRec → ZoneRec) (hf : ∀ r, (f r).cfg = r.cfg) :
    Releases s ((s.updZone z f).afterLeave z) := (Releases.updZone s z f hf).trans (.afterLeave _ z)

theorem Releases.leaveHoldAlarm (s : State) (z : Zone) (n : Nat) : Releases s (s.leaveHoldAlarm z n) :=
  Releases.leave s z _ (by intros; rfl)

theorem Releases.clearAlarm (s : State) (r : AlarmRec) : Releases s (s.clearAlarm r) := by
  have told : Releases s ((s.dropAlarm r).notifyChanged r .cleared) :=
    .of_same (by simp) (by simp) (by simp) (by simp [State.isRunning]) (State.limit_of_core (by simp)) (State.seat_of_core (by simp))
  have left : Releases s (((s.dropAlarm r).notifyChanged r .cleared).leaveAlarm r) := by
    unfold State.leaveAlarm
    repeat' split
    · exact told.trans (.leaveHoldAlarm _ _ _)
    · exact told
    · exact told
  exact left.trans (.of_same (by simp [State.clearAlarm]) (by simp [State.clearAlarm]) (by simp [State.clearAlarm])
    (by simp [State.clearAlarm, State.isRunning]) (State.limit_of_core (by simp [State.clearAlarm]))
    (State.seat_of_core (by simp [State.clearAlarm])))

theorem Releases.enterDischarge (s : State) (z : Zone) : Releases s (s.enterDischarge z) := by
  unfold State.enterDischarge
  split
  · exact .refl s
  · have valves (u : State) : Releases u (u.startDischargeValves z) :=
      .of_same (by simp) (by simp) (by simp) (by simp [State.isRunning]) (State.limit_of_core (by simp)) (State.seat_of_core (by simp))
    exact ((Releases.changeRecord s z _ _ (by intros; rfl)).trans (valves _)).trans (.followChange _ z _)

theorem Releases.leaveDischarge (s : State) (z : Zone) : Releases s (s.leaveDischarge z) := by
  unfold State.leaveDischarge
  split
  · exact .refl s
  · have valves (u : State) : Releases u (u.endDischargeValves z) :=
      .of_same (by simp) (by simp) (by simp) (by simp [State.isRunning]) (State.limit_of_core (by simp)) (State.seat_of_core (by simp))
    exact ((Releases.changeRecord s z _ _ (by intros; rfl)).trans (valves _)).trans (.followChange _ z _)

/-! ### Entries -/

theorem EntriesSound.sublist {l m : List Entry} {modes : Tab Mode 8} (h : EntriesSound l modes) (sub : m.Sublist l) : EntriesSound m modes :=
  ⟨h.distinct.sublist sub, fun e he => h.deadlines e (sub.mem he)⟩

/-- R79: a person has one entry. -/
theorem EntriesSound.unique {l : List Entry} {modes : Tab Mode 8} (h : EntriesSound l modes) {a b : Entry} (ha : a ∈ l) (hb : b ∈ l)
    (e : a.person = b.person) : a = b :=
  have persons : (l.map (·.person)).Nodup := List.pairwise_map.2 h.distinct
  List.inj_on_of_nodup_map persons ha hb e

/-- R79: an entry joins those of the other persons. -/
theorem EntriesSound.enter {l : List Entry} {modes : Tab Mode 8} (h : EntriesSound l modes) {e : Entry}
    (he : e.deadline.isSome = true ↔ modes[e.zone] = .after) : EntriesSound (l.filter (·.person != e.person) ++ [e]) modes := by
  have others := h.sublist (m := l.filter (·.person != e.person)) List.filter_sublist
  refine ⟨List.pairwise_append.2 ⟨others.distinct, List.pairwise_singleton _ _, fun a ha b hb => ?_⟩, fun x hx => ?_⟩
  · obtain rfl := List.mem_singleton.1 hb
    simpa using (List.mem_filter.1 ha).2
  · rcases List.mem_append.1 hx with hx | hx
    · exact others.deadlines x hx
    · obtain rfl := List.mem_singleton.1 hx
      exact he

theorem EntriesSound.enterAll {l : List Entry} {modes : Tab Mode 8} (h : EntriesSound l modes) {news : List Entry}
    (hn : ∀ e ∈ news, e.deadline.isSome = true ↔ modes[e.zone] = .after) : EntriesSound (enterAll l news) modes := by
  induction news generalizing l with
  | nil => exact h
  | cons e news ih =>
    exact ih (h.enter (hn e List.mem_cons_self)) fun x hx => hn x (List.mem_cons_of_mem _ hx)

theorem enterAll_length (l news : List Entry) : (enterAll l news).length ≤ l.length + news.length := by
  induction news generalizing l with
  | nil => exact Nat.le_refl _
  | cons e news ih =>
    have := ih (l.filter (·.person != e.person) ++ [e])
    have := List.length_filter_le (·.person != e.person) l
    simp only [enterAll, List.foldl_cons, List.length_cons, List.length_append, List.length_nil] at *
    omega

/-- Entries of one zone are entered. -/
theorem enterAll_filter_length (l news : List Entry) (z y : Zone) (hn : ∀ e ∈ news, e.zone = z) :
    ((enterAll l news).filter (·.zone = y)).length ≤ (l.filter (·.zone = y)).length + if z = y then news.length else 0 := by
  induction news generalizing l with
  | nil => simp [enterAll]
  | cons e news ih =>
    have := ih (l.filter (·.person != e.person) ++ [e]) fun x hx => hn x (List.mem_cons_of_mem _ hx)
    have less : ((l.filter (·.person != e.person)).filter (·.zone = y)).length ≤ (l.filter (·.zone = y)).length :=
      (List.filter_sublist.filter _).length_le
    have here := hn e List.mem_cons_self
    simp only [enterAll, List.foldl_cons, List.filter_append, List.length_append] at this ⊢
    by_cases same : z = y
    · simp [here, same, -List.filter_filter] at this ⊢
      omega
    · simp [here, same, -List.filter_filter] at this ⊢
      omega

theorem State.newDeadline_isSome (s : State) (z : Zone) : (s.newDeadline z).isSome = true ↔ s.schedules.modes[z] = .after := by
  unfold State.newDeadline
  split
  · next after => exact iff_of_true rfl after
  · next working => exact iff_of_false (by decide) working

/-! ### The acts -/

namespace OccupancySound

/-- R49, R78: a grant is installed with its places. -/
theorem installGrant (h : OccupancySound s) {d : Door} {r : DoorRec} {kind : GrantKind} {persons : List GrantPerson} {places : Nat}
    (hr : s.doors[d] = some r) (refused : s.installRefusal r kind = none)
    (fits : places = if kind = .entry ∨ kind = .response then persons.length else 0)
    (free : places ≠ 0 → s.placesFree r.cfg.inside places = true) : OccupancySound (s.installGrant d r kind persons places) := by
  rw [occupancySound_iff] at h ⊢
  obtain ⟨entries, limits, held, fit, empty⟩ := h
  let t := s.installGrant d r kind persons places
  let g : Grant := ⟨kind, persons, s.nowMs + r.cfg.unlockWindow * 1000, places⟩
  let x := (r.installed g).driven (s.bars r.cfg.inside)
  have occupancy : t.occupancy = { s.occupancy with
      reserved := s.occupancy.reserved.put r.cfg.inside (s.occupancy.reserved[r.cfg.inside] + places) } :=
    s.installGrant_occupancy d r kind persons places
  have own : t.doors[d] = some x := by
    have at_d : s.doors[d.val] = some r := hr
    simp [t, s.installGrant_doors d r kind persons places hr, at_d, g, x]
  have others (e : Door) (he : e ≠ d) : t.doors[e] = s.doors[e] := by
    have : d.val ≠ e.val := fun x => he (Fin.ext x.symm)
    simp [t, s.installGrant_doors d r kind persons places hr, this]
  obtain ⟨cfg, -, grant, -⟩ := DoorRec.core_eq ((r.installed g).driven_core (s.bars r.cfg.inside))
  have reserved (z : Zone) : t.occupancy.reserved[z] =
      s.occupancy.reserved[z] + if r.cfg.inside = z then places else 0 := by
    by_cases e : r.cfg.inside = z
    · subst e; simp [occupancy]
    · have : r.cfg.inside.val ≠ z.val := fun x => e (Fin.ext x)
      simp [occupancy, this, e]
  have sameEntries : t.occupancy.entries = s.occupancy.entries := by rw [occupancy]
  have room (z : ZoneRec) (hz : s.zones[r.cfg.inside] = some z) (some : places ≠ 0) :
      (s.occupancy.entriesIn r.cfg.inside).length + s.occupancy.reserved[r.cfg.inside] + places ≤ z.cfg.limit := by
    have := free some
    simp only [State.placesFree, hz, Bool.and_eq_true, decide_eq_true_iff] at this
    exact this.1
  have total : s.occupancy.entries.length + s.occupancy.reserved.toList.sum + places ≤ 64 := by
    by_cases none : places = 0
    · have := limits.total
      omega
    · have := free none
      unfold State.placesFree at this
      split at this
      · exact absurd this (by decide)
      · simp only [Bool.and_eq_true, decide_eq_true_iff] at this
        exact this.2
  refine ⟨by rw [sameEntries, (State.installGrant_frame ..).2.2.2.2.1]; exact entries, ⟨fun z x hx => ?_, ?_⟩, fun z => ?_,
    fun e y k hy hk => ?_, fun stopped => ?_⟩
  · obtain ⟨y, hy, same⟩ := exists_like (State.limit_of_core (t := t) (s := s) (by simp [t]) z) hx
    have before := limits.zone z y hy
    have in_z : t.occupancy.entriesIn z = s.occupancy.entriesIn z := by simp only [Occupancy.entriesIn, sameEntries]
    rw [in_z, same, reserved]
    split
    · next e =>
      subst e
      by_cases none : places = 0
      · omega
      · rw [← Nat.add_assoc]; exact room y hy none
    · exact before
  · have sum := sum_put s.occupancy.reserved r.cfg.inside (s.occupancy.reserved[r.cfg.inside] + places)
    rw [occupancy]
    dsimp only
    omega
  · have change := State.grantPlaces_change others z
    have before : s.doorPlaces d z = 0 := by
      obtain ⟨-, none, -⟩ := State.installRefusal_none.1 refused
      simp [State.doorPlaces, hr, DoorRec.placesInto, none]
    have after : t.doorPlaces d z = if r.cfg.inside = z then places else 0 := by
      simp only [State.doorPlaces, own, Option.map_some, Option.getD_some, DoorRec.placesInto, x, cfg, grant]
      rfl
    rw [before, after] at change
    show t.occupancy.reserved[z] = t.grantPlaces z
    rw [reserved, held z]
    omega
  · by_cases same : e = d
    · subst same
      obtain rfl := Option.some.inj (own.symm.trans hy)
      obtain rfl : g = k := Option.some.inj (grant.symm.trans hk)
      exact fits
    · exact fit e y k ((others e same).symm.trans hy) hk
  · have before : s.isRunning = false := by simpa [t, State.isRunning] using stopped
    rw [(empty before).2 d] at hr
    cases hr

/-- A door opens under a grant that holds no places. -/
theorem openedUnder (h : OccupancySound s) {d : Door} {r : DoorRec} (like : s.doorLike d r) (bare : ∀ g, r.grant = some g → ¬g.seats)
    (stamp : Nat) : OccupancySound (s.openedUnder d r stamp) := by
  obtain ⟨x, hx, core⟩ := like
  have unheld : 0 = (x.grant.map (·.places)).getD 0 := by
    cases hg : x.grant with
    | none => rfl
    | some g =>
      have fits := (occupancySound_iff.1 h).2.2.2.1 d x g hx hg
      have unseated := bare g ((DoorRec.core_eq core).2.2.1.symm.trans hg)
      simp only [Grant.seats, not_or, not_and, not_not] at unseated
      obtain ⟨entry, response⟩ := unseated
      rw [Option.map_some, Option.getD_some, fits]
      split
      · next kind => rw [response (kind.resolve_left entry), List.length_nil]
      · rfl
  let f (x : DoorRec) : DoorRec := { x with state := .opened, openingKind := some .granted, openSince := some stamp, grant := none }
  have freed := Releases.release hx f rfl (n := 0) unheld
  have unreleased : Releases ((s.updDoor d f).releasePlaces x.cfg.inside 0) (s.updDoor d f) :=
    .of_same rfl (Tab.put_self s.occupancy.reserved x.cfg.inside).symm rfl rfl (fun z => (State.limit_of_core (by simp) z).symm) fun _ => rfl
  exact h.of_releases (((freed.trans unreleased).trans (.refreshDrive _ d)).trans (.notifyDoor _ _ _ _ _))

/-- R80: a door opens under a grant that seats its persons. -/
theorem openSeated (h : OccupancySound s) {d : Door} {r : DoorRec} {g : Grant} (like : s.doorLike d r)
    (hg : r.grant = some g) (seats : g.seats) (stamp : Nat) : OccupancySound ((s.openedUnder d r stamp).seatEvent d r.cfg g).state := by
  obtain ⟨x, hx, core⟩ := like
  obtain ⟨cfg, -, grant, -⟩ := DoorRec.core_eq core
  have hg : x.grant = some g := grant.trans hg
  let f (x : DoorRec) : DoorRec := { x with state := .opened, openingKind := some .granted, openSince := some stamp, grant := none }
  let u := s.openedUnder d r stamp
  let v := (s.updDoor d f).releasePlaces x.cfg.inside g.places
  let t := (u.seatEvent d r.cfg g).state
  let news := g.persons.map (u.commitEntry d r.cfg g.persons)
  have freed : Releases s v := Releases.release hx f rfl (n := g.places) (by simp [hg])
  have freedSound := h.of_releases freed
  rw [occupancySound_iff] at h freedSound ⊢
  obtain ⟨entries, limits, held, fit, empty⟩ := h
  obtain ⟨-, -, held', fit', -⟩ := freedSound
  have places : g.places = g.persons.length := by
    rw [fit d x g hx hg, if_pos (seats.imp id And.left)]
  have here : g.places ≤ s.occupancy.reserved[x.cfg.inside] := by
    rw [held]
    refine le_trans ?_ (s.doorPlaces_le d _)
    simp [State.doorPlaces, hx, DoorRec.placesInto, hg]
  have occupancy : u.occupancy = s.occupancy := by simp [u, State.openedUnder]
  have newEntries : t.occupancy.entries = enterAll s.occupancy.entries news := by
    rw [← occupancy]; exact u.seatEvent_entries d r.cfg g
  have reserved : t.occupancy.reserved = v.occupancy.reserved := by
    rw [show t.occupancy.reserved = _ from u.seatEvent_reserved d r.cfg g, occupancy, ← cfg]
    rfl
  have seated (e : Door) : t.seat e = v.seat e := by
    refine State.seat_of_core (fun i hi => ?_) e
    simp [t, u, v, f, State.openedUnder]
  have zones (z : Zone) : t.limit z = s.limit z := State.limit_of_core (by simp [t, u, State.openedUnder]) z
  have modes : t.schedules.modes = s.schedules.modes := by simp [t, u, State.openedUnder]
  have made (e : Entry) (he : e ∈ news) : e.zone = x.cfg.inside ∧ (e.deadline.isSome = true ↔ s.schedules.modes[e.zone] = .after) := by
    obtain ⟨p, -, rfl⟩ := List.mem_map.1 he
    refine ⟨congrArg DoorCfg.inside cfg.symm, ?_⟩
    rw [← show u.schedules.modes = s.schedules.modes by simp [u, State.openedUnder]]
    exact u.newDeadline_isSome r.cfg.inside
  have count : news.length = g.places := by simp [news, places]
  refine ⟨?_, ⟨fun z y hy => ?_, ?_⟩, fun z => ?_, fun e y k hy hk => ?_, fun stopped => ?_⟩
  · rw [newEntries, modes]
    exact entries.enterAll fun e he => (made e he).2
  · obtain ⟨b, hb, same⟩ := exists_like (zones z) hy
    have before := limits.zone z b hb
    have grown := enterAll_filter_length s.occupancy.entries news x.cfg.inside z fun e he => (made e he).1
    rw [← newEntries] at grown
    have left : t.occupancy.reserved[z] = s.occupancy.reserved[z] - if x.cfg.inside = z then g.places else 0 := by
      rw [reserved]
      by_cases e : x.cfg.inside = z
      · subst e; simp [v, State.releasePlaces]
      · have : x.cfg.inside.val ≠ z.val := fun h => e (Fin.ext h)
        simp [v, State.releasePlaces, this, e]
    show (t.occupancy.entriesIn z).length + t.occupancy.reserved[z] ≤ y.cfg.limit
    rw [same, left]
    unfold Occupancy.entriesIn at before ⊢
    by_cases e : x.cfg.inside = z
    · subst e
      simp only [if_true] at grown ⊢
      omega
    · simp only [e, if_false] at grown ⊢
      omega
  · have sum := sum_put s.occupancy.reserved x.cfg.inside (s.occupancy.reserved[x.cfg.inside] - g.places)
    have grown := enterAll_length s.occupancy.entries news
    have total := limits.total
    rw [newEntries, reserved]
    change _ + (s.occupancy.reserved.put x.cfg.inside (s.occupancy.reserved[x.cfg.inside] - g.places)).toList.sum ≤ 64
    omega
  · show t.occupancy.reserved[z] = t.grantPlaces z
    rw [reserved, held' z, State.grantPlaces_of_seat seated]
  · obtain ⟨b, hb, same⟩ := exists_like (seated e) hy
    exact fit' e b k hb ((Prod.mk.inj same).2.symm.trans hk)
  · have before : s.isRunning = false := by simpa [State.isRunning, State.openedUnder] using stopped
    rw [(empty before).2 d] at hx
    cases hx

theorem sweepRefusal_none {z : Zone} {r : ZoneRec} {persons : List Person} (h : s.sweepRefusal z r persons = none) :
    persons.Nodup ∧ persons.length + s.occupancy.reserved[z] ≤ r.cfg.limit ∧ s.totalAfterSweep z persons ≤ 64 := by
  simp only [State.sweepRefusal, ite_eq_iff, reduceCtorEq, and_false, false_or, and_true, sweepListBad, Bool.or_eq_true, not_or,
    decide_eq_true_iff, Bool.not_eq_true', decide_eq_false_iff_not, not_not, Nat.not_lt] at h
  obtain ⟨⟨⟨-, distinct⟩, -⟩, -, -, limit, total⟩ := h
  exact ⟨distinct, limit, total⟩

/-- R84: a sweep that no case refuses. -/
theorem sweepEvent (h : OccupancySound s) {z : Zone} {r : ZoneRec} {persons : List Person} (hr : s.zones[z] = some r)
    (refused : s.sweepRefusal z r persons = none) (running : s.isRunning = true) : OccupancySound (s.sweepEvent z persons).state := by
  rw [occupancySound_iff] at h ⊢
  obtain ⟨entries, limits, held, fit, -⟩ := h
  let t := (s.sweepEvent z persons).state
  let swept := (s.occupancy.entriesIn z).map (·.person)
  let others := s.occupancy.entries.filter fun x => x.person ∉ swept ∧ x.person ∉ persons
  let news := persons.map (s.sweepEntry s.occupancy z)
  have newEntries : t.occupancy.entries = others ++ news := s.sweepEvent_entries z persons
  have reserved : t.occupancy.reserved = s.occupancy.reserved := s.sweepEvent_reserved z persons
  obtain ⟨distinct, limit, total⟩ : persons.Nodup ∧ persons.length + s.occupancy.reserved[z] ≤ r.cfg.limit ∧
      s.totalAfterSweep z persons ≤ 64 := sweepRefusal_none refused
  have elsewhere (e : Entry) (he : e ∈ others) : e.zone ≠ z ∧ e.person ∉ persons := by
    obtain ⟨mem, away⟩ := List.mem_filter.1 he
    simp only [decide_eq_true_iff] at away
    refine ⟨fun here => away.1 (List.mem_map.2 ⟨e, ?_, rfl⟩), away.2⟩
    exact List.mem_filter.2 ⟨mem, by simpa using here⟩
  have made (e : Entry) (he : e ∈ news) : e.zone = z ∧ e.person ∈ persons ∧ (e.deadline.isSome = true ↔ s.schedules.modes[e.zone] = .after) := by
    obtain ⟨p, hp, rfl⟩ := List.mem_map.1 he
    exact ⟨rfl, hp, s.newDeadline_isSome z⟩
  have sub : others.Sublist s.occupancy.entries := List.filter_sublist
  have kept := entries.sublist sub
  refine ⟨?_, ⟨fun y x hy => ?_, ?_⟩, fun y => ?_, ?_, fun stopped => ?_⟩
  · have modes : t.schedules.modes = s.schedules.modes := by simp [t]
    rw [newEntries, modes]
    refine ⟨List.pairwise_append.2 ⟨kept.distinct, ?_, fun a ha b hb => ?_⟩, fun e he => ?_⟩
    · exact List.pairwise_map.2 (distinct.imp id)
    · exact fun same => (elsewhere a ha).2 (same ▸ (made b hb).2.1)
    · rcases List.mem_append.1 he with he | he
      · exact kept.deadlines e he
      · exact (made e he).2.2
  · have hx : s.zones[y] = some x := by simpa [t] using hy
    show (t.occupancy.entriesIn y).length + t.occupancy.reserved[y] ≤ x.cfg.limit
    have before := limits.zone y x hx
    unfold Occupancy.entriesIn at before ⊢
    rw [newEntries, reserved, List.filter_append, List.length_append]
    by_cases same : y = z
    · subst same
      obtain rfl := Option.some.inj (hr.symm.trans hx)
      have none : others.filter (·.zone = y) = [] :=
        List.filter_eq_nil_iff.2 fun e he => by simpa using (elsewhere e he).1
      have most := List.length_filter_le (·.zone = y) news
      simp only [none, List.length_nil, news, List.length_map] at most ⊢
      omega
    · have none : news.filter (·.zone = y) = [] :=
        List.filter_eq_nil_iff.2 fun e he => by simpa [(made e he).1] using Ne.symm same
      have less := (sub.filter (·.zone = y)).length_le
      rw [none, List.length_nil]
      omega
  · rw [newEntries, reserved, List.length_append]
    have away : others.filter (fun e => e.zone != z && decide (e.person ∉ persons)) = others :=
      List.filter_eq_self.2 fun e he => by simpa using elsewhere e he
    have less := (sub.filter fun e => e.zone != z && decide (e.person ∉ persons)).length_le
    rw [away] at less
    simp only [State.totalAfterSweep] at total
    simp only [news, List.length_map]
    omega
  · show t.occupancy.reserved[y] = t.grantPlaces y
    rw [reserved, held y, State.grantPlaces_of_seat (s := s) (t := t) (State.seat_of_core (by simp [t]))]
  · have doors : t.doors = s.doors := by simp [t]
    exact fun d x g hx => fit d x g (by rwa [← doors])
  · simp [State.isRunning] at stopped running
    exact absurd running stopped

/-- The entries change in their places, and the rest stands. -/
theorem of_map (h : OccupancySound s) (f : Entry → Entry) (keeps : ∀ e, (f e).person = e.person ∧ (f e).zone = e.zone)
    (entries : t.occupancy.entries = s.occupancy.entries.map f) (reserved : t.occupancy.reserved = s.occupancy.reserved)
    (loader : t.loader = s.loader) (zones : t.zones = s.zones) (doors : t.doors = s.doors)
    (deadlines : ∀ e ∈ s.occupancy.entries, (f e).deadline.isSome = true ↔ t.schedules.modes[(f e).zone] = .after) : OccupancySound t := by
  rw [occupancySound_iff] at h ⊢
  obtain ⟨sound, limits, held, fit, empty⟩ := h
  have count (z : Zone) : (t.occupancy.entriesIn z).length = (s.occupancy.entriesIn z).length := by
    simp [Occupancy.entriesIn, entries, List.filter_map, Function.comp_def, fun e => (keeps e).2]
  refine ⟨⟨?_, fun x hx => ?_⟩, ⟨fun z r hr => ?_, ?_⟩, fun z => ?_, fun d x g hx => fit d x g (by rwa [← doors]), fun stopped => ?_⟩
  · rw [entries]
    exact List.pairwise_map.2 (sound.distinct.imp fun ne => by rwa [(keeps _).1, (keeps _).1])
  · rw [entries] at hx
    obtain ⟨e, he, rfl⟩ := List.mem_map.1 hx
    exact deadlines e he
  · rw [count, reserved]
    exact limits.zone z r (by rwa [← zones])
  · rw [entries, List.length_map, reserved]
    exact limits.total
  · rw [reserved, held z]
    simp only [State.grantPlaces, doors]
  · obtain ⟨none, absent⟩ := empty (by simpa only [State.isRunning, loader] using stopped)
    exact ⟨by rw [entries, none, List.map_nil], fun d => by rw [doors]; exact absent d⟩

/-- R79: a person's entry leaves. -/
theorem remove (h : OccupancySound s) (p : Person) :
    OccupancySound (s.updOccupancy fun o => { o with entries := o.entries.filter (·.person != p) }) := by
  rw [occupancySound_iff] at h ⊢
  obtain ⟨sound, limits, held, fit, empty⟩ := h
  have sub : (s.occupancy.entries.filter (·.person != p)).Sublist s.occupancy.entries := List.filter_sublist
  refine ⟨sound.sublist sub, ⟨fun z r hr => ?_, ?_⟩, held, fit, fun stopped => ?_⟩
  · exact (Nat.add_le_add_right (sub.filter (·.zone = z)).length_le _).trans (limits.zone z r hr)
  · exact (Nat.add_le_add_right sub.length_le _).trans limits.total
  · obtain ⟨none, absent⟩ := empty stopped
    exact ⟨by simp [none], absent⟩

/-- R86: a deadline moves on. -/
theorem updDeadline (h : OccupancySound s) {p : Person} {e : Entry} (he : s.occupancy.entryOf p = some e) (hd : e.deadline.isSome = true)
    (x : Nat) : OccupancySound (s.updOccupancy (·.updEntry p fun e => { e with deadline := some x })) := by
  have sound := (occupancySound_iff.1 h).1
  refine h.of_map (fun e => if e.person = p then { e with deadline := some x } else e) (fun e => ?_) rfl rfl rfl rfl rfl fun a ha => ?_
  · split <;> exact ⟨rfl, rfl⟩
  · have before := sound.deadlines a ha
    split
    · next here =>
      obtain rfl := sound.unique ha (Occupancy.entryOf_mem he) (here.trans (Occupancy.entryOf_person he).symm)
      exact iff_of_true rfl (before.1 hd)
    · exact before

theorem markDeleted (h : OccupancySound s) (p : Person) :
    OccupancySound (s.updOccupancy (·.updEntry p fun e => { e with deleted := true })) := by
  have sound := (occupancySound_iff.1 h).1
  refine h.of_map (fun e => if e.person = p then { e with deleted := true } else e) (fun e => ?_) rfl rfl rfl rfl rfl fun a ha => ?_
  · split <;> exact ⟨rfl, rfl⟩
  · have before := sound.deadlines a ha
    split <;> exact before

/-- R86: a zone's mode changes with the deadlines of its entries. -/
theorem modeSet (h : OccupancySound s) (z : Zone) (m : Mode) : OccupancySound (s.modeSet z m) := by
  have sound := (occupancySound_iff.1 h).1
  let u : State := { s with schedules := { s.schedules with modes := s.schedules.modes.put z m } }
  refine h.of_map (fun e => if e.zone = z then { e with deadline := u.newDeadline z } else e) (fun e => ?_) rfl rfl rfl rfl rfl
    fun a ha => ?_
  · split <;> exact ⟨rfl, rfl⟩
  · have before := sound.deadlines a ha
    split
    · next here =>
      subst here
      exact u.newDeadline_isSome a.zone
    · next other =>
      have : z.val ≠ a.zone.val := fun e => other (Fin.ext e.symm)
      simpa [State.modeSet, this] using before

/-- Nobody is inside, and no grant stands. -/
theorem of_empty (entries : s.occupancy.entries = []) (reserved : ∀ z : Zone, s.occupancy.reserved[z] = 0)
    (doors : ∀ d r, s.doors[(d : Door)] = some r → r.grant = none) (idle : s.isRunning = false → ∀ d : Door, s.doors[d] = none) :
    OccupancySound s := by
  refine occupancySound_iff.2 ⟨⟨by simp [entries], by simp [entries]⟩, ⟨fun z r _ => ?_, ?_⟩, fun z => ?_, fun d r g hr hg => ?_,
    fun stopped => ⟨entries, idle stopped⟩⟩
  · simp [Occupancy.entriesIn, entries, reserved]
  · rw [toList_sum, entries, Finset.sum_eq_zero fun z _ => reserved z]
    decide
  · rw [reserved, State.grantPlaces_eq, Finset.sum_eq_zero fun d _ => ?_]
    unfold State.doorPlaces
    cases hr : s.doors[d] with
    | none => rfl
    | some r => simp [DoorRec.placesInto, doors d r hr]
  · rw [doors d r hr] at hg
    cases hg

theorem cleared (time : Timebase) (loader : Loader) (pending : List Instr) : OccupancySound (.cleared time loader pending) := by
  refine .of_empty rfl (fun z => ?_) (fun d r hr => ?_) fun _ d => ?_
  · simp [State.cleared, Occupancy.cleared]
  · simp [State.cleared] at hr
  · simp [State.cleared]

/-- R197: the configuration is settled before anybody enters. -/
theorem configured (h : OccupancySound s) (stopped : s.isRunning = false) (l : Loader) (running : l.phase = .running) (r : Records) :
    OccupancySound ({ s with loader := l }.configured r) := by
  obtain ⟨-, -, held, -, empty⟩ := occupancySound_iff.1 h
  obtain ⟨entries, doors⟩ := empty stopped
  refine of_empty entries (fun z => ?_) (fun d x hx => ?_) fun no => ?_
  · show s.occupancy.reserved[z] = 0
    rw [held, State.grantPlaces_eq, Finset.sum_eq_zero fun d _ => by simp only [State.doorPlaces, doors d]; rfl]
  · obtain ⟨c, -, rfl⟩ : ∃ c, r.doors[d] = some c ∧ _ = x := by simpa [State.configured, Records.doorRecs] using hx
    rfl
  · simp [State.configured, State.isRunning, running] at no

end OccupancySound

/-- R34, R78, R79, R86: every act keeps the occupancy sound. -/
theorem Act.occupancySound {fit : Prop} (a : Act fit s t) (hf : fit) (h : OccupancySound s) : OccupancySound t := by
  cases a with
  | quiet q => exact h.of_releases (.of_same q.entries q.reserved q.modes q.running (State.limit_of_core q.zones) (State.seat_of_core q.doors))
  | door d f keeps => exact h.of_releases (.updDoor s d f fun r _ => ⟨(keeps r).cfg, (keeps r).grant⟩)
  | doorTurn d r f hr turn =>
    refine h.of_releases (.updDoor s d f fun x hx => ?_)
    obtain rfl := Option.some.inj (hx.symm.trans hr)
    exact ⟨turn.cfg, turn.grant⟩
  | pair d r p => exact h.of_releases (.updDoor s d _ (by intros; exact ⟨rfl, rfl⟩))
  | install d r kind persons places hr refused fits free => exact h.installGrant hr refused fits free
  | lapse d r g hr hg => exact h.of_releases (.lapseGrant hr hg)
  | lose d r state cause => exact h.of_releases (.doorLost s d r state cause)
  | openUnder d r stamp like _ bare => exact h.openedUnder like bare stamp
  | openSeated d r stamp g like _ hg seats => exact h.openSeated like hg seats stamp
  | spare z n none =>
    obtain rfl := none hf
    exact h.of_releases (.of_same rfl (Tab.put_self s.occupancy.reserved z) rfl rfl (State.limit_of_core (by simp)) fun _ => rfl)
  | zoneTurn z cause f r hr turn =>
    refine h.of_releases (.changeZone s z cause f fun x hx => ?_)
    obtain rfl := Option.some.inj (hx.symm.trans hr)
    exact turn.cfg
  | joinLine z l => exact h.of_releases (.join s z _ (by intros; rfl))
  | leaveLine z l => exact h.of_releases (.leave s z _ (by intros; rfl))
  | joinAlarm z n => exact h.of_releases (.join s z _ (by intros; rfl))
  | leaveAlarm z n => exact h.of_releases (.leaveHoldAlarm s z n)
  | clear r => exact h.of_releases (.clearAlarm s r)
  | enter z => exact h.of_releases (.enterDischarge s z)
  | leave z => exact h.of_releases (.leaveDischarge s z)
  | remove p => exact h.remove p
  | due p x e he deadline => exact h.updDeadline he deadline x
  | mark p => exact h.markDeleted p
  | mode z m => exact h.modeSet z m
  | sweep z r persons hr refused running => exact h.sweepEvent hr refused running
  | reset time loader => exact .cleared time loader _
  | configure l r stopped running => exact h.configured stopped l running r
  | _ =>
    exact h.of_releases (.of_same (by simp [State.replacedAlarm]) (by simp [State.replacedAlarm]) (by simp [State.replacedAlarm])
      (by simp [State.replacedAlarm, State.isRunning]) (State.limit_of_core (by simp [State.replacedAlarm]))
      (State.seat_of_core (by simp [State.replacedAlarm])))

/-- Settles O57: every act keeps the occupancy sound, so every step does. -/
theorem occupancyIsSound : Obligations.OccupancyIsSound :=
  fun _ _ hs h => step_keeps (fun _ _ a => a.occupancySound (occupancySound_iff.1 hs).2.2.2.1) id hs h

end Sys2Proof.Machine


/-! ## R197: the reset state meets every invariant -/

namespace Sys2Proof.Machine

/-- Settles O60: the reset state is a cleared one, and every cleared state meets the invariants. -/
theorem resetMeetsInvariants : Obligations.ResetMeetsInvariants :=
  ⟨.cleared _ _ _, .cleared _ _ _, (alarmListSound_iff _).2 .cleared, .cleared _ _ _, .cleared _ _ _, .cleared _ _ _⟩

end Sys2Proof.Machine

namespace Sys2Proof.Machine

/-! ## Commands, steps and resets

What holds of every command, what one step runs, and what the resets leave. -/

/-- No act touches the commands that wait. -/
theorem Act.pending {fit : Prop} {s t : State} (h : Act fit s t) : t.pending = s.pending := by
  cases h
  case quiet q => exact q.pending
  case reset => rfl
  case openUnder => simp [State.openedUnder]
  case openSeated => simp [State.openedUnder]
  case mode => rfl
  case replaced => simp [State.replacedAlarm]
  case configure => rfl
  all_goals simp

/-- Settles O2: every command is a run of acts, none of which touches the commands that wait. -/
theorem everyCommandCompletes : Obligations.EveryCommandCompletes := by
  intro c s
  obtain ⟨t, ht, acts⟩ := exec_runs c s
  exact ⟨t, ht, acts.keeps (P := fun u => u.pending = s.pending) (fun u v h hu => h.pending.trans hu) rfl⟩

/-- Settles O1. -/
theorem stepRunsFrontCommand : Obligations.StepRunsFrontCommand := by
  refine ⟨fun c s => rfl, fun s h => ?_⟩
  unfold step
  rw [h]

/-- Settles O3. -/
theorem resetsLeaveTheirState : Obligations.ResetsLeaveTheirState := by
  intro s
  refine ⟨rfl, rfl, fun h => ?_⟩
  simp only [exec, execResetLineRelease, h]
  rfl

end Sys2Proof.Machine

namespace Sys2Proof.Machine

/-! ## Time -/

/-- Settles O9. -/
theorem secondsAdvance : Obligations.SecondsAdvance := by
  intro s
  refine ⟨fun h => ?_, fun now hn hm hs => ?_, fun h => ?_⟩
  · simp only [exec, execSecondTick, if_neg h]
  · have hlt : now.second + 1 < 60 := by omega
    simp only [exec, execTimeOfDaySecond, hn, if_pos hm, State.advanceSecond, if_pos hlt, DateTime.next]
  · simp only [exec, execTimeOfDaySecond, h]

/-- R194: the accumulator at its next carry: K is added the least number of times that passes 2^32, and the low 32 bits are kept. -/
theorem nextCarry_adds (acc : BitVec 32) (k : Nat) (hk : 0 < k) (hlt : k < 4294967296) :
    ∃ n, 0 < n ∧ acc.toNat + (n - 1) * k < 4294967296 ∧ acc.toNat + n * k = (nextCarry acc k).toNat + 4294967296 := by
  have ha : acc.toNat < 4294967296 := acc.isLt
  obtain ⟨m, hm⟩ : ∃ m, 4294967296 - acc.toNat - 1 = m := ⟨_, rfl⟩
  have hdiv : (4294967296 - acc.toNat + k - 1) / k = m / k + 1 := by
    rw [show 4294967296 - acc.toNat + k - 1 = m + k by omega, Nat.add_div_right m hk]
  have hlow := Nat.div_mul_le_self m k
  have hhigh := Nat.lt_div_mul_add (a := m) hk
  refine ⟨m / k + 1, Nat.succ_pos _, ?_, ?_⟩
  · rw [Nat.add_sub_cancel]
    omega
  · have hsum : acc.toNat + (m / k + 1) * k < 2 * 4294967296 := by rw [Nat.succ_mul]; omega
    have hge : 4294967296 ≤ acc.toNat + (m / k + 1) * k := by rw [Nat.succ_mul]; omega
    simp only [nextCarry, if_neg (Nat.pos_iff_ne_zero.mp hk), hdiv, BitVec.toNat_ofNat]
    omega

/-- Settles O7. -/
theorem millisecondTickCounts : Obligations.MillisecondTickCounts := by
  intro s hk hlt
  refine ⟨_, rfl, rfl, ?_, ?_⟩
  · obtain ⟨n, hn, hbelow, hsum⟩ := nextCarry_adds s.time.acc s.time.k hk hlt
    have hacc (held : Bool) : (s.time.tick held).acc = nextCarry s.time.acc s.time.k := by
      cases held <;> cases hset : s.time.tod <;> simp [Timebase.tick, Timebase.countMs, Timebase.countTod, hset]
    exact ⟨n, hn, hbelow, by rw [hsum, hacc]⟩
  · by_cases held : s.loader.phase = .resetHeld <;> cases hset : s.time.tod <;>
      simp [Timebase.tick, Timebase.countMs, Timebase.countTod, held, hset]

/-! ### The calendar -/

theorem Date.valid_iff (d : Date) :
    d.valid = true ↔ d.year < 256 ∧ 1 ≤ d.month ∧ d.month ≤ 12 ∧ 1 ≤ d.day ∧ d.day ≤ d.monthLength := by
  simp [Date.valid, and_assoc]

theorem monthLength_bounds (year : Nat) {month : Nat} (h1 : 1 ≤ month) (h2 : month ≤ 12) :
    28 ≤ monthLength year month ∧ monthLength year month ≤ 31 := by
  interval_cases month <;> simp [monthLength]
  split <;> omega

theorem Date.monthLength_bounds {d : Date} (h1 : 1 ≤ d.month) (h2 : d.month ≤ 12) :
    28 ≤ d.monthLength ∧ d.monthLength ≤ 31 :=
  Machine.monthLength_bounds _ h1 h2

/-- The three ways a date advances: within its month, to the next month, to the next year. -/
theorem Date.next_cases {d : Date} (hv : d.valid = true) (hlast : d ≠ ⟨255, 12, 31⟩) :
    (d.day < d.monthLength ∧ d.next = { d with day := d.day + 1 }) ∨
    (d.day = d.monthLength ∧ d.month < 12 ∧ d.next = { d with month := d.month + 1, day := 1 }) ∨
    (d.year < 255 ∧ d.month = 12 ∧ d.day = 31 ∧ d.next = { year := d.year + 1, month := 1, day := 1 }) := by
  obtain ⟨hy, hm1, hm2, hd1, hd2⟩ := d.valid_iff.mp hv
  unfold Date.next
  by_cases within : d.day < d.monthLength
  · exact .inl ⟨within, if_pos within⟩
  · have hday : d.day = d.monthLength := by omega
    rw [if_neg within]
    by_cases hm : d.month < 12
    · exact .inr (.inl ⟨hday, hm, if_pos hm⟩)
    · have h12 : d.month = 12 := by omega
      have h31 : d.day = 31 := by rw [hday, Date.monthLength, h12]; rfl
      have hyear : d.year < 255 := by
        rcases d with ⟨year, month, day⟩
        by_contra
        exact hlast (by simp only at *; congr; omega)
      rw [if_neg hm, Nat.mod_eq_of_lt (by omega)]
      exact .inr (.inr ⟨hyear, h12, h31, rfl⟩)

/-- The leap days before a year of the calendar and in it are those before the next year. -/
theorem leapDaysBefore_succ (year : Nat) :
    leapDaysBefore (2000 + year + 1) = leapDaysBefore (2000 + year) + if isLeap (2000 + year) then 1 else 0 := by
  have hleap : isLeap (2000 + year) = true ↔
      (2000 + year) % 4 = 0 ∧ ((2000 + year) % 100 ≠ 0 ∨ (2000 + year) % 400 = 0) := by
    simp [isLeap]
  simp only [leapDaysBefore]
  split <;> rename_i h <;> rw [hleap] at h <;> omega

/-- The date after a date that is not the last is one day later. -/
theorem Date.dayNumber_next {d : Date} (hv : d.valid = true) (hlast : d ≠ ⟨255, 12, 31⟩) :
    d.next.dayNumber = d.dayNumber + 1 := by
  obtain ⟨hy, hm1, hm2, hd1, hd2⟩ := d.valid_iff.mp hv
  rcases Date.next_cases hv hlast with ⟨-, hn⟩ | ⟨hday, -, hn⟩ | ⟨-, h12, h31, hn⟩
  · rw [hn]
    simp only [Date.dayNumber]
    omega
  · obtain ⟨m, hm⟩ : ∃ m, d.month = m + 1 := ⟨d.month - 1, by omega⟩
    rw [hn]
    simp only [Date.dayNumber, hday, Date.monthLength, hm, Nat.add_sub_cancel, List.range_succ, List.map_append,
      List.sum_append, List.map_cons, List.map_nil, List.sum_cons, List.sum_nil]
    have := (Machine.monthLength_bounds (2000 + d.year) (month := m + 1) (by omega) (by omega)).1
    omega
  · have hgrow := leapDaysBefore_succ d.year
    have hstart : leapDaysBefore 2000 ≤ leapDaysBefore (2000 + d.year) := by simp only [leapDaysBefore]; omega
    rw [hn]
    simp only [Date.dayNumber, h12, h31, ← Nat.add_assoc]
    simp only [Nat.reduceSub, List.range_succ, List.range_zero, List.nil_append, List.cons_append, List.map_cons, List.map_nil,
      List.sum_cons, List.sum_nil, Nat.reduceAdd, Machine.monthLength]
    split at hgrow <;> simp_all <;> omega

/-- A calendar date has no other of its number. -/
theorem Date.number_lt {d e : Date} (hd : d.valid = true) (he : e.valid = true) (hle : d.le e = true) (hne : e ≠ d) :
    d.year * 13 + d.month < e.year * 13 + e.month ∨ (d.year = e.year ∧ d.month = e.month ∧ d.day < e.day) := by
  obtain ⟨-, hm1, hm2, hd1, hd2⟩ := d.valid_iff.mp hd
  obtain ⟨-, gm1, gm2, gd1, gd2⟩ := e.valid_iff.mp he
  have := (Date.monthLength_bounds hm1 hm2).2
  have := (Date.monthLength_bounds gm1 gm2).2
  simp only [Date.le, decide_eq_true_eq] at hle
  simp only [Date.number] at hle
  by_contra hcon
  apply hne
  rcases d with ⟨dy, dm, dd⟩
  rcases e with ⟨ey, em, ed⟩
  simp only at *
  congr <;> omega

/-- The next date is a calendar date, later than the date, and no later than any other later one. -/
theorem Date.next_follows {d : Date} (hv : d.valid = true) (hlast : d ≠ ⟨255, 12, 31⟩) :
    d.next.valid = true ∧ d.number < d.next.number ∧
      ∀ e : Date, e.valid = true → d.le e = true → e ≠ d → d.next.le e = true := by
  obtain ⟨hy, hm1, hm2, hd1, hd2⟩ := d.valid_iff.mp hv
  have h31 := (Date.monthLength_bounds hm1 hm2).2
  refine ⟨?_, ?_, fun e he hle hne => ?_⟩
  · rw [Date.valid_iff]
    rcases Date.next_cases hv hlast with ⟨hday, hn⟩ | ⟨-, hm, hn⟩ | ⟨hyear, -, -, hn⟩
    · rw [hn]
      exact ⟨hy, hm1, hm2, Nat.le_add_left 1 _, hday⟩
    · have := (Machine.monthLength_bounds (2000 + d.year) (month := d.month + 1) (by omega) (by omega)).1
      rw [hn]
      exact ⟨hy, Nat.le_add_left 1 _, hm, le_rfl, by simp only [Date.monthLength]; omega⟩
    · rw [hn]
      exact ⟨Nat.lt_succ_of_le hyear, le_rfl, Nat.le_add_left 1 11, le_rfl, Nat.le_add_left 1 30⟩
  · rcases Date.next_cases hv hlast with ⟨hday, hn⟩ | ⟨-, hm, hn⟩ | ⟨hyear, h12, -, hn⟩ <;> rw [hn] <;>
      simp only [Date.number] <;> omega
  · obtain ⟨-, gm1, gm2, gd1, gd2⟩ := e.valid_iff.mp he
    have later := Date.number_lt hv he hle hne
    have same : d.year = e.year → d.month = e.month → e.day ≤ d.monthLength := fun h1 h2 => by
      simpa [Date.monthLength, h1, h2] using gd2
    simp only [Date.le, decide_eq_true_eq]
    rcases Date.next_cases hv hlast with ⟨hday, hn⟩ | ⟨hday, hm, hn⟩ | ⟨hyear, h12, hday, hn⟩ <;> rw [hn] <;>
      simp only [Date.number] <;> omega

/-- The date after any calendar date is one. -/
theorem Date.next_valid {d : Date} (hv : d.valid = true) : d.next.valid = true := by
  by_cases hlast : d = ⟨255, 12, 31⟩
  · subst hlast
    decide
  · exact (Date.next_follows hv hlast).1

/-- Settles O11. -/
theorem calendarAdvances : Obligations.CalendarAdvances := by
  refine ⟨fun d hv hlast => ?_, by decide, by decide, fun t hv => ?_⟩
  · obtain ⟨hvalid, hlt, hleast⟩ := Date.next_follows hv hlast
    refine ⟨hvalid, ?_, fun h => ?_, ?_, hleast⟩
    · simp only [Date.le, decide_eq_true_eq]
      omega
    · rw [h] at hlt
      exact lt_irrefl _ hlt
    · simp only [Date.weekday, Date.dayNumber_next hv hlast]
      omega
  · simp only [DateTime.valid, Bool.and_eq_true, decide_eq_true_eq] at hv ⊢
    obtain ⟨⟨⟨hdate, hhour⟩, hminute⟩, hsecond⟩ := hv
    unfold DateTime.next
    split_ifs
    · exact ⟨⟨⟨hdate, hhour⟩, hminute⟩, by simp only; omega⟩
    · exact ⟨⟨⟨hdate, hhour⟩, by simp only; omega⟩, Nat.zero_le 59⟩
    · exact ⟨⟨⟨hdate, by simp only; omega⟩, Nat.zero_le 59⟩, Nat.zero_le 59⟩
    · exact ⟨⟨⟨Date.next_valid hdate, Nat.zero_le 23⟩, Nat.zero_le 59⟩, Nat.zero_le 59⟩

end Sys2Proof.Machine

namespace Sys2Proof.Machine

/-! ## Rules of the shared operations

What queuing notices, choosing a bus transaction, handing over a drive and answering a request come to, in the terms of the statements. -/

/-! ### Notices -/

/-- The ports stand. -/
theorem QueuesGain.of_ports {s t : State} (h : t.ports = s.ports) : QueuesGain s t [] := fun q => by rw [h]; rfl

theorem QueuesGain.refl (s : State) : QueuesGain s s [] := .of_ports rfl

theorem State.notify_gains (s : State) (b : NoticeBody) : QueuesGain s (s.notify b) [b] := fun q => s.notify_get b q

theorem QueuesGain.trans {s t u : State} {first second : List NoticeBody} (h : QueuesGain s t first) (h' : QueuesGain t u second)
    (ht : t.time = s.time) : QueuesGain s u (first ++ second) := fun q => by
  rw [h' q, h q, PortRec.gains_time _ ht, PortRec.gains_append]

/-- One notice more. -/
theorem QueuesGain.notify {s t : State} {l : List NoticeBody} (h : QueuesGain s t l) (ht : t.time = s.time) (b : NoticeBody) :
    QueuesGain s (t.notify b) (l ++ [b]) :=
  h.trans (t.notify_gains b) ht

/-- What the ports gain depends on the ports and the time alone. -/
theorem QueuesGain.congr {s s' t t' : State} {l : List NoticeBody} (h : QueuesGain s t l) (hs : s'.ports = s.ports)
    (hs' : s'.time = s.time) (ht : t'.ports = t.ports) : QueuesGain s' t' l := fun q => by
  rw [ht, h q, hs, PortRec.gains_time _ hs']

/-! ### The door bus -/

/-- R20: what the arbitration of an idle bus comes to. -/
theorem State.chooseNext_chooses {s : State} (h : s.bus.tx = .idle) : BusChooses s s.chooseNext := by
  unfold BusChooses State.chooseNext
  rw [h]
  cases hq : s.bus.queue with
  | cons e rest => rfl
  | nil =>
    dsimp only
    cases hn : s.nextPoll with
    | none =>
      refine .inr ⟨fun m hm => ?_, rfl⟩
      rw [State.nextPoll, List.find?_eq_none] at hn
      refine hn m ?_ hm
      simp only [rotationFrom, List.mem_map, List.mem_finRange, true_and]
      exact ⟨m - (s.bus.position + 1), by simp⟩
    | some m =>
      obtain ⟨hm, k, hk, hk', hfirst⟩ := List.find?_eq_some_iff_getElem.mp hn
      have hlen : (rotationFrom s.bus.position).length = 16 := by simp [rotationFrom]
      have get (j : Nat) (hj : j < 16) : (rotationFrom s.bus.position)[j]'(by omega) = s.bus.position + 1 + Fin.ofNat 16 j := by
        simp only [rotationFrom, List.getElem_map, List.getElem_finRange]
        congr 1
        exact Fin.ext (by simp [Nat.mod_eq_of_lt hj])
      rw [hlen] at hk
      rw [get k hk] at hk'
      subst hk'
      refine .inl ⟨k, hk, hm, fun j hj hp => ?_, rfl⟩
      have := hfirst j hj
      rw [get j (by omega)] at this
      simp [State.mayPoll] at hp
      simp [hp] at this

/-- R20: the bus becomes free and the next transaction starts. -/
theorem State.busFree_chooses (s : State) : BusChooses { s with bus := { s.bus with tx := .idle } } s.busFree :=
  State.chooseNext_chooses rfl

/-- What the arbitration gives is a bus; nothing else changes. -/
theorem BusChooses.frame {s t : State} (h : BusChooses s t) : t = { s with bus := t.bus } := by
  unfold BusChooses at h
  cases hq : s.bus.queue with
  | cons e rest => rw [hq] at h; rw [h]
  | nil =>
    rw [hq] at h
    obtain ⟨k, -, -, -, ht⟩ | ⟨-, ht⟩ := h
    · rw [ht]; rfl
    · rw [ht]

/-- The arbitration depends on the bus and the time alone. -/
theorem BusChooses.congr {s u : State} {b : Bus} (h : BusChooses s { s with bus := b }) (hb : u.bus = s.bus) (ht : u.time = s.time) :
    BusChooses u { u with bus := b } := by
  have may (m : Module) : u.mayPoll m ↔ s.mayPoll m := by simp [State.mayPoll, hb, State.nowMs, ht]
  have busOf {t t' : State} (e : t = t') : t.bus = t'.bus := by rw [e]
  unfold BusChooses at h ⊢
  rw [hb]
  cases hq : s.bus.queue with
  | cons e rest =>
    rw [hq] at h
    have := busOf h
    dsimp only at this ⊢
    rw [this]
  | nil =>
    rw [hq] at h
    obtain ⟨k, hk, hm, hfirst, he⟩ | ⟨hnone, he⟩ := h
    · refine .inl ⟨k, hk, (may _).mpr hm, fun j hj hp => hfirst j hj ((may _).mp hp), ?_⟩
      have := busOf he
      dsimp only at this
      rw [this]
      simp [State.polls, hb, State.nowMs, ht]
    · refine .inr ⟨fun m hm => hnone m ((may m).mp hm), ?_⟩
      have := busOf he
      dsimp only at this
      rw [this, ← hb]

/-- R21: a drive joins the pending ones. -/
theorem queueDrive_eq_withDrive (q : List (Module × Drive)) (m : Module) (d : Drive) : queueDrive q m d = withDrive q m d := by
  have : (q.any fun e => decide (e.1 = m)) = true ↔ ∃ e ∈ q, e.1 = m := by simp
  simp only [queueDrive, withDrive, this]

/-- R21, R22: all that the handing over of a drive does. -/
theorem State.handDrive_handed (s : State) (module : Option Module) (d : Drive) : DriveHanded s (s.handDrive module d) module d := by
  have online (m : Module) : (s.bus.modules[m]).any (·.online) = true ↔ ∃ y, s.bus.modules[m] = some y ∧ y.online = true := by
    simp [Option.any_eq_true]
  refine ⟨fun h => ?_, fun m hm ho => ?_⟩
  · cases module with
    | none => rfl
    | some m =>
      have : ¬(s.bus.modules[m]).any (·.online) = true := fun e => h m rfl ((online m).mp e)
      simp only [State.handDrive, if_neg this]
  · subst hm
    have ho := (online m).mpr ho
    simp only [State.handDrive, if_pos ho, queueDrive_eq_withDrive]
    refine ⟨fun hbusy => ?_, fun hidle => ?_⟩
    · cases htx : s.bus.tx with
      | idle => exact absurd htx hbusy
      | poll => simp [State.chooseNext]
      | drive => simp [State.chooseNext]
    · have choice := State.chooseNext_chooses (s := { s with bus := { s.bus with queue := withDrive s.bus.queue m d } }) hidle
      rwa [choice.frame] at choice

/-- The handing over depends on the bus and the time before and on the bus after. -/
theorem DriveHanded.congr {s s' t t' : State} {module : Option Module} {d : Drive} (h : DriveHanded s t module d)
    (hb : s'.bus = s.bus) (ht : s'.time = s.time) (ht' : t'.bus = t.bus) : DriveHanded s' t' module d := by
  obtain ⟨hstays, hgoes⟩ := h
  unfold DriveHanded
  rw [hb, ht']
  refine ⟨hstays, fun m hm ho => ?_⟩
  obtain ⟨hbusy, hidle⟩ := hgoes m hm ho
  exact ⟨hbusy, fun hi => (hidle hi).congr (u := { s' with bus := { s.bus with queue := withDrive s.bus.queue m d } }) rfl ht⟩

/-- R47: whether a computed drive is due. -/
theorem driveDiffers_iff (last : Option Drive) (d : Drive) :
    driveDiffers last d = true ↔
      d.chirp = true ∨ ∀ l, last = some l → l.lock ≠ d.lock ∨ l.indicator ≠ d.indicator := by
  simp [driveDiffers, Option.all_eq_true]

/-- R47: all that the recomputing of a door's drive does. -/
theorem State.refreshDrive_drives {s : State} {d : Door} {y : DoorRec} (h : s.doors[d] = some y) :
    DoorDrives s (s.refreshDrive d) y (s.bars y.cfg.inside) := by
  have due := driveDiffers_iff y.lastDrive (s.doorDrive y)
  simp only [State.refreshDrive, h]
  by_cases hd : driveDiffers y.lastDrive (s.doorDrive y) = true
  · rw [if_pos hd]
    refine ⟨fun _ => ?_, fun hn => absurd (due.mp hd) hn⟩
    exact (State.handDrive_handed (s.updDoor d _) y.module (s.doorDrive y)).congr rfl rfl rfl
  · rw [if_neg hd]
    exact ⟨fun hn => absurd (due.mpr hn) hd, fun _ => rfl⟩

theorem DoorDrives.congr {s s' t t' : State} {y : DoorRec} {barred : Bool} (h : DoorDrives s t y barred)
    (hb : s'.bus = s.bus) (ht : s'.time = s.time) (ht' : t'.bus = t.bus) : DoorDrives s' t' y barred := by
  obtain ⟨hdue, hnot⟩ := h
  exact ⟨fun h => (hdue h).congr hb ht ht', fun h => by rw [hb, ht']; exact hnot h⟩

/-! ### Requests -/

/-- R182: the assembly of a port hunts. -/
def State.hunting (s : State) (p : Port) : State := s.updPort p fun x => { x with rx := .hunt }

/-- R182, R183: the answer of a decided request. -/
def Reply.answerTo (r : Reply) (p : Port) (f : Frame) : State := r.state.updPort p (·.send (composeAnswer f r.status r.content))

/-- R182: a request that is to be decided is answered as its owning rule decides. -/
theorem State.takeRequest_decided {s : State} {p : Port} {b code : Byte} {f : Frame} (h : RequestReady s p b code f) (early : Bool)
    (rights : Rights) (decide : Decide) (hr : rights.allow p = true) :
    s.takeRequest p b code early rights decide = (decide (s.hunting p) p f.payload).answerTo p f :=
  State.takeRequest_ready h early rights decide hr

/-- The answer alone. -/
theorem State.answerTo_hunting (u : State) (p : Port) (f : Frame) (status : Status) (content : List Byte) :
    (Reply.mk (u.hunting p) status content).answerTo p f = u.answered p f status content := by
  refine State.ext_fields rfl rfl rfl rfl rfl rfl rfl rfl rfl rfl rfl rfl rfl rfl (ports_ext fun q => ?_) rfl
  simp only [Reply.answerTo, State.hunting, State.answered, Fin.getElem_fin, State.updPort_get, PortRec.answered]
  split <;> rfl

/-- A notice joins a queue whatever is being gathered. -/
theorem PortRec.gains_hunt (r : PortRec) (s : State) (q : Port) (l : List NoticeBody) :
    ({ r with rx := .hunt } : PortRec).gains s q l = { r.gains s q l with rx := .hunt } := by
  unfold PortRec.gains
  induction l.filter (fun b => decide (q ∈ b.ports)) generalizing r with
  | nil => rfl
  | cons b l ih =>
    simp only [List.foldl_cons]
    rw [← ih]
    congr 1
    simp only [PortRec.enqueue]
    split <;> rfl

/-- R183, R187: the notices of a request's rule and its answer. -/
theorem Reply.answerTo_ports {s : State} {p : Port} {f : Frame} {r : Reply} {bodies : List NoticeBody}
    (h : QueuesGain (s.hunting p) r.state bodies) : PortsAnswer s (r.answerTo p f) p f r.status r.content bodies := fun q => by
  have hq := h q
  rw [PortRec.gains_time _ (t := s.hunting p) (s := s) rfl] at hq
  simp only [Reply.answerTo, Fin.getElem_fin, State.updPort_get] at hq ⊢
  rw [hq]
  simp only [State.hunting, State.updPort_get]
  by_cases hp : q = p
  · simp only [if_pos hp, PortRec.gains_hunt, PortRec.answered]
  · simp only [if_neg hp]

/-- What a request's rule writes, but for the ports, stands after its answer. -/
theorem Reply.answerTo_eq (r : Reply) (p : Port) (f : Frame) :
    r.answerTo p f = { r.state with ports := (r.answerTo p f).ports } := rfl

end Sys2Proof.Machine

namespace Sys2Proof.Machine

/-! ## The door bus -/

/-- Settles O16. -/
theorem pollAnswerBytesAreStored : Obligations.PollAnswerBytesAreStored := by
  intro s b
  refine ⟨fun framingError m kind received bad htx hlen => ?_, rfl, fun arrival htx => ?_,
    fun arrival m kind lock indicator check htx => ?_⟩
  · simp only [exec, execPollAnswerByteReceived, Bus.receive, htx, if_pos hlen]
  · cases arrival with
    | inWindow framingError => simp only [exec, execPollAnswerByteReceived, Bus.receive, htx]
    | outsideWindow => rfl
  · cases arrival with
    | inWindow framingError => simp only [exec, execPollAnswerByteReceived, Bus.receive, htx]
    | outsideWindow => rfl

theorem byteSum_append (l l' : List Byte) : byteSum (l ++ l') = byteSum l + byteSum l' := by
  have from' (a : Byte) (l : List Byte) : l.foldl (· + ·) a = a + byteSum l := by
    induction l generalizing a with
    | nil => simp [byteSum]
    | cons b l ih =>
      rw [byteSum, List.foldl_cons, List.foldl_cons, ih (a + b), ih (0 + b)]
      simp [BitVec.add_assoc]
  rw [byteSum, List.foldl_append, from']
  rfl

/-- R18: the check byte makes the sum zero. -/
theorem byteSum_checkOver (l : List Byte) : byteSum (l ++ [checkOver l]) = 0 := by
  rw [byteSum_append, checkOver]
  simp [byteSum]

/-- Settles O19. -/
theorem busChoosesNextTransaction : Obligations.BusChoosesNextTransaction := by
  refine ⟨fun s m kind lock indicator check htx => ?_, fun s m hrun hmay => ⟨fun htx => ?_, fun htx => ?_⟩,
    fun m toggle d => ⟨_, _, _, _, rfl, byteSum_checkOver [_, _, _, _]⟩⟩
  · simp only [exec, execDriveEnd, htx]
    exact ⟨_, rfl, s.busFree_chooses⟩
  · have hdue : (s.isRunning && (s.bus.modules[m]).any (pollEligible s.nowMs)) = true := by rw [hrun, hmay]; rfl
    simp only [exec, execModuleRetryDue, if_pos hdue]
    exact ⟨_, rfl, State.chooseNext_chooses htx⟩
  · have stays : s.chooseNext = s := by
      unfold State.chooseNext
      cases h : s.bus.tx with
      | idle => exact absurd h htx
      | poll => rfl
      | drive => rfl
    simp only [exec, execModuleRetryDue, stays, ite_self]

end Sys2Proof.Machine

namespace Sys2Proof.Machine

/-! ## The times a door waits for -/

/-- Recomputing a drive keeps everything of a door's record but its last drive and an owed chirp. -/
theorem DoorRec.driven_eq (y : DoorRec) (barred : Bool) :
    y.driven barred = { y with lastDrive := (y.driven barred).lastDrive, chirpOwed := (y.driven barred).chirpOwed } := by
  unfold DoorRec.driven
  dsimp only
  split <;> rfl

@[simp] theorem DoorRec.driven_state (y : DoorRec) (barred : Bool) : (y.driven barred).state = y.state := by rw [driven_eq]
@[simp] theorem DoorRec.driven_openingKind (y : DoorRec) (barred : Bool) : (y.driven barred).openingKind = y.openingKind := by
  rw [driven_eq]

theorem State.refreshDrive_only (s : State) (d : Door) :
    s.refreshDrive d = { s with doors := (s.refreshDrive d).doors, bus := (s.refreshDrive d).bus } := by
  apply State.ext_fields <;> simp

/-- R49: the DOOR_STATE notice of a configured door. -/
theorem State.notifyDoor_eq {s : State} {d : Door} {x : DoorRec} (h : s.doors[d] = some x) (previous : DoorState) (cause : DoorCause)
    (grant : Option Grant) :
    s.notifyDoor d previous cause grant =
      s.notify (.doorState d x.state previous cause grant (if x.state = .opened then x.openingKind else none)) := by
  simp only [State.notifyDoor, h]

/-- R47: the record of door `d` has become `y`, of the same configuration as the door's record `r` in `s`, with nothing but places, summaries
and notices changed besides; recomputing its drive then does this. -/
theorem State.refreshDrive_becomes {s u : State} {d : Door} {r y : DoorRec} (hu : u.doors = s.doors.put d (some y))
    (hc : y.cfg = r.cfg) (hb : u.bus = s.bus) (ht : u.time = s.time) (hz : u.bars r.cfg.inside = s.bars r.cfg.inside) :
    u.refreshDrive d = { u with doors := s.doors.put d (some (y.driven (s.bars r.cfg.inside))), bus := (u.refreshDrive d).bus } ∧
      DoorDrives s (u.refreshDrive d) y (s.bars r.cfg.inside) := by
  have at_d : u.doors[d] = some y := by simp [hu]
  refine ⟨?_, ?_⟩
  · conv_lhs => rw [State.refreshDrive_only]
    rw [State.refreshDrive_doors, at_d, Option.map_some, hc, hz, hu, Tab.put_put]
  · have := State.refreshDrive_drives at_d
    rw [hc, hz] at this
    exact this.congr hb.symm ht.symm rfl

/-- The item written is read back. -/
theorem Tab.getElem_put_self {α : Type} {n : Nat} (t : Tab α n) (i : Fin n) (x : α) : (t.put i x)[i] = x := by simp

/-- A notice touches the ports alone. -/
theorem State.notify_only (s : State) (b : NoticeBody) : s.notify b = { s with ports := (s.notify b).ports } := by
  apply State.ext_fields <;> simp

/-- R91: a zone's summary depends on the occupancy and the configured load of uncertainty alone. -/
theorem State.summaryOf_congr {s t : State} {z : Zone} (ho : t.occupancy = s.occupancy)
    (hz : (t.zones[z]).map (·.cfg) = (s.zones[z]).map (·.cfg)) : t.summaryOf z = s.summaryOf z := by
  have hl : t.uncertainLoad z = s.uncertainLoad z := by
    have := congrArg (fun o => (o.map (·.uncertainLoad)).getD 0) hz
    simpa [State.uncertainLoad, Function.comp_def] using this
  simp only [State.summaryOf, State.egressLoad, ho, hl]

/-- R78, R91: places are released, and the summary as it then stands is recorded: all it does. -/
theorem State.releasePlaces_eq (s : State) (z : Zone) (n : Nat) :
    s.releasePlaces z n =
      { s with
        occupancy := { s.occupancy with reserved := s.occupancy.reserved.put z (s.occupancy.reserved[z] - n) },
        zones := s.zones.put z ((s.zones[z]).map fun r => { r with summary := (s.releasePlaces z n).summaryOf z }) } := by
  have same : (s.releasePlaces z n).summaryOf z =
      (s.updOccupancy fun o => { o with reserved := o.reserved.put z (o.reserved[z] - n) }).summaryOf z :=
    State.summaryOf_congr rfl (by simp [State.releasePlaces, State.recordSummary, Function.comp_def])
  rw [same]
  rfl

/-- R47, R49: the same, with a notice behind it. -/
theorem State.refreshDrive_told {s u : State} {d : Door} {r y : DoorRec} {l : List NoticeBody} (hu : u.doors = s.doors.put d (some y))
    (hc : y.cfg = r.cfg) (hb : u.bus = s.bus) (ht : u.time = s.time) (hz : u.bars r.cfg.inside = s.bars r.cfg.inside)
    (hl : QueuesGain s u l) (b : NoticeBody) :
    let t := (u.refreshDrive d).notify b
    t = { u with doors := s.doors.put d (some (y.driven (s.bars r.cfg.inside))), bus := t.bus, ports := t.ports } ∧
      DoorDrives s t y (s.bars r.cfg.inside) ∧ QueuesGain s t (l ++ [b]) := by
  intro t
  obtain ⟨shape, drives⟩ := State.refreshDrive_becomes hu hc hb ht hz
  have doors : t.doors = s.doors.put d (some (y.driven (s.bars r.cfg.inside))) := by
    have : t.doors = (u.refreshDrive d).doors := by simp [t]
    rw [this, shape]
  refine ⟨?_, drives.congr rfl rfl (by simp [t]), ?_⟩
  · rw [← doors]
    apply State.ext_fields <;> simp [t]
  · exact (hl.congr rfl rfl (by simp)).notify (by simp [ht]) b

/-- R49: the door's record that has been driven tells of the same state. -/
theorem State.notifyDoor_driven {s u : State} {d : Door} {r y : DoorRec} (hu : u.doors = s.doors.put d (some y))
    (hc : y.cfg = r.cfg) (hb : u.bus = s.bus) (ht : u.time = s.time) (hz : u.bars r.cfg.inside = s.bars r.cfg.inside)
    (previous : DoorState) (cause : DoorCause) (grant : Option Grant) :
    (u.refreshDrive d).notifyDoor d previous cause grant =
      (u.refreshDrive d).notify (.doorState d y.state previous cause grant (if y.state = .opened then y.openingKind else none)) := by
  rw [State.notifyDoor_eq (x := y.driven (s.bars r.cfg.inside))
    (by rw [(State.refreshDrive_becomes hu hc hb ht hz).1]; exact Tab.getElem_put_self _ _ _),
    DoorRec.driven_state, DoorRec.driven_openingKind]

/-- R46, R47: the record of door `d` has become `x`, with nothing but notices changed besides; the denial display then does this. -/
theorem State.startDenial_becomes {s v : State} {d : Door} {r x : DoorRec} (hv : v.doors = s.doors.put d (some x))
    (hc : x.cfg = r.cfg) (hb : v.bus = s.bus) (ht : v.time = s.time) (hz : v.bars r.cfg.inside = s.bars r.cfg.inside) :
    let y : DoorRec := { x with denialEnd := some (s.nowMs + 2000), chirpOwed := true }
    v.startDenial d =
        { v with doors := s.doors.put d (some (y.driven (s.bars r.cfg.inside))), bus := (v.startDenial d).bus } ∧
      DoorDrives s (v.startDenial d) y (s.bars r.cfg.inside) := by
  intro y
  have hnow : v.nowMs = s.nowMs := by simp only [State.nowMs, ht]
  refine State.refreshDrive_becomes (y := y) ?_ hc hb ht hz
  simp only [State.updDoor_doors, hv, Tab.getElem_put_self, Option.map_some, Tab.put_put, hnow, y]

/-- Settles O21. -/
theorem unlockWindowLapses : Obligations.UnlockWindowLapses := by
  intro s d r g hr hs hg hexp y
  have hdue : (decide (r.state = .unlocked) && decide (g.expiry ≤ s.nowMs)) = true := by simp [hs, hexp]
  let u := (s.updDoor d fun x => { x with grant := none, state := .secure }).releasePlaces r.cfg.inside g.places
  have hud : u.doors = s.doors.put d (some y) := by
    simp only [u, (State.releasePlaces_frame _ _ _).2.2.2.2.1, State.updDoor_doors, hr, Option.map_some]
    rfl
  have hub : u.bus = s.bus := by simp [u]
  have hut : u.time = s.time := by simp [u]
  have huz : u.bars r.cfg.inside = s.bars r.cfg.inside := by simp [u]
  have told := State.notifyDoor_driven (y := y) (r := r) hud rfl hub hut huz r.state .windowExpired (some g)
  obtain ⟨shape, drives, gains⟩ := State.refreshDrive_told (y := y) (r := r) hud rfl hub hut huz
    (QueuesGain.of_ports (by simp [u])) (.doorState d .secure .unlocked .windowExpired (some g) none)
  have hlapse : s.lapseGrant d r g = (u.refreshDrive d).notify (.doorState d .secure .unlocked .windowExpired (some g) none) := by
    rw [State.lapseGrant, told, hs]
    rfl
  simp only [exec, execUnlockWindowExpiry, hr, hg, if_pos hdue, hlapse]
  refine ⟨_, rfl, ?_, drives, gains⟩
  rw [State.summaryOf_congr (s := u) (by simp) (by simp)]
  have hz : s.zones.put r.cfg.inside ((s.zones[r.cfg.inside]).map fun z => { z with summary := u.summaryOf r.cfg.inside }) =
      u.zones := (congrArg State.zones (State.releasePlaces_eq _ _ _)).symm
  rw [hz]
  exact shape

/-- Settles O22. -/
theorem doorTimesAreReached : Obligations.DoorTimesAreReached := by
  refine ⟨fun y barred => ⟨rfl, ?_⟩, fun s d r hr => ⟨fun e he hdue => ?_, fun since hs ho hdue => ?_,
    fun p who hp hdue hwho => ?_, fun e he hdue => ?_⟩⟩
  · simp only [doorIndicator, Option.isSome_iff_ne_none]
  · have : ¬s.nowMs < e := by omega
    simp only [exec, execWithdrawnWindowEnd, State.updDoor, hr, Option.map_some, he, Option.filter_some, decide_eq_true_eq,
      if_neg this]
  · have hlong : r.heldLongEnough s.nowMs = true := by simp [DoorRec.heldLongEnough, hs, ho, hdue]
    let y : DoorRec := { r with state := .heldOpen }
    let u := s.updDoor d fun x => { x with state := .heldOpen }
    have hud : u.doors = s.doors.put d (some y) := by simp only [u, y, State.updDoor_doors, hr, Option.map_some]
    have told := State.notifyDoor_driven (s := s) (y := y) (r := r) hud rfl rfl rfl rfl r.state .heldOpen none
    obtain ⟨shape, drives, gains⟩ := State.refreshDrive_told (y := y) (r := r) hud rfl rfl rfl rfl (QueuesGain.of_ports rfl)
      (.doorState d .heldOpen .opened .heldOpen none none)
    have : (u.refreshDrive d).notifyDoor d r.state .heldOpen none =
        (u.refreshDrive d).notify (.doorState d .heldOpen .opened .heldOpen none none) := by
      rw [told, hs]
      rfl
    simp only [exec, execHeldOpenLimit, hr, if_pos hlong]
    rw [this]
    exact ⟨_, rfl, ⟨shape, drives⟩, gains⟩
  · simp only [exec, execPairingExpiry, hr, Option.bind_some, hp, if_pos hdue, State.expirePairing, hwho, Option.map_some,
      Option.getD_some]
    obtain ⟨b, hb⟩ : ∃ b : NoticeBody, b = .accessDenied d .entryRead who.credential (some p.first.person) .pairTimeout p.first.duress :=
      ⟨_, rfl⟩
    obtain ⟨v, hv⟩ : ∃ v, v = (s.updDoor d fun x => { x with pairing := none }).notify b := ⟨_, rfl⟩
    have hvd : v.doors = s.doors.put d (some { r with pairing := none }) := by
      simp only [hv, (State.notify_frame _ _).2.2.2.2.1, State.updDoor_doors, hr, Option.map_some]
    obtain ⟨shape, drives⟩ := State.startDenial_becomes (s := s) (r := r) hvd rfl (by simp [hv]) (by simp [hv]) (by simp [hv])
    rw [← hb, ← hv]
    have hports : (v.startDenial d).ports = v.ports := by simp
    refine ⟨_, rfl, ⟨?_, drives⟩, ?_⟩
    · conv_lhs => rw [shape]
      rw [hports]
      apply State.ext_fields <;> simp [hv]
    · exact (State.notify_gains (s.updDoor d _) b).congr rfl rfl (by rw [hports, hv])
  · have hover : r.denialOver s.nowMs = true := by simp [DoorRec.denialOver, he, hdue]
    obtain ⟨u, hu⟩ : ∃ u, u = s.updDoor d fun x => { x with denialEnd := none } := ⟨_, rfl⟩
    have hud : u.doors = s.doors.put d (some { r with denialEnd := none }) := by
      simp only [hu, State.updDoor_doors, hr, Option.map_some]
    obtain ⟨shape, drives⟩ := State.refreshDrive_becomes (s := s) (r := r) hud rfl (by simp [hu]) (by simp [hu]) (by simp [hu])
    have hports : (u.refreshDrive d).ports = s.ports := by simp [hu]
    simp only [exec, execDenialDisplayEnd, hr, if_pos hover]
    rw [← hu]
    refine ⟨_, rfl, ⟨?_, drives⟩, hports⟩
    conv_lhs => rw [shape]
    rw [hports]
    apply State.ext_fields <;> simp [hu]

end Sys2Proof.Machine

namespace Sys2Proof.Machine

/-! ## The arguments of a request -/

theorem byteOf_toNat (n : Nat) : (byteOf n).toNat = n % 256 := by simp [byteOf]

/-- A number is read from the front of a payload whose first bytes spell it. -/
theorem Payload.number_append (front rest : List Byte) {size : Nat} (h : front.length = size) :
    Payload.number (front ++ rest) size = some (numberOf front, rest) := by
  subst h
  have : ¬(front ++ rest).length < front.length := by simp
  simp only [Payload.number, if_neg this, List.take_left, List.drop_left]

theorem Payload.number_cons (b : Byte) (rest : List Byte) : Payload.number (b :: rest) 1 = some (b.toNat, rest) := by
  rw [show b :: rest = [b] ++ rest from rfl, Payload.number_append [b] rest (size := 1) rfl]
  simp [numberOf]

@[simp] theorem numberOf_num2 (n : Nat) : numberOf (num2 n) = n % 65536 := by
  simp only [numberOf, num2, List.foldl_cons, List.foldl_nil, byteOf_toNat]
  omega

theorem Payload.number_num2 (n : Nat) (rest : List Byte) : Payload.number (num2 n ++ rest) 2 = some (n % 65536, rest) := by
  rw [Payload.number_append (num2 n) rest (size := 2) rfl, numberOf_num2]

/-- R184: one number of one byte. -/
@[simp] theorem readNumber_singleton (b : Byte) : readNumber [b] = some b.toNat := by
  simp only [readNumber, Payload.number_cons]
  rfl

/-- R184: a payload of another length is no number of one byte. -/
theorem readNumber_eq_none {l : List Byte} (h : l.length ≠ 1) : readNumber l = none := by
  match l, h with
  | [], _ => rfl
  | a :: b :: l, _ =>
    simp only [readNumber, Payload.number_cons]
    rfl

/-- R184: one person index. -/
theorem readIndex_num2 {i : Nat} (h : i < 65536) : readIndex (num2 i) = some i := by
  have := Payload.number_num2 i []
  rw [List.append_nil, Nat.mod_eq_of_lt h] at this
  simp only [readIndex, this]
  rfl

@[simp] theorem readNothing_nil : readNothing [] = some () := rfl

/-- A number that names a zone names it where it is configured. -/
theorem State.zoneNamed_of_eq {s : State} {z : Zone} {n : Nat} (h : z.val = n) :
    s.zoneNamed n = (s.zones[z]).map fun r => (z, r) := by
  subst h
  simp [State.zoneNamed]

theorem State.zoneNamed_eq_none {s : State} {n : Nat} (h : ∀ z : Zone, z.val = n → s.zones[z] = none) : s.zoneNamed n = none := by
  unfold State.zoneNamed
  split
  · next hn => simpa using h ⟨n, hn⟩ rfl
  · rfl

theorem State.doorNamed_of_eq {s : State} {d : Door} {n : Nat} (h : d.val = n) :
    s.doorNamed n = (s.doors[d]).map fun r => (d, r) := by
  subst h
  simp [State.doorNamed]

theorem State.doorNamed_eq_none {s : State} {n : Nat} (h : ∀ d : Door, d.val = n → s.doors[d] = none) : s.doorNamed n = none := by
  unfold State.doorNamed
  split
  · next hn => simpa using h ⟨n, hn⟩ rfl
  · rfl

theorem State.lineNamed_of_eq {s : State} {l : Line} {n : Nat} (h : l.val = n) :
    s.lineNamed n = (s.lines[l]).map fun r => (l, r) := by
  subst h
  simp [State.lineNamed]

theorem State.panelNamed_of_eq {s : State} {z : Zone} {n : Nat} (h : z.val = n) :
    s.panelNamed n = (s.link.panels[z]).map fun r => (z, r) := by
  subst h
  simp [State.panelNamed]

/-- A number of one byte keeps its value where it is below 256. -/
theorem byteOf_toNat_of_lt {n : Nat} (h : n < 256) : (byteOf n).toNat = n := by rw [byteOf_toNat, Nat.mod_eq_of_lt h]

theorem zone_byte (z : Zone) : (byteOf z.val).toNat = z.val := byteOf_toNat_of_lt (by omega)
theorem door_byte (d : Door) : (byteOf d.val).toNat = d.val := byteOf_toNat_of_lt (by omega)
theorem line_byte (l : Line) : (byteOf l.val).toNat = l.val := byteOf_toNat_of_lt (by omega)

/-- R97: a zone and a release kind. -/
@[simp] theorem readRelease_pair (n : Byte) (kind : ReleaseKind) : readRelease [n, releaseKindCode kind] = some (n.toNat, kind) := by
  simp only [readRelease, Payload.number_cons, Option.bind_eq_bind, Option.bind_some]
  cases kind <;> rfl

/-- R97: every other payload is none. -/
theorem readRelease_eq_none {l : List Byte} (h : ∀ n kind, l ≠ [n, releaseKindCode kind]) : readRelease l = none := by
  match l, h with
  | [], _ => rfl
  | [a], _ =>
    simp only [readRelease, Payload.number_cons]
    rfl
  | [a, b], h =>
    simp only [readRelease, Payload.number_cons, Option.bind_eq_bind, Option.bind_some]
    have auto : b.toNat ≠ 0 := fun e => h a .auto (by rw [BitVec.eq_of_toNat_eq (x := b) (y := 0) e]; rfl)
    have manual : b.toNat ≠ 1 := fun e => h a .manual (by rw [BitVec.eq_of_toNat_eq (x := b) (y := 1) e]; rfl)
    split <;> simp_all
  | a :: b :: c :: l, _ =>
    simp only [readRelease, Payload.number_cons, Option.bind_eq_bind, Option.bind_some]
    split <;> rfl

end Sys2Proof.Machine

namespace Sys2Proof.Machine

/-! ## The master ports -/

theorem not_frameLengthValid_iff (n : Nat) : (!frameLengthValid n) = true ↔ ¬(2 ≤ n ∧ n ≤ 250) := by
  simp [frameLengthValid]
  omega

/-- R180, R182: the bytes that discard a frame. -/
theorem PortRec.discards_of {r : PortRec} {b : Byte} {framingError : Bool} (hrx : r.rx ≠ .hunt)
    (h : framingError = true ∨ (r.rx = .length ∧ ¬(2 ≤ b.toNat ∧ b.toNat ≤ 250)) ∨
      ∃ n bytes first, r.rx = .check n bytes (some first) ∧ r.frameTaken b = none) : r.discards b framingError = true := by
  unfold PortRec.discards
  rcases h with h | ⟨hl, h⟩ | ⟨n, bytes, first, hc, h⟩
  · split <;> simp_all
  · rw [hl]
    dsimp only
    rw [Bool.or_eq_true, not_frameLengthValid_iff]
    exact .inr h
  · rw [hc]
    simp [h]

/-- Settles O37. -/
theorem portEventsFollowTheirRules : Obligations.PortEventsFollowTheirRules := by
  intro s p b framingError r
  refine ⟨fun hears hrx h => ?_, rfl, fun htx => ?_, fun hears => ?_, rfl⟩
  · have : (s.portHears p && (s.ports[portIndex p]).discards b framingError) = true := by
      rw [hears, PortRec.discards_of hrx h]
      rfl
    simp only [exec, execFrameDiscarded, if_pos this]
    rfl
  · simp only [exec, execAnswerTransmissionEnd, State.updPort]
    rw [if_pos (Option.isSome_iff_ne_none.mpr htx)]
  · simp only [exec, execPortRestart, if_pos hears]
    rfl

/-! ### The gathering of a frame -/

theorem State.portHears_updPort_rx (s : State) (p : Port) (f : PortRec → Assembly) :
    (s.updPort p fun r => { r with rx := f r }).portHears p = s.portHears p := by
  simp [State.portHears, State.updPort]

/-- R180: bytes received one by one advance the assembly one by one. -/
theorem execAll_bytes {s : State} {p : Port} (hears : s.portHears p = true) (l : List Byte) :
    execAll s (l.map (.masterPortByteReceived p)) = .next (s.updPort p fun r => { r with rx := l.foldl Assembly.byte r.rx }) := by
  induction l generalizing s with
  | nil =>
    simp only [List.map_nil, execAll, List.foldl_nil, State.updPort]
    rw [Tab.put_self]
  | cons b l ih =>
    have first : exec (.masterPortByteReceived p b) s = .next (s.updPort p fun r => { r with rx := r.rx.byte b }) := by
      simp only [exec, execMasterPortByteReceived, if_pos hears]
    simp only [List.map_cons, execAll, first]
    rw [ih ((s.portHears_updPort_rx p fun r => r.rx.byte b).trans hears)]
    simp [State.updPort]

/-- R180: the bytes of a body, up to the last. -/
theorem Assembly.foldl_body {n : Nat} {acc l : List Byte} (hn : acc.length + l.length = n) (hl : l ≠ []) :
    l.foldl Assembly.byte (.body n acc) = .check n (acc ++ l) none := by
  induction l generalizing acc with
  | nil => exact absurd rfl hl
  | cons b l ih =>
    simp only [List.length_cons] at hn
    simp only [List.foldl_cons, Assembly.byte]
    cases l with
    | nil =>
      simp only [List.length_nil] at hn
      rw [if_pos (by omega)]
      rfl
    | cons c l =>
      simp only [List.length_cons] at hn
      rw [if_neg (by omega), ih (by simp only [List.length_append, List.length_cons, List.length_nil]; omega) (List.cons_ne_nil _ _),
        List.append_assoc]
      rfl

/-- R180: the bytes of a whole frame but its last. -/
theorem Assembly.foldl_frame {kind tag first : Byte} {payload : List Byte} (h : payload.length ≤ 248) :
    (0xC3 :: (byteOf (payload.length + 2) :: kind :: tag :: payload ++ [first])).foldl Assembly.byte .hunt =
      .check (payload.length + 2) (kind :: tag :: payload) (some first) := by
  have hlen : (byteOf (payload.length + 2)).toNat = payload.length + 2 := byteOf_toNat_of_lt (by omega)
  have hvalid : frameLengthValid (payload.length + 2) = true := by simp [frameLengthValid]; omega
  have body := Assembly.foldl_body (n := payload.length + 2) (acc := []) (l := kind :: tag :: payload)
    (by simp only [List.length_nil, List.length_cons]; omega) (List.cons_ne_nil _ _)
  rw [List.foldl_cons, List.cons_append, List.foldl_cons, List.foldl_append]
  simp only [Assembly.byte, startByte, if_true, hlen, hvalid]
  rw [body]
  rfl

theorem frameCrcHolds_iff (n : Nat) (bytes : List Byte) (first second : Byte) :
    frameCrcHolds n bytes first second = true ↔ crcBytes (crc16 (byteOf n :: bytes)) = [first, second] := by
  simp only [frameCrcHolds, beq_iff_eq]

/-- Settles O36: the frame's bytes are taken one by one to the state of the assembly in which the second CRC byte is awaited. -/
theorem requestFrameIsGathered : Obligations.RequestFrameIsGathered := by
  intro s p kind tag first second payload hears hrx hlen covered hcrc
  have gathered : (0xC3 :: (covered ++ [first])).foldl Assembly.byte (s.ports[portIndex p]).rx =
      .check (payload.length + 2) (kind :: tag :: payload) (some first) := by
    rw [hrx]
    exact Assembly.foldl_frame hlen
  have rx : ((s.updPort p fun r => { r with rx := (0xC3 :: (covered ++ [first])).foldl Assembly.byte r.rx }).ports[portIndex p]).rx =
      .check (payload.length + 2) (kind :: tag :: payload) (some first) := by
    rw [← gathered]
    simp [State.updPort]
  refine ⟨_, execAll_bytes hears (0xC3 :: (covered ++ [first])), ?_, ?_, fun b hb => ?_⟩
  · rw [rx, ← gathered]
    rfl
  · rw [rx]
    simp only [Assembly.frame, (frameCrcHolds_iff _ _ _ _).mpr hcrc, if_true]
  · have differs : ¬frameCrcHolds (payload.length + 2) (kind :: tag :: payload) first b = true := fun h => by
      have := hcrc.symm.trans ((frameCrcHolds_iff _ _ _ _).mp h)
      simp only [List.cons.injEq, true_and, and_true] at this
      exact hb this.symm
    rw [rx]
    simp only [Assembly.frame, if_neg differs]

/-! ### The segments of an answer -/

/-- Pieces of equal length, the last cut short, are the front of a list. -/
theorem flatten_pieces {α : Type} (l : List α) (k n : Nat) :
    ((List.range n).map fun i => (l.drop (i * k)).take k).flatten = l.take (n * k) := by
  induction n with
  | zero => simp
  | succ n ih =>
    rw [List.range_succ, List.map_append, List.flatten_append, ih, Nat.succ_mul, List.take_add]
    simp

/-- Settles O38. -/
theorem answerSegmentsRejoin : Obligations.AnswerSegmentsRejoin := by
  intro f status content
  obtain ⟨n, hn⟩ : ∃ n, n = segmentCount content := ⟨_, rfl⟩
  have hn' : n = max 1 ((content.length + 245) / 246) := hn
  let piece (i : Nat) : List Byte := (content.drop (i * 246)).take 246
  have hlength (i : Nat) : (piece i).length = min 246 (content.length - i * 246) := by simp [piece]
  have hpieces : ((List.range n).map piece).length = n := by simp
  refine ⟨(List.range n).map piece, ?_, ?_, ?_, ?_, fun h => ?_, ?_⟩
  · rw [flatten_pieces, List.take_of_length_le]
    omega
  · intro h
    have := congrArg List.length h
    rw [hpieces, List.length_nil] at this
    omega
  · intro x hx
    obtain ⟨i, -, rfl⟩ := List.mem_map.mp hx
    rw [hlength]
    omega
  · intro x hx
    obtain ⟨i, hi, rfl⟩ := List.getElem_of_mem hx
    have hi' : i < n - 1 := by simpa using hi
    simp only [List.getElem_dropLast, List.getElem_map, List.getElem_range, hlength]
    omega
  · rw [hpieces]
    omega
  · have zipped : ((List.range n).map piece).zipIdx = (List.range n).map fun i => (piece i, i) := by
      apply List.ext_getElem <;> simp
    rw [zipped, List.map_map, hpieces, composeAnswer, ← hn]
    refine List.map_congr_left fun i _ => ?_
    simp only [segmentFrame, segmentContent, startByte, Function.comp_apply, piece, decide_eq_true_eq]

end Sys2Proof.Machine

namespace Sys2Proof.Machine

/-! ## Requests that are refused, read, or write one table -/

/-- R182: a frame taken that is of the kind of the request is checked and answered. -/
theorem State.takeRequest_checked {s : State} {p : Port} {b code : Byte} {f : Frame} (hears : s.portHears p = true)
    (taken : (s.ports[portIndex p]).frameTaken b = some f) (hc : f.kind = code) (early : Bool) (rights : Rights) (decide : Decide) :
    s.takeRequest p b code early rights decide = ((s.hunting p).checkRequest p early rights decide f.payload).answerTo p f := by
  simp only [State.takeRequest, hears, taken, hc, Bool.not_true, Bool.false_eq_true, if_false, if_true]
  rfl

/-- A rule that gives a status and some content and changes nothing but what `u` says. -/
theorem RequestReady.answers {s u : State} {p : Port} {b code : Byte} {f : Frame} (h : RequestReady s p b code f) (early : Bool)
    {rights : Rights} {decide : Decide} (hr : rights.allow p = true) {status : Status} {content : List Byte}
    (hd : decide (s.hunting p) p f.payload = ⟨u.hunting p, status, content⟩) :
    s.takeRequest p b code early rights decide = u.answered p f status content := by
  rw [State.takeRequest_decided h early rights decide hr, hd, State.answerTo_hunting]

/-- R182, R184: what every request of the table does with its frame. -/
theorem requestRow_takes (row : RequestRow) (h : row ∈ requestRows) (p : Port) (b : Byte) (s : State) :
    ∃ early decide, exec (row.command p b) s = .next (s.takeRequest p b row.code early row.rights decide) ∧
      (early = true → row.code = 0x01 ∧ row.rights = .all) := by
  simp only [requestRows, List.mem_cons, List.not_mem_nil, or_false] at h
  repeat' rcases h with rfl | h
  all_goals exact ⟨_, _, rfl, by simp⟩

/-- R97, R131: what every request that carries a zone number alone does where it names no configured zone. -/
theorem zoneRequestRow_takes (row : RequestRow) (h : row ∈ zoneRequestRows) (b : Byte) (s : State) :
    ∃ decide : Decide, exec (row.command .suppression b) s =
        .next (s.takeRequest .suppression b row.code false (.only .suppression) decide) ∧
      (∀ t payload, readNumber payload = none → decide t .suppression payload = t.reply .badFormat) ∧
      ∀ t payload n, readNumber payload = some n → t.zoneNamed n = none → decide t .suppression payload = t.reply .notFound := by
  simp only [zoneRequestRows, List.mem_cons, List.not_mem_nil, or_false] at h
  repeat' rcases h with rfl | h
  all_goals
    refine ⟨_, rfl, fun t payload h => ?_, fun t payload n h hz => ?_⟩
    · simp only [decideZone, decideTestRelease, h]
    · simp only [decideZone, decideTestRelease, State.onZone, h, hz]

/-- Settles O39. -/
theorem requestsAreChecked : Obligations.RequestsAreChecked := by
  refine ⟨fun s p b f hears taken => ⟨fun row hrow hkind => ⟨fun hrun hcode => ?_, fun hrun hright => ?_⟩, fun hother => ?_⟩,
    fun s b code f ready => ⟨fun row hrow hcode => ⟨fun hlen => ?_, fun n hpay hun => ?_⟩,
      fun hcode => ⟨fun hbad => ?_, fun n kind hpay hun => ?_⟩⟩⟩
  · obtain ⟨early, decide, hexec, hearly⟩ := requestRow_takes row hrow p b s
    have hlate : early = false := by
      cases early with
      | false => rfl
      | true => exact absurd (hearly rfl).1 hcode
    have hrun' : (s.hunting p).isRunning = false := hrun
    rw [hexec, State.takeRequest_checked hears taken hkind, State.checkRequest, hrun', hlate]
    exact congrArg _ (s.answerTo_hunting p f .notReady [])
  · obtain ⟨early, decide, hexec, -⟩ := requestRow_takes row hrow p b s
    have hrun' : (s.hunting p).isRunning = true := hrun
    rw [hexec, State.takeRequest_checked hears taken hkind, State.checkRequest, hrun', hright]
    exact congrArg _ (s.answerTo_hunting p f .notPermitted [])
  · have hcodes : f.kind ∉ requestCodes := by
      have : requestCodes = requestRows.map (·.code) := rfl
      rw [this, List.mem_map]
      rintro ⟨row, hrow, hk⟩
      exact hother row hrow hk.symm
    simp only [exec, execUnknownRequest, hears, taken, Bool.not_true, Bool.false_eq_true, if_false, if_neg hcodes]
    exact congrArg _ (s.answerTo_hunting p f .unknownRequest [])
  · obtain ⟨decide, hexec, hbad, -⟩ := zoneRequestRow_takes row hrow b s
    rw [hexec, ← hcode]
    exact congrArg _ (ready.answers (u := s) false rfl (hbad _ _ (readNumber_eq_none hlen)))
  · obtain ⟨decide, hexec, -, hnone⟩ := zoneRequestRow_takes row hrow b s
    rw [hexec, ← hcode]
    refine congrArg _ (ready.answers (u := s) false rfl (hnone _ _ n.toNat ?_ (State.zoneNamed_eq_none hun)))
    rw [hpay, readNumber_singleton]
  · subst hcode
    refine congrArg _ (ready.answers (u := s) false rfl ?_)
    simp only [decideRelease, readRelease_eq_none hbad]
    rfl
  · subst hcode
    refine congrArg _ (ready.answers (u := s) false rfl ?_)
    have : (s.hunting .suppression).zoneNamed n.toNat = none := State.zoneNamed_eq_none hun
    rw [hpay]
    simp only [decideRelease, readRelease_pair]
    cases kind <;> simp only [State.onZone, this] <;> rfl

/-! ### FETCH_NOTICES -/

/-- R188: the notices taken are the longest front of at most `room` notices that fills at most `space` bytes. -/
theorem noticesTaken_spec (p : Port) (room space : Nat) (queue : List Notice) :
    let size (k : Nat) := ((queue.take k).flatMap fun x => x.encode p).length
    let n := noticesTaken p room space queue
    n ≤ room ∧ n ≤ queue.length ∧ size n ≤ space ∧ (n = room ∨ n = queue.length ∨ space < size (n + 1)) := by
  induction room generalizing space queue with
  | zero => simp [noticesTaken]
  | succ room ih =>
    cases queue with
    | nil => simp [noticesTaken]
    | cons x rest =>
      simp only [noticesTaken]
      by_cases h : (x.encode p).length ≤ space
      · obtain ⟨hroom, hlen, hsize, hmost⟩ := ih (space - (x.encode p).length) rest
        simp only [if_pos h, List.take_succ_cons, List.flatMap_cons, List.length_append, List.length_cons] at hsize hmost ⊢
        omega
      · simp only [if_neg h, List.take_zero, List.flatMap_nil, List.length_nil, Nat.zero_add, List.take_succ_cons,
          List.flatMap_cons, List.length_append]
        omega

/-- Settles O42. -/
theorem fetchTakesTheFront : Obligations.FetchTakesTheFront := by
  intro s p b f ready hpay
  obtain ⟨hroom, hlen, hsize, hmost⟩ := noticesTaken_spec p 8 245 (s.ports[portIndex p]).queue
  refine ⟨noticesTaken p 8 245 (s.ports[portIndex p]).queue, hroom, hlen, hsize, hmost, ?_⟩
  refine congrArg _ (ready.answers false rfl ?_)
  have hqueue : ((s.hunting p).ports[portIndex p]).queue = (s.ports[portIndex p]).queue := by simp [State.hunting, State.updPort]
  simp only [decideFetchNotices, hpay, readNothing_nil, hqueue]
  refine congr (congrFun (congrArg Reply.mk ?_) _) ?_
  · simp [State.hunting, State.updPort]
    rfl
  · have hcount : fetchCount p (s.ports[portIndex p]).queue = noticesTaken p 8 245 (s.ports[portIndex p]).queue := rfl
    rw [listField, List.length_take, hcount, Nat.min_eq_left hlen]

/-! ### Reads -/

/-- What a read gives does not depend on the assembly. -/
theorem State.hunting_statusFields (s : State) (p : Port) : (s.hunting p).statusFields p = s.statusFields p := by
  have hqueue : ((s.hunting p).ports[portIndex p]).queue = (s.ports[portIndex p]).queue := by simp [State.hunting, State.updPort]
  simp only [State.statusFields, State.statusWhenRunning, hqueue]
  rfl

theorem State.hunting_alarmFields (s : State) (p : Port) : (s.hunting p).alarmFields p = s.alarmFields p := by
  cases p <;> rfl

/-- A read without arguments. -/
theorem State.readAll_nil (s : State) (content : List Byte) : s.readAll [] content = ⟨s, .ok, content⟩ := rfl

/-- A read of one item. -/
theorem State.readItem_some {α : Type} {s : State} {payload : List Byte} {find : Nat → Option α} {content : α → List Byte} {n : Nat}
    {x : α} (hn : readNumber payload = some n) (hx : find n = some x) : s.readItem payload find content = ⟨s, .ok, content x⟩ := by
  simp only [State.readItem, hn, hx]
  rfl

theorem State.readItem_none {α : Type} {s : State} {payload : List Byte} {find : Nat → Option α} {content : α → List Byte} {n : Nat}
    (hn : readNumber payload = some n) (hx : find n = none) : s.readItem payload find content = ⟨s, .notFound, []⟩ := by
  simp only [State.readItem, hn, hx]
  rfl

/-- R133: the list of troubles names the conditions that are present. -/
theorem State.mem_troubles (s : State) (c : Trouble) : c ∈ s.troubles ↔ s.Troubled c := by
  cases c with
  | pathFault o => simp [State.troubles, State.Troubled, Option.isSome_iff_ne_none]
  | abortLine l =>
    have fault (r : LineRec) : r.abortFault = true ↔
        (∃ z, r.cfg.role = .abortStation z) ∧ (r.reported = some .short ∨ r.reported = some .openCircuit) := by
      unfold LineRec.abortFault
      rcases r.cfg.role with d | d | z | z | o | _ <;> simp
      rcases r.reported with _ | k
      · simp
      · cases k <;> simp [LineClass.isFault]
    simp [State.troubles, State.Troubled, Option.any_eq_true, fault]
  | container c =>
    have unhealthy (k : ContainerState) : k.healthy = false ↔ k ≠ .normal ∧ k ≠ .high := by cases k <;> simp [ContainerState.healthy]
    simp [State.troubles, State.Troubled, Containers.configured, unhealthy, Option.isSome_iff_ne_none]
  | bank bank =>
    have all : bank ∈ allBanks := by cases bank <;> simp [allBanks]
    simp [State.troubles, State.Troubled, State.bankInService, all]
  | configuration =>
    simp only [State.troubles, State.Troubled, LoadFlags.any]
    simp
    tauto
  | module m => simp [State.troubles, State.Troubled, Option.any_eq_true]
  | notRecorded => simp [State.troubles, State.Troubled]

/-- The row of R133's table that a condition stands in. -/
def Trouble.row : Trouble → Nat
  | .pathFault _ => 0
  | .abortLine _ => 1
  | .container _ => 2
  | .bank _ => 3
  | .configuration => 4
  | .module _ => 5
  | .notRecorded => 6

/-- A list of conditions without repeats, all of the first `n` rows. -/
def InRows (n : Nat) (l : List Trouble) : Prop := l.Nodup ∧ ∀ c ∈ l, c.row < n

theorem InRows.append {n : Nat} {l m : List Trouble} (hl : InRows n l) (hm : m.Nodup) (hrow : ∀ c ∈ m, c.row = n) :
    InRows (n + 1) (l ++ m) := by
  obtain ⟨nodup, below⟩ := hl
  refine ⟨List.nodup_append.mpr ⟨nodup, hm, fun a ha b hb e => ?_⟩, fun c hc => ?_⟩
  · have := below a ha
    rw [e, hrow b hb] at this
    exact lt_irrefl _ this
  · rcases List.mem_append.mp hc with h | h
    · exact Nat.lt_succ_of_lt (below c h)
    · exact Nat.lt_succ_of_le (hrow c h).le

/-- A condition that may stand alone. -/
theorem nodup_ite_singleton {α : Type} (p : Prop) [Decidable p] (x : α) : (if p then [x] else []).Nodup := by
  split <;> simp

/-- R133: each condition is named once. -/
theorem State.troubles_nodup (s : State) : s.troubles.Nodup := by
  have numbered {n : Nat} (f : Fin n → Trouble) (hf : Function.Injective f) (p : Fin n → Bool) :
      (((List.finRange n).filter p).map f).Nodup := ((List.nodup_finRange n).filter p).map hf
  have containers : ((s.containers.configured.filter fun c => c.2.cfg.bank.isSome && !c.2.state.healthy).map fun c =>
      Trouble.container c.1).Nodup := by
    refine List.pairwise_map.mpr (List.Pairwise.filter _ (List.pairwise_filterMap.mpr ?_))
    refine (List.nodup_finRange 8).imp fun {a b} hab x hx y hy e => hab ?_
    obtain ⟨_, _, rfl⟩ := Option.map_eq_some_iff.mp hx
    obtain ⟨_, _, rfl⟩ := Option.map_eq_some_iff.mp hy
    exact Trouble.container.inj e
  have banks (p : Bank → Bool) : ((allBanks.filter p).map Trouble.bank).Nodup :=
    (List.Nodup.filter p (l := allBanks) (by decide)).map fun _ _ e => Trouble.bank.inj e
  have rows {α : Type} (l : List α) (f : α → Trouble) (n : Nat) (h : ∀ x, (f x).row = n) : ∀ c ∈ l.map f, c.row = n :=
    List.forall_mem_map.mpr fun x _ => h x
  have alone (p : Prop) [Decidable p] (c : Trouble) : ∀ x ∈ (if p then [c] else []), x.row = c.row := by
    intro x hx
    split at hx <;> simp_all
  suffices all : InRows 7 s.troubles from all.1
  refine InRows.append ?_ (nodup_ite_singleton _ _) (alone _ .notRecorded)
  refine InRows.append ?_ (numbered _ (fun _ _ e => Trouble.module.inj e) _) (rows _ _ 5 fun _ => rfl)
  refine InRows.append ?_ (nodup_ite_singleton _ _) (alone _ .configuration)
  refine InRows.append ?_ (banks _) (rows _ _ 3 fun _ => rfl)
  refine InRows.append ?_ containers (rows _ _ 2 fun _ => rfl)
  refine InRows.append ?_ (numbered _ (fun _ _ e => Trouble.abortLine.inj e) _) (rows _ _ 1 fun _ => rfl)
  exact ⟨numbered _ (fun _ _ e => Trouble.pathFault.inj e) _, List.forall_mem_map.mpr fun _ _ => Nat.zero_lt_one⟩

/-- Settles O40. -/
theorem readsAnswerAndChangeNothing : Obligations.ReadsAnswerAndChangeNothing := by
  refine ⟨fun s => ⟨?_, s.mem_troubles, s.troubles_nodup⟩, fun s p b f hrun hears taken hkind hpay => ?_,
    fun s p b code f ready => ⟨fun hpay => ⟨?_, ?_, ?_⟩, fun z hpay => ⟨fun r hr => ⟨?_, ?_⟩, fun hn => ⟨?_, ?_⟩⟩,
      fun d hpay hcode => ⟨fun r hr => ?_, fun hn => ?_⟩, fun l hpay hcode => ⟨fun r hr => ?_, fun hn => ?_⟩,
      fun i hi hpay hcode hp => ⟨fun r hr => ?_, fun hn => ?_⟩⟩⟩
  · have some' : s.troubles.isEmpty = false ↔ ∃ c, s.Troubled c := by
      rw [List.isEmpty_eq_false_iff_exists_mem]
      exact exists_congr s.mem_troubles
    cases hphase : s.loader.phase <;> simp [State.troubleOutput, State.isRunning, hphase, some']
  · have hrun' : (s.hunting p).isRunning = false := hrun
    refine congrArg _ ((State.takeRequest_checked hears taken hkind true .all decideReadStatus).trans ?_)
    rw [← State.answerTo_hunting, State.checkRequest, hrun', hpay]
    have hfields : (s.hunting p).statusFields p = 0 :: (num4 s.nowSec ++ optField dateTimeField s.time.tod) := by
      rw [State.hunting_statusFields, State.statusFields, hrun]
      simp only [Bool.false_eq_true, if_false, List.append_nil]
      rfl
    simp only [Bool.not_false, Bool.not_true, Bool.and_false, Bool.false_eq_true, if_false, Rights.allow, decideReadStatus,
      State.readAll_nil, hfields]
  · rintro rfl
    refine congrArg _ (ready.answers (u := s) _ rfl ?_)
    rw [decideReadStatus, hpay, State.readAll_nil, State.hunting_statusFields]
  · rintro rfl
    refine congrArg _ (ready.answers (u := s) _ rfl ?_)
    rw [decideReadAlarms, hpay, State.readAll_nil, State.hunting_alarmFields]
  · rintro rfl
    exact congrArg _ (ready.answers (u := s) _ rfl (by rw [decideReadBanks, hpay, State.readAll_nil]; rfl))
  · rintro rfl
    refine congrArg _ (ready.answers (u := s) _ rfl ?_)
    exact State.readItem_some (x := (z, r)) (by rw [hpay, readNumber_singleton, zone_byte])
      ((State.zoneNamed_of_eq rfl).trans (congrArg _ hr))
  · rintro rfl
    refine congrArg _ (ready.answers (u := s) _ rfl ?_)
    exact State.readItem_some (x := (z, r)) (by rw [hpay, readNumber_singleton, zone_byte])
      ((State.zoneNamed_of_eq rfl).trans (congrArg _ hr))
  · rintro rfl
    refine congrArg _ (ready.answers (u := s) _ rfl ?_)
    exact State.readItem_none (by rw [hpay, readNumber_singleton, zone_byte]) ((State.zoneNamed_of_eq rfl).trans (congrArg _ hn))
  · rintro rfl
    refine congrArg _ (ready.answers (u := s) _ rfl ?_)
    exact State.readItem_none (by rw [hpay, readNumber_singleton, zone_byte]) ((State.zoneNamed_of_eq rfl).trans (congrArg _ hn))
  · subst hcode
    refine congrArg _ (ready.answers (u := s) _ rfl ?_)
    exact State.readItem_some (x := (d, r)) (by rw [hpay, readNumber_singleton, door_byte])
      ((State.doorNamed_of_eq rfl).trans (congrArg _ hr))
  · subst hcode
    refine congrArg _ (ready.answers (u := s) _ rfl ?_)
    exact State.readItem_none (by rw [hpay, readNumber_singleton, door_byte]) ((State.doorNamed_of_eq rfl).trans (congrArg _ hn))
  · subst hcode
    refine congrArg _ (ready.answers (u := s) _ rfl ?_)
    exact State.readItem_some (x := (l, r)) (by rw [hpay, readNumber_singleton, line_byte])
      ((State.lineNamed_of_eq rfl).trans (congrArg _ hr))
  · subst hcode
    refine congrArg _ (ready.answers (u := s) _ rfl ?_)
    exact State.readItem_none (by rw [hpay, readNumber_singleton, line_byte]) ((State.lineNamed_of_eq rfl).trans (congrArg _ hn))
  · subst hcode hp
    have hr' : (s.hunting .access).personAt i = some r := hr
    refine congrArg _ (ready.answers (u := s) _ rfl ?_)
    simp only [decideReadPerson, hpay, readIndex_num2 hi, hr']
    rfl
  · subst hcode hp
    have hn' : (s.hunting .access).personAt i = none := hn
    refine congrArg _ (ready.answers (u := s) _ rfl ?_)
    simp only [decideReadPerson, hpay, readIndex_num2 hi, hn']
    rfl

/-! ### Duress marks -/

theorem pairingField_false (p : Pairing) : pairingField false { p with first := p.first.unmarked } = pairingField false p := rfl

theorem optField_map {α β : Type} (f : β → List Byte) (g : α → β) (o : Option α) : optField f (o.map g) = optField (f ∘ g) o := by
  cases o <;> rfl

theorem listField_map {α β : Type} (f : β → List Byte) (g : α → β) (l : List α) : listField f (l.map g) = listField (f ∘ g) l := by
  simp only [listField, List.length_map, List.flatMap_map]
  rfl

theorem grantRecordField_false (g : Grant) :
    grantRecordField false { g with persons := g.persons.map (·.unmarked) } = grantRecordField false g := by
  simp only [grantRecordField, listField_map]
  rfl

/-- Settles O41. -/
theorem suppressionSeesNoDuressMarks : Obligations.SuppressionSeesNoDuressMarks := by
  intro s d r z x
  refine ⟨?_, ?_⟩
  · have grants : optField (grantRecordField false) r.unmarked.grant = optField (grantRecordField false) r.grant := by
      rw [DoorRec.unmarked, optField_map]
      exact congrArg (fun f => optField f r.grant) (funext grantRecordField_false)
    have pairings : optField (pairingField false) r.unmarked.pairing = optField (pairingField false) r.pairing := by
      rw [DoorRec.unmarked, optField_map]
      exact congrArg (fun f => optField f r.pairing) (funext pairingField_false)
    simp only [State.doorFields, DoorRec.fields, showsMarks, grants, pairings]
    rfl
  · have entries : ({ s with occupancy := s.occupancy.unmarked } : State).occupancy.entriesIn z =
        (s.occupancy.entriesIn z).map fun e => { e with duress := false } := by
      simp only [Occupancy.entriesIn, Occupancy.unmarked, List.filter_map]
      rfl
    have summary : ({ s with occupancy := s.occupancy.unmarked } : State).summaryOf z = s.summaryOf z := by
      simp only [State.summaryOf, State.egressLoad, entries, List.length_map, List.map_map]
      rfl
    simp only [State.occupancyFields, summary, entries, listField_map]
    rfl

/-! ### Tables -/

/-- Settles O44. -/
theorem tablesAreWrittenByRequest : Obligations.TablesAreWrittenByRequest := by
  intro s b code f
  refine ⟨fun ready => ⟨?_, ?_, ?_, ?_⟩, fun ready hcode z panel hpanel => ⟨fun x y hpay => ?_, fun hpay hempty => ?_⟩⟩
  · rintro rfl
    refine ⟨fun g permissions hread => congrArg _ (ready.answers _ rfl ?_), fun hread => congrArg _ (ready.answers (u := s) _ rfl ?_)⟩
    · simp only [decideWriteGroup, hread]
      rfl
    · simp only [decideWriteGroup, hread]
      rfl
  · rintro rfl n lists hread
    have hready : (s.hunting .access).schedules.ready = s.schedules.ready := rfl
    split
    · next h =>
      refine congrArg _ (ready.answers (u := s) _ rfl ?_)
      simp only [decideStageSchedule, hread, hready, if_pos h]
      rfl
    · next h =>
      refine congrArg _ (ready.answers _ rfl ?_)
      simp only [decideStageSchedule, hread, hready, if_neg h]
      rfl
  · rintro rfl dates hread
    have hready : (s.hunting .access).schedules.ready = s.schedules.ready := rfl
    split
    · next h =>
      refine congrArg _ (ready.answers (u := s) _ rfl ?_)
      simp only [decideStageHolidays, hread, if_pos h]
      rfl
    · next h =>
      split
      · next h' =>
        refine congrArg _ (ready.answers (u := s) _ rfl ?_)
        simp only [decideStageHolidays, hread, hready, if_neg h, if_pos h']
        rfl
      · next h' =>
        refine congrArg _ (ready.answers _ rfl ?_)
        simp only [decideStageHolidays, hread, hready, if_neg h, if_neg h']
        rfl
  · rintro rfl hpay
    refine congrArg _ (ready.answers _ rfl ?_)
    rw [decideCommitSchedules, hpay]
    rfl
  · subst hcode
    have hnamed : (s.hunting .console).panelNamed (byteOf z.val).toNat = some (z, panel) := by
      rw [State.panelNamed_of_eq (zone_byte z).symm]
      exact congrArg _ hpanel
    intro shown
    have hshown (c : Byte) : panelCharacter c = shown c := by simp [panelCharacter, shown]
    split
    · next h =>
      refine congrArg _ (ready.answers (u := s) _ rfl ?_)
      simp only [decidePanelText, hpay, readPanelText, hnamed, if_pos h]
      rfl
    · next h =>
      refine congrArg _ (ready.answers _ rfl ?_)
      simp only [decidePanelText, hpay, readPanelText, hnamed, if_neg h, hshown]
      refine congr (congrFun (congrArg Reply.mk ?_) _) rfl
      rw [State.updPanel, show (s.hunting .console).link.panels[z] = some panel from hpanel]
      rfl
  · subst hcode
    have hnamed : (s.hunting .console).panelNamed (byteOf z.val).toNat = some (z, panel) := by
      rw [State.panelNamed_of_eq (zone_byte z).symm]
      exact congrArg _ hpanel
    have hfree : ¬panel.buffer.isSome = true := by simp [hempty]
    refine congrArg _ (ready.answers _ rfl ?_)
    simp only [decidePanelText, hpay, readPanelText, hnamed, if_neg hfree]
    refine congr (congrFun (congrArg Reply.mk ?_) _) rfl
    rw [State.updPanel, show (s.hunting .console).link.panels[z] = some panel from hpanel]
    rfl

end Sys2Proof.Machine

namespace Sys2Proof.Machine

/-! ## Line scans -/

theorem LineRec.scanDue_iff (r : LineRec) (now : Nat) : r.scanDue now = true ↔ ∀ t, r.lastScan = some t → t + 10 ≤ now := by
  simp [LineRec.scanDue, Option.all_eq_true]

/-- R1: a due scan of a configured line is taken. -/
theorem exec_lineScan_due {s : State} {l : Line} {r : LineRec} (code : Byte) (hrun : s.isRunning = true) (hr : s.lines[l] = some r)
    (hdue : ∀ t, r.lastScan = some t → t + 10 ≤ s.nowMs) : exec (.lineScan l code) s = .next (s.scanLine l r code) := by
  have : (s.isRunning && r.scanDue s.nowMs) = true := by rw [hrun, (r.scanDue_iff _).mpr hdue]; rfl
  simp only [exec, execLineScan, hr, if_pos this]

/-- R5: a scan that leaves the reported class as it was hands nothing over. -/
theorem State.reportScan_same {s : State} {l : Line} {x : LineRec} {previous : Option LineClass} (h : x.reported = previous)
    (stamp : Nat) : s.reportScan l x previous stamp = s := by
  unfold State.reportScan
  split
  · rfl
  · next new hnew => rw [if_pos (h.symm.trans hnew)]

/-- Settles O14. -/
theorem scanWithoutReportChangesOnlyItsLine : Obligations.ScanWithoutReportChangesOnlyItsLine := by
  intro s l code r hrun hr k n due
  refine ⟨fun hdue hquiet => ?_, fun hnot => ?_⟩
  · have hscan : r.scanned code s.nowMs =
        { r with
          code := some code, measured := some k, lastScan := some s.nowMs,
          candidate := if r.reported = some k then none else some k, count := if r.reported = some k then 0 else n } := by
      have hk : r.cfg.measure r.measured code.toNat = k := rfl
      simp only [LineRec.scanned, hk, LineRec.debounced]
      by_cases hrep : r.reported = some k
      · simp only [if_pos hrep]
      · have hless : ¬r.cfg.role.debounce ≤ n := by
          have := hquiet.resolve_left hrep
          omega
        simp only [if_neg hrep]
        exact if_neg hless
    rw [exec_lineScan_due code hrun hr hdue, State.scanLine, State.reportScan_same (by rw [hscan]), hscan, State.updLine, hr]
    rfl
  · have : ¬(s.isRunning && r.scanDue s.nowMs) = true := by
      rw [hrun, Bool.true_and, r.scanDue_iff]
      exact hnot
    simp only [exec, execLineScan, hr, if_neg this]

end Sys2Proof.Machine

namespace Sys2Proof.Machine

/-! ## The pendant line's receiver -/

theorem pendantLengthValid_iff (n : Nat) : pendantLengthValid n = true ↔ 8 ≤ n ∧ n ≤ 32 := by simp [pendantLengthValid]

/-- Settles O33, by the state of the receiver. -/
theorem pendantReceiverFollowsItsTable : Obligations.PendantReceiverFollowsItsTable := by
  intro s b hrun with' discards
  have taken : exec (.pendantLineByteReceived b) s = .next (s.updAlarms (·.byte b)) := by
    simp only [exec, execPendantLineByteReceived, if_pos hrun]
  have bad (framingError : Bool) :
      exec (.pendantByteError b framingError) s = .next (s.updAlarms (·.badByte b framingError s.nowMs)) := by
    simp only [exec, execPendantByteError, if_pos hrun]
  have gap : exec .pendantGapTimeout s = .next (s.updAlarms (·.gap s.nowMs)) := by
    simp only [exec, execPendantGapTimeout, if_pos hrun]
  refine ⟨fun hrx => ⟨fun hvalid => ?_, ?_, fun hvalid => ?_, ?_⟩, fun n bytes hrx => ⟨fun hlen => ?_, ?_, ?_⟩,
    fun hrx => ⟨?_, fun framingError => ?_, ?_⟩⟩
  · rw [taken]
    simp only [State.updAlarms, Alarms.byte, hrx, if_pos ((pendantLengthValid_iff _).mpr hvalid)]
    rfl
  · rw [bad]
    simp only [State.updAlarms, Alarms.badByte, hrx, if_true]
    rfl
  · rw [bad]
    rw [← pendantLengthValid_iff] at hvalid
    simp only [State.updAlarms, Alarms.badByte, hrx, Bool.false_eq_true, if_false, if_neg hvalid]
    rfl
  · rw [gap]
    simp only [State.updAlarms, Alarms.gap, hrx]
  · rw [taken]
    simp only [State.updAlarms, Alarms.byte, hrx, if_pos hlen]
    rfl
  · rw [bad]
    simp only [State.updAlarms, Alarms.badByte, hrx, if_true]
    rfl
  · rw [gap]
    simp only [State.updAlarms, Alarms.gap, hrx]
    rfl
  · rw [taken]
    simp only [State.updAlarms, Alarms.byte, hrx]
  · rw [bad]
    simp only [State.updAlarms, Alarms.badByte, hrx]
  · rw [gap]
    simp only [State.updAlarms, Alarms.gap, hrx]
    rfl

/-! ## The warning panels -/

/-- R169, R193: a frame's check byte is the negated sum of its others. -/
theorem panelFrame_eq (address code first second : Byte) :
    panelFrame address code first second = ⟨address, code, first, second, -(address + code + first + second)⟩ := by
  simp [panelFrame, checkOver, byteSum]

/-- R172: the slot of a panel in service carries its frame. -/
theorem State.serveSlot_some {s : State} {z : Zone} {p q : PanelRec} {frame : PanelFrame} (hp : s.link.panels[z] = some p)
    (h : p.serve (byteOf z.val) s.link.cadences = (q, frame)) :
    s.serveSlot z =
      { s with link := { s.link with panels := s.link.panels.put z (some q), frame := some frame, nextSlot := z + 1 } } := by
  simp only [State.serveSlot, hp, h]

/-- R172: a panel that owes an off pair. -/
theorem PanelRec.serve_off {p : PanelRec} (h : p.offOwed = true) (address : Byte) (cadences : Tab Cadence 4) :
    p.serve address cadences = ({ p with offOwed := false, count := p.count + 1 }, panelFrame address 0x02 0 0) := by
  simp only [PanelRec.serve, if_pos h]

/-- R172, R173: a panel whose cadence begins a timed step. -/
theorem PanelRec.serve_step {p : PanelRec} {i : Fin 4} {run after : CadenceRun} {k : Nat} {sound : Bool} {cadences : Tab Cadence 4}
    (hoff : p.offOwed = false) (hrun : p.run = some run) (hi : cadenceOf p.display = some i) (hleft : run.left = 0)
    (hreach : CadenceReaches cadences[i].steps k run.position run.stack sound after) (hk : k < 65536) (address : Byte) :
    p.serve address cadences =
      ({ p with run := some after, count := p.count + 1 },
        panelFrame address 0x02 (if sound = true then 1 else 0) (byteOf cadences[i].tone)) := by
  have hstep : takeStep cadences[i].steps cadenceFuel run.position run.stack = some (sound, after) := by
    have := takeStep_of_reaches hreach (65535 - k)
    rwa [show k + 1 + (65535 - k) = cadenceFuel by simp only [cadenceFuel]; omega] at this
  have hleft' : ¬0 < run.left := by omega
  simp only [PanelRec.serve, hoff, Bool.false_eq_true, if_false, hrun, hi, if_neg hleft', hstep]

/-- R172: a panel in whose slot no sounder pair is due. -/
theorem PanelRec.serve_quietly {p q : PanelRec} (hoff : p.offOwed = false)
    (h : (p.run = none ∧ q = p) ∨
      ∃ run, p.run = some run ∧ cadenceOf p.display ≠ none ∧ 0 < run.left ∧ q = { p with run := some { run with left := run.left - 1 } })
    (address : Byte) (cadences : Tab Cadence 4) : p.serve address cadences = q.serveQuietly address := by
  rcases h with ⟨hrun, rfl⟩ | ⟨run, hrun, hcad, hleft, rfl⟩
  · simp only [PanelRec.serve, hoff, Bool.false_eq_true, if_false, hrun]
  · obtain ⟨i, hi⟩ := Option.ne_none_iff_exists'.mp hcad
    simp only [PanelRec.serve, hoff, Bool.false_eq_true, if_false, hrun, hi, if_pos hleft]

theorem PanelRec.stateDue_iff (p : PanelRec) :
    p.stateDue = true ↔ p.lastSent ≠ some (p.display, p.seconds) ∨ 8 ≤ p.count + 1 := by
  simp [PanelRec.stateDue]

theorem PanelRec.serveQuietly_address (p : PanelRec) (address : Byte) : (p.serveQuietly address).2.address = address := by
  unfold PanelRec.serveQuietly
  split
  · rfl
  · split <;> rfl

/-- R172: a panel's frame carries its address. -/
theorem PanelRec.serve_address (p : PanelRec) (address : Byte) (cadences : Tab Cadence 4) :
    (p.serve address cadences).2.address = address := by
  unfold PanelRec.serve
  split
  · rfl
  · split
    · split
      · exact PanelRec.serveQuietly_address _ _
      · split
        · rfl
        · exact PanelRec.serveQuietly_address _ _
    · exact PanelRec.serveQuietly_address _ _

/-- Settles O35. -/
theorem slotBoundaryCarriesOneFrame : Obligations.SlotBoundaryCarriesOneFrame := by
  intro s hrun hdue z next refresh sends
  have boundary : exec .slotBoundary s = .next ({ s with link := { s.link with nextBoundary := next } } : State).takeBoundary := by
    have : (s.isRunning && decide (s.link.nextBoundary ≤ s.nowMs)) = true := by simp [hrun, hdue]
    simp only [exec, execSlotBoundary, if_pos this]
    rfl
  have service (hq : s.link.quiet = false) (hi : s.link.allIdle = false) :
      exec .slotBoundary s = .next (({ s with link := { s.link with nextBoundary := next } } : State).serveSlot z) := by
    have hi' : ({ s with link := { s.link with nextBoundary := next } } : State).link.allIdle = false := hi
    rw [boundary, State.takeBoundary, hi']
    simp only [hq, Bool.false_eq_true, if_false]
    rfl
  have sent (hq : s.link.quiet = false) (hi : s.link.allIdle = false) {p q : PanelRec} {code first second : Byte}
      (hp : s.link.panels[z] = some p)
      (h : p.serve (byteOf z.val) s.link.cadences = (q, panelFrame (byteOf z.val) code first second)) :
      sends code first second q := by
    rw [panelFrame_eq] at h
    exact (service hq hi).trans
      (congrArg _ (State.serveSlot_some (s := { s with link := { s.link with nextBoundary := next } }) hp h))
  have idle : ({ s with link := { s.link with nextBoundary := next } } : State).link.allIdle = s.link.allIdle := rfl
  have hrefresh : refreshFrame = refresh := panelFrame_eq _ _ _ _
  refine ⟨fun hq hi => ⟨fun hp => ?_, fun p hp => ⟨fun hoff => sent hq hi hp (PanelRec.serve_off hoff _ _), fun hoff =>
      ⟨fun i run k sound after hrun' hcad hleft hreach hk =>
        sent hq hi hp (PanelRec.serve_step hoff hrun' hcad hleft hreach hk _ ), fun q hcase => ?_⟩⟩⟩, fun hq hi => ?_,
    fun hq hi => ⟨fun hsince => ?_, fun hsince => ?_⟩, fun hq hi => ?_⟩
  · rw [service hq hi]
    simp only [State.serveSlot, hp]
  · have quietly := PanelRec.serve_quietly hoff hcase (byteOf z.val) s.link.cadences
    have same : q.display = p.display ∧ q.seconds = p.seconds ∧ q.lastSent = p.lastSent ∧ q.count = p.count ∧ q.buffer = p.buffer := by
      rcases hcase with ⟨-, rfl⟩ | ⟨run, -, -, -, rfl⟩ <;> exact ⟨rfl, rfl, rfl, rfl, rfl⟩
    obtain ⟨hdisplay, hseconds, hlast, hcount, hbuffer⟩ := same
    have due := q.stateDue_iff
    rw [hdisplay, hseconds, hlast, hcount] at due
    intro isDue
    refine ⟨fun h => sent hq hi hp (quietly.trans ?_), fun h => ⟨fun x y hb => sent hq hi hp (quietly.trans ?_),
      fun hb => sent hq hi hp (quietly.trans ?_), fun hb => sent hq hi hp (quietly.trans ?_)⟩⟩
    · rw [PanelRec.serveQuietly, if_pos (due.mpr h), hdisplay, hseconds]
    · rw [PanelRec.serveQuietly, if_neg (due.not.mpr h), hbuffer, hb, hcount]
    · rw [PanelRec.serveQuietly, if_neg (due.not.mpr h), hbuffer, hb, hcount]
    · rw [PanelRec.serveQuietly, if_neg (due.not.mpr h), hbuffer, hb, hcount]
  · rw [boundary, State.takeBoundary, idle, if_neg (by simp [hq]), if_pos hi, State.fallQuiet, hrefresh]
  · rw [boundary, State.takeBoundary, idle, if_pos hq, if_pos hi, State.quietBoundary, if_neg (by simp [refreshInterval]; omega)]
  · rw [boundary, State.takeBoundary, idle, if_pos hq, if_pos hi, State.quietBoundary, if_pos (by simpa [refreshInterval] using hsince), hrefresh]
  · rw [boundary, State.takeBoundary, idle, if_pos hq, if_neg (by simp [hi]), State.returnToService]
    refine ⟨_, rfl, ?_⟩
    unfold State.serveSlot
    split
    · next hn =>
      refine ⟨rfl, rfl, rfl, rfl, fun y hy => rfl, fun p hp => absurd (hn.symm.trans hp) (by simp)⟩
    · next p hp =>
      refine ⟨rfl, rfl, rfl, rfl, fun y hy => ?_, fun x hx => ⟨_, rfl, ?_⟩⟩
      · have : (0 : Zone).val ≠ y.val := fun e => hy (Fin.ext e.symm)
        exact (Tab.getElem_put _ _ _ _ _).trans (if_neg this)
      · exact p.serve_address _ _

end Sys2Proof.Machine

namespace Sys2Proof.Machine

/-! ## Agent containers -/

/-! ### Levels and states -/

/-- R142: the kept readings give the average and its level. -/
theorem ContainerRec.addReading_level (r : ContainerRec) (reading : Nat) :
    (r.addReading reading).level = some (levelOf r.cfg (if r.holdMark then none else r.level)
      ((r.joined reading).sum / (r.joined reading).length)) := by
  have kept : (r.joined reading).isEmpty = false := by simp [ContainerRec.joined]
  simp [ContainerRec.addReading, ContainerRec.average, kept]

/-- Settles O32. -/
theorem levelsAndStatesAreFound : Obligations.LevelsAndStatesAreFound := by
  refine ⟨fun c a => ⟨rfl, rfl, rfl, ?_⟩, fun r reading => r.addReading_level reading, fun r => ?_, fun n required hreq => ?_⟩
  · have : c.high < a + c.hysteresis ↔ (c.high : Int) - c.hysteresis < a := by omega
    simp only [levelOf, ← this]
  · simp only [ContainerRec.foundState]
    cases hstale : r.stale
    · cases hfault : r.sensorFault
      · rcases hlevel : r.level with _ | l
        · simp [ContainerState.healthy]
        · cases l <;> simp [ContainerState.healthy]
      · simp [ContainerState.healthy]
    · simp [ContainerState.healthy]
  · simp only [bankStateFor]
    split_ifs <;> simp <;> omega

/-! ### Decoding -/

/-- R140: the nibble value of a pulse, rounded to nearest with halves upward. -/
theorem nibbleOf_eq_some_iff {c v p : Nat} (hc : 0 < c) (hv : v ≤ 15) :
    nibbleOf c p = some v ↔ (2 * v + 23) * c ≤ 112 * p ∧ 112 * p < (2 * v + 25) * c := by
  have hpos : 0 < 2 * c := by omega
  have low : v + 12 ≤ (p * 112 + c) / (2 * c) ↔ (2 * v + 23) * c ≤ 112 * p := by
    rw [Nat.le_div_iff_mul_le hpos, show (v + 12) * (2 * c) = (2 * v + 23) * c + c by ring]
    omega
  have high : (p * 112 + c) / (2 * c) < v + 13 ↔ 112 * p < (2 * v + 25) * c := by
    rw [Nat.div_lt_iff_lt_mul hpos, show (v + 13) * (2 * c) = (2 * v + 25) * c + c by ring]
    omega
  rw [← low, ← high]
  obtain ⟨u, hu⟩ : ∃ u, (p * 112 + c) / (2 * c) = u := ⟨_, rfl⟩
  simp only [nibbleOf, hu, Bool.and_eq_true, decide_eq_true_eq]
  split <;> simp <;> omega

theorem calibrationAccepted_iff (nominal p : Nat) :
    calibrationAccepted nominal p = true ↔ 4 * nominal ≤ 5 * p ∧ 5 * p ≤ 6 * nominal := by
  simp [calibrationAccepted]

theorem calibrationJumps_iff (previous : Option Nat) (p : Nat) :
    calibrationJumps previous p = true ↔ ∃ c, previous = some c ∧ c < (max p c - min p c) * 64 := by
  simp [calibrationJumps, Option.any_eq_true]

section
variable {r : ContainerRec} {nominal cycles now p : Nat}

/-- R137: an edge behind the first is examined by the decoder. -/
theorem ContainerRec.edge_seen (h : r.edgeSeen = true) :
    r.edge nominal cycles now =
      match r.decoder with
      | .hunting => r.hunt nominal (min 1048575 cycles) now
      | .collecting c nibbles => r.collect nominal c nibbles (min 1048575 cycles) now := by
  simp only [ContainerRec.edge, h, Bool.not_true, Bool.false_eq_true, if_false]
  rfl

theorem ContainerRec.hunt_rejects (hd : r.decoder = .hunting) (h : ¬(4 * nominal ≤ 5 * p ∧ 5 * p ≤ 6 * nominal)) :
    r.hunt nominal p now = r := by
  rw [← calibrationAccepted_iff, Bool.not_eq_true] at h
  simp only [ContainerRec.hunt, h, Bool.not_false, if_true]
  rw [← hd]

theorem ContainerRec.hunt_jumps (h : 4 * nominal ≤ 5 * p ∧ 5 * p ≤ 6 * nominal)
    (hj : ∃ c, r.prevCalibration = some c ∧ c < (max p c - min p c) * 64) :
    r.hunt nominal p now =
      { r with decoder := .hunting, lastDiscard := some (.calJump, now), prevCalibration := some p } := by
  rw [← calibrationAccepted_iff] at h
  rw [← calibrationJumps_iff] at hj
  simp only [ContainerRec.hunt, h, Bool.not_true, Bool.false_eq_true, if_false, hj, if_true]
  rfl

theorem ContainerRec.hunt_accepts (h : 4 * nominal ≤ 5 * p ∧ 5 * p ≤ 6 * nominal)
    (hj : ¬∃ c, r.prevCalibration = some c ∧ c < (max p c - min p c) * 64) :
    r.hunt nominal p now = { r with decoder := .collecting p [], prevCalibration := some p } := by
  rw [← calibrationAccepted_iff] at h
  rw [← calibrationJumps_iff] at hj
  simp only [ContainerRec.hunt, h, Bool.not_true, Bool.false_eq_true, if_false, hj]

/-- R140: a nibble before the fifth is kept. -/
theorem ContainerRec.collect_keeps {c v : Nat} {nibbles : List Nat} (hv : nibbleOf c p = some v) (hlen : nibbles.length < 4) :
    r.collect nominal c nibbles p now = { r with decoder := .collecting c (nibbles ++ [v]) } := by
  simp only [ContainerRec.collect, hv]
  split
  · simp at hlen
  · rfl

/-- R140: what a further nibble of a telegram does. -/
theorem ContainerRec.edge_collects {c v : Nat} {nibbles : List Nat} (hseen : r.edgeSeen = true)
    (hd : r.decoder = .collecting c nibbles) (hp : p ≤ 1048575) (hv : nibbleOf c p = some v) (hlen : nibbles.length < 4) :
    r.edge nominal p now = { r with decoder := .collecting c (nibbles ++ [v]) } := by
  rw [r.edge_seen hseen, hd, Nat.min_eq_right hp]
  exact ContainerRec.collect_keeps hv hlen

end

/-- Settles O30. -/
theorem containerTelegramIsDecoded : Obligations.ContainerTelegramIsDecoded := by
  refine ⟨fun c v p hc hv => nibbleOf_eq_some_iff hc hv, fun r nominal cycles now => ?_, ?_⟩
  · intro p next discards
    refine ⟨fun hseen => ?_, fun hseen hd => ?_, fun c nibbles hseen hd => ?_⟩
    · simp only [next, ContainerRec.edge, hseen, Bool.not_false, if_true]
    · have hnext : next = r.hunt nominal p now := by simp only [next, r.edge_seen hseen, hd]; rfl
      intro accepted jumps
      rw [hnext]
      exact ⟨ContainerRec.hunt_rejects hd, ContainerRec.hunt_jumps, ContainerRec.hunt_accepts⟩
    · have hnext : next = r.collect nominal c nibbles p now := by simp only [next, r.edge_seen hseen, hd]; rfl
      rw [hnext]
      refine ⟨fun hv => ?_, fun v hv hlen => ContainerRec.collect_keeps hv hlen, fun k s d2 d1 d0 hk hn hbad => ?_⟩
      · simp only [ContainerRec.collect, hv]
        exact (ContainerRec.edge_seen (r := r.discard .nibbleError now) hseen).symm
      · simp only [ContainerRec.collect, hk, hn, ContainerRec.complete, if_neg hbad]
        rfl
  · intro r nominal c start s d2 d1 d0 pulses times hseen hd hc hp hlow hhigh hpos hprev h0 h1 h2 h3 h4 t now kept
    have hjump : ¬∃ p, r.prevCalibration = some p ∧ p < (max c p - min c p) * 64 := by
      rintro ⟨p, hp, hlt⟩
      have := hprev p hp
      omega
    have e : r.edge nominal c start = { r with decoder := .collecting c [], prevCalibration := some c } := by
      rw [r.edge_seen hseen, hd, Nat.min_eq_right hc]
      exact ContainerRec.hunt_accepts ⟨hlow, hhigh⟩ hjump
    have ht : t = ({ r with decoder := .hunting, prevCalibration := some c } : ContainerRec).validTelegram s
        (d2 * 256 + d1 * 16 + d0) now := by
      have hrange : List.finRange 5 = [0, 1, 2, 3, 4] := rfl
      simp only [t, hrange, List.foldl_cons, List.foldl_nil, e]
      have next (i : Fin 5) (nibbles : List Nat) (v : Nat) (hv : nibbleOf c (pulses i) = some v) (hlen : nibbles.length < 4) :
          ({ r with decoder := .collecting c nibbles, prevCalibration := some c } : ContainerRec).edge nominal (pulses i) (times i) =
            { r with decoder := .collecting c (nibbles ++ [v]), prevCalibration := some c } :=
        ContainerRec.edge_collects hseen rfl (hp i) hv hlen
      have last := ContainerRec.edge_seen (r := { r with decoder := .collecting c [s, d2, d1, d0], prevCalibration := some c })
        (nominal := nominal) (cycles := pulses 4) (now := times 4) hseen
      rw [next 0 [] s h0 (by simp), next 1 _ d2 h1 (by simp), next 2 _ d1 h2 (by simp), next 3 _ d0 h3 (by simp)]
      simp only [List.nil_append, List.cons_append]
      rw [last]
      simp only [Nat.min_eq_right (hp 4), ContainerRec.collect, h4, ContainerRec.complete, if_true]
      rfl
    rw [ht]
    by_cases hs : s < 8
    · simp [ContainerRec.validTelegram, hs, ContainerRec.addReading, ContainerRec.joined, kept]
      grind
    · simp [ContainerRec.validTelegram, hs, ContainerRec.addFault]

/-! ### Events -/

theorem bankStateFor_eq (n required : Nat) :
    bankStateFor n required = if n = 0 then .empty else if n < required then .degraded else .available := by
  simp only [bankStateFor]
  grind

/-- One zone at a time takes a change: every zone of the list has taken it. -/
theorem State.forEach_updZone (f : ZoneRec → ZoneRec) (l : List Zone) (hl : l.Nodup) (s : State) (z : Zone) :
    (s.forEach l fun y t => t.updZone y f).zones[z] = if z ∈ l then (s.zones[z]).map f else s.zones[z] := by
  induction l generalizing s with
  | nil => simp [State.forEach]
  | cons a l ih =>
    obtain ⟨ha, hl⟩ := List.nodup_cons.1 hl
    have := ih hl (s.updZone a f)
    simp only [State.forEach, List.foldl_cons] at this ⊢
    rw [this]
    by_cases e : a = z
    · subst e
      simp [ha]
    · have other : a.val ≠ z.val := fun x => e (Fin.ext x)
      simp [other, Ne.symm e]

/-- R116, R147: all that finding a bank's state afresh does. -/
theorem State.refreshBank_settles (s : State) (bank : Bank) :
    let t := s.refreshBank bank
    let k := s.banks[bankIndex bank]
    let n := s.healthyCount bank
    let new : BankState := if n = 0 then .empty else if n < k.cfg.required then .degraded else .available
    t = { s with banks := s.banks.put (bankIndex bank) { k with state := new }, zones := t.zones, ports := t.ports } ∧
    (new = k.state → t.zones = s.zones ∧ QueuesGain s t []) ∧
    (new ≠ k.state →
      (∀ z : Zone, t.zones[z] =
        (s.zones[z]).map fun y => if y.cfg.bank = bank then { y with bankState := new } else y) ∧
      QueuesGain s t [.bankState bank new k.state n k.cfg.required (s.bankInService bank)]) := by
  intro t k n new
  have hnew : bankStateFor n k.cfg.required = new := bankStateFor_eq _ _
  by_cases h : new = k.state
  · have ht : t = s := by
      simp only [t, State.refreshBank]
      exact if_pos (hnew.trans h)
    have hbank : s.banks.put (bankIndex bank) { k with state := new } = s.banks := put_eq_self (by rw [h])
    rw [ht, hbank]
    exact ⟨rfl, fun _ => ⟨rfl, .refl s⟩, fun hn => absurd h hn⟩
  · obtain ⟨u, hu⟩ : ∃ u, u = (s.updBank bank fun x => { x with state := new }).notify
        (.bankState bank new k.state n k.cfg.required (s.bankInService bank)) := ⟨_, rfl⟩
    have ht : t = u.forEach (List.finRange 8) fun z v =>
        v.updZone z fun r => if r.cfg.bank = bank then { r with bankState := new } else r := by
      rw [hu, ← hnew]
      exact if_neg (by rw [hnew]; exact h)
    have banks : t.banks = u.banks := by
      rw [ht]
      exact u.forEach_keeps _ _ (·.banks) fun _ _ => rfl
    have ports : t.ports = u.ports := by
      rw [ht]
      exact u.forEach_keeps _ _ (·.ports) fun _ _ => rfl
    refine ⟨?_, fun e => absurd e h, fun _ => ⟨fun z => ?_, ?_⟩⟩
    · have hbanks : t.banks = s.banks.put (bankIndex bank) { k with state := new } := by
        rw [banks, hu, (State.notify_frame _ _).2.2.2.2.2.2.2.2.2.2.1, State.updBank_banks]
      rw [← hbanks]
      apply State.ext_fields <;> simp [t]
    · rw [ht, State.forEach_updZone _ _ (List.nodup_finRange 8), if_pos (List.mem_finRange z)]
      simp [hu]
    · exact (State.notify_gains (s.updBank bank _) _).congr rfl rfl (by rw [ports, hu])

/-- R146: a container whose event leaves its state as it was. -/
theorem State.settleContainer_same (s : State) (c : Container) (previous : ContainerState) (r : ContainerRec) (h : r.foundState = previous) :
    s.settleContainer c previous r =
      { s with containers := { s.containers with table := s.containers.table.put c ((s.containers.table[c]).map fun _ =>
        { r with state := previous }) } } := by
  simp only [State.settleContainer, h, if_true]
  rfl

/-- R116, R146, R147: a container whose event changes its state. -/
theorem State.settleContainer_settles {s : State} {c : Container} {previous : ContainerState} {old r : ContainerRec}
    (hc : s.containers.table[c] = some old) (h : r.foundState ≠ previous) :
    ContainerSettles s (s.settleContainer c previous r) c previous { r with state := r.foundState } := by
  unfold ContainerSettles
  intro told
  obtain ⟨x, hx⟩ : ∃ x : ContainerRec, x = { r with state := r.foundState } := ⟨_, rfl⟩
  obtain ⟨u, hu⟩ : ∃ u, u = (s.updContainer c fun _ => x).notify (containerBody c x previous) := ⟨_, rfl⟩
  have hcont : u.containers = { s.containers with table := s.containers.table.put c (some x) } := by
    simp [hu, State.updContainer, hc]
  have only : u = { s with containers := u.containers, ports := u.ports } := by
    apply State.ext_fields <;> simp [hu]
  have gains : QueuesGain s u [told] := by
    have told_of : containerBody c x previous = told := by rw [hx]; rfl
    rw [← told_of]
    exact (State.notify_gains (s.updContainer c fun _ => x) (containerBody c x previous)).congr rfl rfl (by rw [hu])
  have settled : s.settleContainer c previous r = match x.cfg.bank with | none => u | some bank => u.refreshBank bank := by
    subst hx
    rw [hu]
    exact if_neg h
  rw [← hx, settled]
  cases hb : x.cfg.bank with
  | none =>
    refine ⟨?_, hcont, fun _ => ⟨?_, ?_, gains⟩, fun bank hsome => by cases hsome⟩
    · apply State.ext_fields <;> simp [hu]
    · simp [hu]
    · simp [hu]
  | some bank =>
    obtain ⟨t, ht⟩ : ∃ t, t = u.refreshBank bank := ⟨_, rfl⟩
    obtain ⟨frame, same, changed⟩ := u.refreshBank_settles bank
    have hbanks : u.banks = s.banks := by simp [hu]
    have hzones : u.zones = s.zones := by simp [hu]
    have time : u.time = s.time := by simp [hu]
    have service : u.bankInService bank = s.bankInService bank := by
      simp [hu, State.bankInService]
    rw [← ht] at frame same changed
    have containers : t.containers = u.containers := by rw [frame]
    have healthy : t.healthyCount bank = u.healthyCount bank := by
      simp only [State.healthyCount, containers]
    simp only [hbanks, hzones, service, ← healthy] at same changed frame
    dsimp only
    rw [← ht]
    refine ⟨?_, containers.trans hcont, nofun, fun b hsome => ?_⟩
    · apply State.ext_fields <;> simp [ht, hu]
    · obtain rfl : bank = b := Option.some.inj hsome
      refine ⟨congrArg State.banks frame, fun e => ?_, fun e => ?_⟩
      · exact ⟨(same e).1, gains.trans (same e).2 time⟩
      · exact ⟨(changed e).1, gains.trans (changed e).2 time⟩

/-- Settles O31: a container event puts its record in the table and is then judged by its state alone; a change of the bank's state
rewrites one field of the bank and of its zones. -/
theorem containerEventsSettle : Obligations.ContainerEventsSettle := by
  unfold Obligations.ContainerEventsSettle
  intro s c r hc
  refine ⟨fun cycles => ?_, fun hstale hdue hstate => ?_⟩
  · intro x
    have run : exec (.containerPulse c cycles) s = .next (s.settleContainer c r.state x) := by
      change execContainerPulse c cycles s = _
      simp only [execContainerPulse, hc, x]
    refine ⟨fun same => ?_, fun changed => ?_⟩
    · rw [run, State.settleContainer_same s c r.state x same, hc]
      rfl
    · exact ⟨_, run, State.settleContainer_settles hc changed⟩
  · have due : r.staleDue s.nowMs = true := by simp [ContainerRec.staleDue, hstale, hdue]
    have run : exec (.staleExpiry c) s = .next (s.settleContainer c r.state r.expire) := by
      change execStaleExpiry c s = _
      simp only [execStaleExpiry, hc, due, if_true]
    exact ⟨_, run, State.settleContainer_settles hc (r := r.expire) (fun e => hstate e.symm)⟩

end Sys2Proof.Machine

namespace Sys2Proof.Machine

/-! ## The fields of a configuration record -/

/-- The data of a record from an offset on, with what has been clamped before. -/
def Fields.from (data : List Byte) (k : Nat) (clamped : Bool) : Fields := ⟨data.drop k, clamped⟩

/-- A field clamped to its range, or its default. -/
def valueAt (data : List Byte) (low high missing k size : Nat) : Nat :=
  ((fieldAt data k size).map fun n => max low (min high n)).getD missing

/-- A field stands outside its range. -/
def beyondAt (data : List Byte) (low high k size : Nat) : Bool := (fieldAt data k size).any fun n => n < low || high < n

theorem beyondAt_iff (data : List Byte) (low high k size : Nat) :
    beyondAt data low high k size = true ↔ ∃ n, fieldAt data k size = some n ∧ (n < low ∨ high < n) := by
  simp [beyondAt, Option.any_eq_true]

theorem Fields.start_eq (data : List Byte) : Fields.start data = .from data 0 false := rfl

/-- R199: reading a field gives the one at the offset, and moves past it. -/
theorem Fields.next_from (data : List Byte) (k : Nat) (c : Bool) (size : Nat) (h : 0 < size) :
    (Fields.from data k c).next size = (fieldAt data k size, .from data (k + size) c) := by
  simp only [Fields.next, Fields.from, fieldAt, List.length_drop]
  by_cases hlen : k + size ≤ data.length
  · have : ¬data.length - k < size := by omega
    simp only [if_neg this, if_pos hlen, numberOf, List.drop_drop]
  · have : data.length - k < size := by omega
    simp only [if_pos this, if_neg hlen, List.drop_of_length_le (by omega : data.length ≤ k + size)]

/-- R199: a field with a default. -/
theorem Fields.number_from (data : List Byte) (k : Nat) (c : Bool) (size low high dflt : Nat) (h : 0 < size) :
    (Fields.from data k c).number size low high dflt =
      (valueAt data low high dflt k size, .from data (k + size) (c || beyondAt data low high k size)) := by
  simp only [Fields.number, Fields.next_from data k c size h, valueAt, beyondAt]
  cases fieldAt data k size with
  | none => simp
  | some n => rfl

/-- R199: a field without a default. -/
theorem Fields.required_from (data : List Byte) (k : Nat) (c : Bool) (size low high : Nat) (h : 0 < size) :
    (Fields.from data k c).required size low high =
      (fieldAt data k size).map fun n =>
        (max low (min high n), .from data (k + size) (c || (decide (n < low) || decide (high < n)))) := by
  simp only [Fields.required, Fields.next_from data k c size h]
  cases fieldAt data k size with
  | none => rfl
  | some n => rfl

theorem Fields.finish_from (data : List Byte) (k : Nat) (c : Bool) :
    (Fields.from data k c).finish = (c || decide (k < data.length)) := by
  simp only [Fields.finish, Fields.from]
  congr 1
  by_cases h : k < data.length
  · simp [h, List.drop_eq_nil_iff]
  · simp [h, List.isEmpty_iff, List.drop_eq_nil_iff, Nat.le_of_not_lt h]

/-- A field of `size` bytes is present exactly where the data reach beyond it. -/
theorem fieldAt_eq_none_iff (data : List Byte) (k size : Nat) : fieldAt data k size = none ↔ data.length < k + size := by
  simp [fieldAt]

/-! ### Fields that are written are read -/

/-- R199: a field in range is read as it stands, and what stands behind it is left. -/
theorem Fields.number_written {front : List Byte} {low high : Nat} (dflt : Nat) (rest : List Byte)
    (hlow : low ≤ numberOf front) (hhigh : numberOf front ≤ high) :
    (Fields.mk (front ++ rest) false).number front.length low high dflt = (numberOf front, ⟨rest, false⟩) := by
  have long : ¬(front ++ rest).length < front.length := by simp
  have inside : max low (min high (numberOf front)) = numberOf front := by omega
  have marks : (decide (numberOf front < low) || decide (high < numberOf front)) = false := by simp [hlow, hhigh]
  simp only [Fields.number, Fields.next, if_neg long, List.take_left, List.drop_left, clampTo, inside, marks, Bool.or_false]

theorem Fields.required_written {front : List Byte} {low high : Nat} (rest : List Byte)
    (hlow : low ≤ numberOf front) (hhigh : numberOf front ≤ high) :
    (Fields.mk (front ++ rest) false).required front.length low high = some (numberOf front, ⟨rest, false⟩) := by
  have long : ¬(front ++ rest).length < front.length := by simp
  have inside : max low (min high (numberOf front)) = numberOf front := by omega
  have marks : (decide (numberOf front < low) || decide (high < numberOf front)) = false := by simp [hlow, hhigh]
  simp only [Fields.required, Fields.next, if_neg long, List.take_left, List.drop_left, clampTo, inside, marks, Bool.or_false]

theorem numberOf_one (b : Byte) : numberOf (one b) = b.toNat := by simp [numberOf, one]

theorem numberOf_num1 {n : Nat} (h : n < 256) : numberOf (num1 n) = n := by
  simp [numberOf, num1, byteOf_toNat, Nat.mod_eq_of_lt h]

theorem numberOf_num2_of_lt {n : Nat} (h : n < 65536) : numberOf (num2 n) = n := by
  rw [numberOf_num2, Nat.mod_eq_of_lt h]

theorem numberOf_flag1 (b : Bool) : numberOf (flag1 b) = if b then 1 else 0 := by cases b <;> rfl

theorem bankOfNumber_bankCode (b : Bank) : bankOfNumber (bankCode b).toNat = b := by cases b <;> rfl

theorem conditionOf_conditionCode (c : EntryCondition) : conditionOf (conditionCode c).toNat = c := by cases c <;> rfl

theorem pinRuleOf_pinRuleCode (p : PinRule) : pinRuleOf (pinRuleCode p).toNat = p := by cases p <;> rfl

/-- R190: a number that may be none is read back from its number or the limit. -/
theorem numberOrNone_getD {n : Nat} [NeZero n] (x : Option (Fin n)) : numberOrNone n ((x.map (·.val)).getD n) = x := by
  cases x with
  | none => simp [numberOrNone]
  | some i => simp [numberOrNone, Fin.ofNat_eq_cast]

theorem getD_val_le {n : Nat} (x : Option (Fin n)) : (x.map (·.val)).getD n ≤ n := by
  cases x with
  | none => exact Nat.le_refl n
  | some i => exact Nat.le_of_lt i.isLt

theorem knots_toList (v : Vector Nat 7) : v.toList = [v[0], v[1], v[2], v[3], v[4], v[5], v[6]] := by
  apply List.ext_getElem (by simp)
  intro i hi _
  have : i < 7 := by simpa using hi
  interval_cases i <;> rfl

theorem knots_eta (v : Vector Nat 7) : #v[v[0], v[1], v[2], v[3], v[4], v[5], v[6]] = v := by
  apply Vector.toList_inj.1
  rw [knots_toList v]
  rfl

theorem Fields.number_one {b : Byte} {low high : Nat} (dflt : Nat) (rest : List Byte) (hlow : low ≤ b.toNat) (hhigh : b.toNat ≤ high) :
    (Fields.mk (one b ++ rest) false).number 1 low high dflt = (b.toNat, ⟨rest, false⟩) := by
  have := Fields.number_written (front := one b) (low := low) (high := high) dflt rest
  simp only [numberOf_one] at this
  exact this hlow hhigh

theorem Fields.number_num1 {n low high : Nat} (dflt : Nat) (rest : List Byte) (hb : n < 256) (hlow : low ≤ n) (hhigh : n ≤ high) :
    (Fields.mk (num1 n ++ rest) false).number 1 low high dflt = (n, ⟨rest, false⟩) := by
  have := Fields.number_written (front := num1 n) (low := low) (high := high) dflt rest
  simp only [numberOf_num1 hb] at this
  exact this hlow hhigh

theorem Fields.number_num2 {n low high : Nat} (dflt : Nat) (rest : List Byte) (hb : n < 65536) (hlow : low ≤ n) (hhigh : n ≤ high) :
    (Fields.mk (num2 n ++ rest) false).number 2 low high dflt = (n, ⟨rest, false⟩) := by
  have := Fields.number_written (front := num2 n) (low := low) (high := high) dflt rest
  simp only [numberOf_num2_of_lt hb] at this
  exact this hlow hhigh

theorem Fields.number_flag1 (b : Bool) (dflt : Nat) (rest : List Byte) :
    (Fields.mk (flag1 b ++ rest) false).number 1 0 1 dflt = (if b then 1 else 0, ⟨rest, false⟩) := by
  have := Fields.number_written (front := flag1 b) (low := 0) (high := 1) dflt rest (Nat.zero_le _)
    (by rw [numberOf_flag1]; cases b <;> decide)
  rwa [numberOf_flag1] at this

theorem Fields.required_num1 {n low high : Nat} (rest : List Byte) (hb : n < 256) (hlow : low ≤ n) (hhigh : n ≤ high) :
    (Fields.mk (num1 n ++ rest) false).required 1 low high = some (n, ⟨rest, false⟩) := by
  have := Fields.required_written (front := num1 n) (low := low) (high := high) rest
  simp only [numberOf_num1 hb] at this
  exact this hlow hhigh

/-- R94, R199: a ZONE record of a zone's configuration gives it back. -/
theorem readZoneRecord_fields (c : ZoneCfg) (h : c.inRange) : readZoneRecord c.fields = (c, false) := by
  obtain ⟨base, knots, load, hold30, hold300, check5, check60, limit1, limit16, lone30, lone600, sweep⟩ := h
  have bank : (bankCode c.bank).toNat ≤ 1 := by cases c.bank <;> decide
  have k0 : c.knots[0] ≤ 1200 := knots 0
  have k1 : c.knots[1] ≤ 1200 := knots 1
  have k2 : c.knots[2] ≤ 1200 := knots 2
  have k3 : c.knots[3] ≤ 1200 := knots 3
  have k4 : c.knots[4] ≤ 1200 := knots 4
  have k5 : c.knots[5] ≤ 1200 := knots 5
  have k6 : c.knots[6] ≤ 1200 := knots 6
  have schedule := getD_val_le c.schedule
  have last : num1 ((c.schedule.map (·.val)).getD 16) = num1 ((c.schedule.map (·.val)).getD 16) ++ [] := (List.append_nil _).symm
  have two : decide ((if c.twoPerson = true then 1 else 0) = 1) = c.twoPerson := by cases c.twoPerson <;> rfl
  rw [readZoneRecord, ZoneCfg.fields, last]
  simp (disch := omega) only [Fields.start, knots_toList, List.flatMap_cons, List.flatMap_nil, List.append_assoc, List.nil_append,
    Fields.number_one, Fields.number_num1, Fields.number_num2, Fields.number_flag1, bankOfNumber_bankCode, numberOrNone_getD, knots_eta,
    two, Fields.finish, List.isEmpty_nil]
  rfl

/-- R32, R199: a DOOR record of a door's configuration gives it back. -/
theorem readDoorRecord_fields (c : DoorCfg) (h : c.inRange) : readDoorRecord c.fields = some (c, false) := by
  obtain ⟨weight, unlock3, unlock30, held10, held600, pairing5, pairing60⟩ := h
  have inside : c.inside.val ≤ 7 := by omega
  have module : c.module.val + 1 ≤ 16 := by omega
  have outside : (c.outside.map (·.val)).getD 8 ≤ 8 := getD_val_le c.outside
  have partner : (c.partner.map (·.val)).getD 16 ≤ 16 := getD_val_le c.partner
  have condition : (conditionCode c.condition).toNat ≤ 8 := by cases c.condition <;> decide
  have pin : (pinRuleCode c.pinRule).toNat ≤ 2 := by cases c.pinRule <;> decide
  have last : one (pinRuleCode c.pinRule) = one (pinRuleCode c.pinRule) ++ [] := (List.append_nil _).symm
  rw [readDoorRecord, DoorCfg.fields, last]
  simp (disch := omega) only [Fields.start, zoneField, List.append_assoc,
    Fields.number_one, Fields.number_num1, Fields.number_num2, Fields.required_num1, numberOrNone_getD, conditionOf_conditionCode,
    pinRuleOf_pinRuleCode, Fields.finish, List.isEmpty_nil, bind, Option.bind_some]
  simp [finOf, Fin.ofNat_eq_cast]

/-- Settles O5: each field is in range, so it is read as it was written and what stands behind it is left. -/
theorem configurationReadsBack : Obligations.ConfigurationReadsBack :=
  ⟨readZoneRecord_fields, readDoorRecord_fields⟩

end Sys2Proof.Machine

namespace Sys2Proof.Machine

/-! ## What each kind of record is stored as -/

/-- A field holds no more than its bytes can. -/
theorem fieldAt_lt {data : List Byte} {k size n : Nat} (h : fieldAt data k size = some n) : n < 256 ^ size := by
  have bound (l : List Byte) (m : Nat) : l.foldl (fun n b => n * 256 + b.toNat) m < (m + 1) * 256 ^ l.length := by
    induction l generalizing m with
    | nil => simp
    | cons b l ih =>
      have hb : b.toNat < 256 := b.isLt
      calc (b :: l).foldl (fun n b => n * 256 + b.toNat) m < (m * 256 + b.toNat + 1) * 256 ^ l.length := ih _
        _ ≤ ((m + 1) * 256) * 256 ^ l.length := Nat.mul_le_mul_right _ (by omega)
        _ = (m + 1) * 256 ^ (b :: l).length := by rw [List.length_cons, Nat.pow_succ]; ring
  simp only [fieldAt] at h
  split_ifs at h with hlen
  have := bound ((data.drop k).take size) 0
  rw [Option.some.inj h] at this
  simpa [Nat.min_eq_left (by omega : size ≤ data.length - k)] using this

theorem fieldAt_byte_lt {data : List Byte} {k n : Nat} (h : fieldAt data k 1 = some n) : n < 256 := fieldAt_lt h

/-- A byte that may hold any number is never clamped. -/
theorem valueAt_byte (data : List Byte) (missing k : Nat) : valueAt data 0 255 missing k 1 = (fieldAt data k 1).getD missing := by
  cases h : fieldAt data k 1 with
  | none => simp [valueAt, h]
  | some n =>
    have := fieldAt_byte_lt h
    simp only [valueAt, h, Option.map_some, Option.getD_some]
    omega

theorem beyondAt_byte (data : List Byte) (k : Nat) : beyondAt data 0 255 k 1 = false := by
  cases h : fieldAt data k 1 with
  | none => simp [beyondAt, h]
  | some n =>
    have := fieldAt_byte_lt h
    simp only [beyondAt, h, Option.any_some, Bool.or_eq_false_iff, decide_eq_false_iff_not]
    omega

theorem readTimebase_eq (data : List Byte) :
    readTimebase data =
      (valueAt data 4000000 50000000 25000000 0 4, beyondAt data 4000000 50000000 0 4 || decide (4 < data.length)) := by
  simp (disch := decide) only [readTimebase, Fields.start_eq, Fields.number_from, Fields.finish_from, Bool.false_or]

theorem readBankRecord_eq (data : List Byte) :
    readBankRecord data =
      (⟨valueAt data 60 600 180 0 2, valueAt data 1 8 1 2 1⟩,
        beyondAt data 60 600 0 2 || beyondAt data 1 8 2 1 || decide (3 < data.length)) := by
  simp (disch := decide) only [readBankRecord, Fields.start_eq, Fields.number_from, Fields.finish_from, Bool.false_or]

theorem readContainerRecord_eq (data : List Byte) :
    readContainerRecord data =
      let bank := valueAt data 0 2 2 0 1
      let low := valueAt data 0 4095 400 1 2
      let high := valueAt data 0 4095 600 3 2
      let container (low high : Nat) : ContainerCfg :=
        ⟨if bank = 2 then none else some (bankOfNumber bank), low, high, (fieldAt data 5 1).getD 10⟩
      if low < high then
        (container low high,
          beyondAt data 0 2 0 1 || beyondAt data 0 4095 1 2 || beyondAt data 0 4095 3 2 || decide (6 < data.length))
      else (container 400 600, true) := by
  simp (disch := decide) only [readContainerRecord, Fields.start_eq, Fields.number_from, Fields.finish_from, Bool.false_or,
    valueAt_byte, beyondAt_byte, Bool.or_false]

theorem readLineRecord_none {data : List Byte} (h : fieldAt data 1 1 = none) : readLineRecord data = none := by
  simp (disch := decide) only [readLineRecord, Fields.start_eq, Fields.required_from]
  cases fieldAt data 0 1 with
  | none => rfl
  | some role =>
    simp (disch := decide) only [Option.map_some, bind, Option.bind_some, Fields.required_from, Nat.zero_add, h, Option.map_none,
      Option.bind_none]

theorem readLineRecord_some {data : List Byte} {role target : Nat} (h0 : fieldAt data 0 1 = some role)
    (h1 : fieldAt data 1 1 = some target) :
    readLineRecord data =
      let t1 := (fieldAt data 2 1).getD 20
      let t2 := (fieldAt data 3 1).getD 100
      let t3 := (fieldAt data 4 1).getD 180
      let taken := roleOf (min 5 role) (min (targetLimit (min 5 role)) target)
      if thresholdsValid t1 t2 t3 then
        some (⟨taken, t1, t2, t3⟩, decide (5 < role) || decide (targetLimit (min 5 role) < target) || decide (5 < data.length))
      else some (⟨taken, 20, 100, 180⟩, true) := by
  simp (disch := decide) only [readLineRecord, Fields.start_eq, Fields.required_from, Fields.number_from, Fields.finish_from, h0, h1,
    Option.map_some, bind, Option.bind_some, Nat.zero_add, valueAt_byte, beyondAt_byte, Bool.or_false, Bool.false_or, Nat.zero_max,
    Nat.not_lt_zero, decide_false]
  rfl

theorem fieldAt_isSome {data : List Byte} {k size : Nat} (h : k + size ≤ data.length) : ∃ n, fieldAt data k size = some n := by
  rw [fieldAt, if_pos h]
  exact ⟨_, rfl⟩

theorem readPatternRecord_none {data : List Byte} (h : data.length < 8) : readPatternRecord data = none := by
  have last : fieldAt data 7 1 = none := (fieldAt_eq_none_iff data 7 1).2 (by omega)
  simp (disch := decide) only [readPatternRecord, Fields.start_eq, Fields.required_from]
  cases fieldAt data 0 4 with
  | none => rfl
  | some mask =>
    simp (disch := decide) only [Option.map_some, bind, Option.bind_some, Fields.required_from]
    cases fieldAt data 4 2 with
    | none => rfl
    | some crc =>
      simp (disch := decide) only [Nat.zero_add, Option.map_some, Option.bind_some, Fields.required_from]
      cases fieldAt data 6 1 with
      | none => rfl
      | some kind =>
        simp (disch := decide) only [Nat.reduceAdd, Option.map_some, Option.bind_some, Fields.required_from, last, Option.map_none,
          Option.bind_none]

theorem readPatternRecord_some {data : List Byte} (h : 8 ≤ data.length) :
    readPatternRecord data =
      some (⟨BitVec.ofNat 32 ((fieldAt data 0 4).getD 0), BitVec.ofNat 16 ((fieldAt data 4 2).getD 0),
          pendantKindOf (valueAt data 0 3 0 6 1), valueAt data 0 29 0 7 1⟩,
        beyondAt data 0 3 6 1 || beyondAt data 0 29 7 1 || decide (8 < data.length)) := by
  obtain ⟨mask, hmask⟩ := fieldAt_isSome (data := data) (k := 0) (size := 4) (by omega)
  obtain ⟨crc, hcrc⟩ := fieldAt_isSome (data := data) (k := 4) (size := 2) (by omega)
  obtain ⟨kind, hkind⟩ := fieldAt_isSome (data := data) (k := 6) (size := 1) (by omega)
  obtain ⟨offset, hoffset⟩ := fieldAt_isSome (data := data) (k := 7) (size := 1) (by omega)
  have mask_le : mask ≤ 4294967295 := Nat.le_of_lt_succ (fieldAt_lt hmask)
  have crc_le : crc ≤ 65535 := Nat.le_of_lt_succ (fieldAt_lt hcrc)
  simp (disch := decide) only [readPatternRecord, Fields.start_eq, Fields.required_from, Fields.finish_from, valueAt, beyondAt, hmask, hcrc,
    hkind, hoffset, Option.map_some, Option.any_some, Option.getD_some, bind, Option.bind_some, Nat.zero_add, Nat.reduceAdd, Nat.zero_max,
    Nat.min_eq_right mask_le, Nat.min_eq_right crc_le, Nat.not_lt.2 mask_le, Nat.not_lt.2 crc_le, decide_false, Nat.not_lt_zero,
    Bool.false_or]
  rfl

/-! ### Cadence steps -/

/-- R175: the step two bytes give. -/
def stepAt (data : List Byte) (k : Nat) : CadenceStep :=
  let kind := (fieldAt data k 1).getD 0
  let n := (fieldAt data (k + 1) 1).getD 0
  if kind = 0 then .on (max 1 (min 15 n))
  else if kind = 1 then .off (max 1 (min 15 n))
  else if kind = 2 then .repeatBlock (max 2 (min 15 n))
  else .endBlock

/-- R175, R199: one of the two bytes of a step is out of range. -/
def stepBeyond (data : List Byte) (k : Nat) : Bool :=
  let kind := (fieldAt data k 1).getD 0
  let n := (fieldAt data (k + 1) 1).getD 0
  decide (3 < kind ∨ (kind ≤ 1 ∧ (n < 1 ∨ 15 < n)) ∨ (kind = 2 ∧ (n < 2 ∨ 15 < n)))

theorem readStep_none {data : List Byte} {k : Nat} (c : Bool) (h : data.length < k + 2) : readStep (.from data k c) = none := by
  have last : fieldAt data (k + 1) 1 = none := (fieldAt_eq_none_iff data (k + 1) 1).2 h
  simp (disch := decide) only [readStep, Fields.required_from]
  cases fieldAt data k 1 with
  | none => rfl
  | some kind =>
    simp (disch := decide) only [Option.map_some, bind, Option.bind_some, Fields.required_from, last, Option.map_none, Option.bind_none]
    split <;> rfl

theorem readStep_some {data : List Byte} {k : Nat} (c : Bool) (h : k + 2 ≤ data.length) :
    readStep (.from data k c) = some (stepAt data k, .from data (k + 2) (c || stepBeyond data k)) := by
  obtain ⟨kind, hkind⟩ := fieldAt_isSome (data := data) (k := k) (size := 1) (by omega)
  obtain ⟨n, hn⟩ := fieldAt_isSome (data := data) (k := k + 1) (size := 1) (by omega)
  have n_le : n ≤ 255 := Nat.le_of_lt_succ (fieldAt_byte_lt hn)
  simp (disch := decide) only [readStep, Fields.required_from, stepAt, stepBeyond, hkind, hn, Option.map_some, Option.getD_some, bind,
    Option.bind_some, Nat.zero_max]
  match kind with
  | 0 => simp
  | 1 => simp
  | 2 => simp
  | m + 3 => simp [Nat.not_lt.2 n_le]

theorem readSteps_from (data : List Byte) (n k : Nat) (c : Bool) (hk : k ≤ data.length) :
    readSteps n (.from data k c) =
      if data.length < k + 2 * n then none
      else some ((List.range n).map fun i => stepAt data (k + 2 * i),
        .from data (k + 2 * n) (c || (List.range n).any fun i => stepBeyond data (k + 2 * i))) := by
  induction n generalizing k c with
  | zero => simp [readSteps, hk]
  | succ n ih =>
    by_cases h : data.length < k + 2
    · rw [if_pos (by omega), readSteps, readStep_none c h]
      rfl
    · have rest := ih (k + 2) (c || stepBeyond data k) (by omega)
      have shift (i : Nat) : k + 2 * (i + 1) = k + 2 + 2 * i := by ring
      simp only [readSteps, readStep_some c (by omega : k + 2 ≤ data.length), bind, Option.bind_some, rest, shift]
      by_cases hend : data.length < k + 2 + 2 * n
      · simp [if_pos hend]
      · simp [if_neg hend, List.range_succ_eq_map, Function.comp_def, shift, Bool.or_assoc]

theorem readCadenceRecord_none {data : List Byte} (h : fieldAt data 1 1 = none) : readCadenceRecord data = none := by
  simp (disch := decide) only [readCadenceRecord, Fields.start_eq, Fields.required_from]
  cases fieldAt data 0 1 with
  | none => rfl
  | some tone =>
    simp (disch := decide) only [Option.map_some, bind, Option.bind_some, Fields.required_from, Nat.zero_add, h, Option.map_none,
      Option.bind_none]

theorem readCadenceRecord_some {data : List Byte} {tone count : Nat} (h0 : fieldAt data 0 1 = some tone) (h1 : fieldAt data 1 1 = some count) :
    readCadenceRecord data =
      if data.length < 2 + 2 * count then none
      else some (⟨max 1 (min 15 tone), (List.range count).map fun i => stepAt data (2 + 2 * i), false⟩,
        (decide (tone < 1) || decide (15 < tone)) || ((List.range count).any fun i => stepBeyond data (2 + 2 * i)) ||
          decide (2 + 2 * count < data.length)) := by
  have long : 2 ≤ data.length := by
    by_contra hlt
    have : fieldAt data 1 1 = none := (fieldAt_eq_none_iff data 1 1).2 (by omega)
    rw [h1] at this
    cases this
  have count_le : count ≤ 255 := Nat.le_of_lt_succ (fieldAt_byte_lt h1)
  simp (disch := decide) only [readCadenceRecord, Fields.start_eq, Fields.required_from, h0, h1, Option.map_some, bind, Option.bind_some,
    Nat.zero_add, Nat.reduceAdd, Nat.zero_max, Nat.min_eq_right count_le, Nat.not_lt.2 count_le, Nat.not_lt_zero, decide_false,
    Bool.or_false, Bool.false_or]
  rw [readSteps_from data count 2 _ long]
  by_cases hend : data.length < 2 + 2 * count
  · simp only [if_pos hend, Option.bind_none]
  · simp only [if_neg hend, Option.bind_some, Fields.finish_from]
    rfl

/-! ### Storing -/

theorem finOf_val {n : Nat} [NeZero n] (i : Fin n) : finOf n i.val = i := Fin.ofNat_val_eq_self i

theorem bankOfNumber_eq {bank : Nat} (h : bank ≤ 2) :
    (if bank = 2 then none else some (bankOfNumber bank)) =
      if bank = 0 then some Bank.bankA else if bank = 1 then some .bankB else none := by
  match bank, h with
  | 0, _ | 1, _ | 2, _ => rfl

theorem pendantKindOf_eq {kind : Nat} (h : kind ≤ 3) :
    pendantKindOf kind =
      if kind = 0 then .pendantDuress else if kind = 1 then .manDown else if kind = 2 then .checkIn else .batteryLow := by
  match kind, h with
  | 0, _ | 1, _ | 2, _ | 3, _ => rfl

theorem valueAt_le {data : List Byte} {low high missing k size : Nat} (h : low ≤ high) (hm : missing ≤ high) :
    valueAt data low high missing k size ≤ high := by
  cases hf : fieldAt data k size with
  | none => simpa [valueAt, hf] using hm
  | some n =>
    simp only [valueAt, hf, Option.map_some, Option.getD_some]
    omega

theorem targetLimit_eq (role : Nat) :
    targetLimit (min 5 role) = if role ≤ 1 then 15 else if role ≤ 3 then 7 else if role = 4 then 9 else 255 := by
  match role with
  | 0 | 1 | 2 | 3 | 4 => rfl
  | m + 5 => simp [targetLimit]

theorem roleOf_eq (role target : Nat) :
    roleOf (min 5 role) (min (targetLimit (min 5 role)) target) =
      if role = 0 then .doorContact (Fin.ofNat 16 (min target 15))
      else if role = 1 then .egressHandle (Fin.ofNat 16 (min target 15))
      else if role = 2 then .abortStation (Fin.ofNat 8 (min target 7))
      else if role = 3 then .alarmButton (Fin.ofNat 8 (min target 7))
      else if role = 4 then .valveFeedback (Fin.ofNat 10 (min target 9))
      else .unused := by
  match role with
  | 0 | 1 | 2 | 3 | 4 => simp [roleOf, targetLimit, finOf, Nat.min_comm]
  | m + 5 => simp [roleOf]

theorem thresholdsValid_iff (t1 t2 t3 : Nat) : thresholdsValid t1 t2 t3 = true ↔ 1 ≤ t1 ∧ t1 < t2 ∧ t2 < t3 ∧ t3 ≤ 254 := by
  simp only [thresholdsValid, Bool.and_eq_true, decide_eq_true_eq]
  omega

theorem store_timebase (r : Records) (data : List Byte) :
    r.store 1 0 data = some ({ r with fRef := some (readTimebase data).1 }, (readTimebase data).2) := rfl

theorem store_line (r : Records) (data : List Byte) (i : Fin 64) :
    r.store 2 i.val data = (readLineRecord data).map fun x => ({ r with lines := r.lines.put i (some x.1) }, x.2) := by
  simp only [Records.store, finOf_val]

theorem store_door (r : Records) (data : List Byte) (i : Fin 16) :
    r.store 3 i.val data = (readDoorRecord data).map fun x => ({ r with doors := r.doors.put i (some x.1) }, x.2) := by
  simp only [Records.store, finOf_val]

theorem store_zone (r : Records) (data : List Byte) (i : Fin 8) :
    r.store 4 i.val data =
      some ({ r with zones := r.zones.put i (some (readZoneRecord data).1) }, (readZoneRecord data).2) := by
  simp only [Records.store, finOf_val]

theorem store_bank (r : Records) (data : List Byte) (i : Fin 2) :
    r.store 5 i.val data =
      some ({ r with banks := r.banks.put i (some (readBankRecord data).1) }, (readBankRecord data).2) := by
  simp only [Records.store, finOf_val]

theorem store_container (r : Records) (data : List Byte) (i : Fin 8) :
    r.store 6 i.val data =
      some ({ r with containers := r.containers.put i (some (readContainerRecord data).1) }, (readContainerRecord data).2) := by
  simp only [Records.store, finOf_val]

theorem store_pattern (r : Records) (data : List Byte) (i : Fin 4) :
    r.store 7 i.val data = (readPatternRecord data).map fun x => ({ r with patterns := r.patterns.put i (some x.1) }, x.2) := by
  simp only [Records.store, finOf_val]

theorem store_cadence (r : Records) (data : List Byte) (i : Fin 4) :
    r.store 8 i.val data = (readCadenceRecord data).map fun x => ({ r with cadences := r.cadences.put i (some x.1) }, x.2) := by
  simp only [Records.store, finOf_val]

theorem stepBeyond_iff (data : List Byte) (k : Nat) :
    stepBeyond data k = true ↔
      3 < (fieldAt data k 1).getD 0 ∨
      ((fieldAt data k 1).getD 0 ≤ 1 ∧ ((fieldAt data (k + 1) 1).getD 0 < 1 ∨ 15 < (fieldAt data (k + 1) 1).getD 0)) ∨
      ((fieldAt data k 1).getD 0 = 2 ∧ ((fieldAt data (k + 1) 1).getD 0 < 2 ∨ 15 < (fieldAt data (k + 1) 1).getD 0)) := by
  simp [stepBeyond]

/-- R2, R121, R136, R152, R175, R194, R199: every kind's record, from the lemma of its reader. -/
theorem recordsStored : RecordsStored := by
  unfold RecordsStored
  intro r data field clamped value beyond stores
  have mark (low high k size : Nat) : beyondAt data low high k size = true ↔ beyond low high k size := beyondAt_iff data low high k size
  refine ⟨?timebase, ?line, store_door r data, store_zone r data, ?bank, ?container, ?pattern, ?cadence⟩
  case timebase =>
    have stored := store_timebase r data
    rw [readTimebase_eq] at stored
    exact ⟨_, stored, by simp [mark]⟩
  case line =>
    refine fun i => ⟨fun h => ?_, ?_⟩
    · rw [store_line, readLineRecord_none h]
      rfl
    · intro role target h0 h1 limit taken t1 t2 t3 holds
      have stored := store_line r data i
      rw [readLineRecord_some h0 h1, roleOf_eq, targetLimit_eq] at stored
      simp only at stored
      refine ⟨fun valid => ?_, fun invalid => ?_⟩
      · rw [if_pos ((thresholdsValid_iff ..).2 valid)] at stored
        exact ⟨_, stored, by simp [limit, or_assoc]⟩
      · rw [if_neg (mt (thresholdsValid_iff ..).1 invalid)] at stored
        exact ⟨_, stored, by simp⟩
  case bank =>
    intro i
    have stored := store_bank r data i
    rw [readBankRecord_eq] at stored
    exact ⟨_, stored, by simp [mark, or_assoc]⟩
  case container =>
    intro i bank low high container
    have stored := store_container r data i
    have assigned := bankOfNumber_eq (valueAt_le (data := data) (k := 0) (size := 1) (by decide : 0 ≤ 2) (le_refl 2))
    rw [readContainerRecord_eq] at stored
    simp only [assigned] at stored
    refine ⟨fun valid => ?_, fun invalid => ?_⟩
    · replace valid : valueAt data 0 4095 400 1 2 < valueAt data 0 4095 600 3 2 := valid
      rw [if_pos valid] at stored
      exact ⟨_, stored, by simp [mark, or_assoc]⟩
    · replace invalid : ¬valueAt data 0 4095 400 1 2 < valueAt data 0 4095 600 3 2 := invalid
      rw [if_neg invalid] at stored
      exact ⟨_, stored, by simp⟩
  case pattern =>
    refine fun i => ⟨fun h => ?_, fun h => ?_⟩
    · rw [store_pattern, readPatternRecord_none h]
      rfl
    · have stored := store_pattern r data i
      rw [readPatternRecord_some h, pendantKindOf_eq (valueAt_le (by decide) (by decide))] at stored
      exact ⟨_, stored, by simp [mark, or_assoc]⟩
  case cadence =>
    refine fun i => ⟨fun h => ?_, ?_⟩
    · rw [store_cadence, readCadenceRecord_none h]
      rfl
    · intro tone count h0 h1 kind n
      have stored := store_cadence r data i
      rw [readCadenceRecord_some h0 h1] at stored
      have step (k : Nat) : stepAt data (2 + 2 * k) =
          if kind k = 0 then .on (clamped 1 15 (n k)) else if kind k = 1 then .off (clamped 1 15 (n k))
          else if kind k = 2 then .repeatBlock (clamped 2 15 (n k)) else .endBlock := by
        simp only [stepAt, kind, n, clamped, field, show 2 + 2 * k + 1 = 3 + 2 * k by omega]
      have beyondStep (k : Nat) : stepBeyond data (2 + 2 * k) = true ↔
          3 < kind k ∨ (kind k ≤ 1 ∧ (n k < 1 ∨ 15 < n k)) ∨ (kind k = 2 ∧ (n k < 2 ∨ 15 < n k)) := by
        simp only [stepBeyond_iff, kind, n, field, show 2 + 2 * k + 1 = 3 + 2 * k by omega]
      refine ⟨fun short => ?_, fun whole => ?_⟩
      · rw [stored, if_pos short]
        rfl
      · rw [if_neg (Nat.not_lt.2 whole)] at stored
        simp only [step] at stored
        refine ⟨_, stored, ?_⟩
        simp only [Bool.or_eq_true, decide_eq_true_eq, List.any_eq_true, List.mem_range, beyondStep]
        rw [or_assoc, or_assoc]
        exact or_congr_right (or_congr_right or_comm)

/-! ## The load -/

/-- R198, R199: the records known, by kind and index. -/
theorem recordKnown_iff (kind index : Nat) : recordKnown kind index = true ↔
    (kind = 1 ∧ index = 0) ∨ (kind = 2 ∧ index ≤ 63) ∨ (kind = 3 ∧ index ≤ 15) ∨ (kind = 4 ∧ index ≤ 7) ∨
      (kind = 5 ∧ index ≤ 1) ∨ (kind = 6 ∧ index ≤ 7) ∨ (kind = 7 ∧ index ≤ 3) ∨ (kind = 8 ∧ index ≤ 3) := by
  match kind with
  | 0 | 1 | 2 | 3 | 4 | 5 | 6 | 7 | 8 => simp [recordKnown]; try omega
  | k + 9 => simp [recordKnown]

end Sys2Proof.Machine

namespace Sys2Proof.Machine

/-! ## One record of the configuration memory -/

/-- What the memory answers behind a whole record does not matter. -/
theorem take_whole (kind index length check : Byte) (data rest : List Byte) {n : Nat} (h : data.length + 4 ≤ n) :
    ∃ rest', (kind :: index :: length :: (data ++ check :: rest)).take n = kind :: index :: length :: (data ++ check :: rest') := by
  obtain ⟨m, rfl⟩ : ∃ m, n = data.length + 4 + m := ⟨n - (data.length + 4), by omega⟩
  refine ⟨rest.take m, ?_⟩
  rw [show data.length + 4 + m = (data.length + (m + 1)) + 1 + 1 + 1 by omega, List.take_succ_cons, List.take_succ_cons,
    List.take_succ_cons, List.take_append, List.take_of_length_le (by omega), Nat.add_sub_cancel_left, List.take_succ_cons]

/-- R198: a record that the memory holds whole. -/
theorem Loader.read_whole (l : Loader) {kind index check : Byte} {data rest : List Byte} (hk : kind ≠ 0) (hd : data.length < 256)
    (room : l.address + data.length + 4 ≤ 4096) :
    l.read (kind :: index :: byteOf data.length :: (data ++ check :: rest)) =
      if 60 < data.length ∨ byteSum (kind :: index :: byteOf data.length :: (data ++ [check])) ≠ 0 then
        (l.incomplete (l.address + data.length + 4), true)
      else
        ({ l.take kind.toNat index.toNat data with
            address := l.address + data.length + 4, bytesRead := l.address + data.length + 4 },
          decide (l.address + data.length + 4 = 4096)) := by
  obtain ⟨rest', hrest⟩ := take_whole kind index (byteOf data.length) check data rest (n := 4096 - l.address) (by omega)
  have hlen : (byteOf data.length).toNat = data.length := by rw [byteOf_toNat, Nat.mod_eq_of_lt hd]
  have long : ¬(kind :: index :: byteOf data.length :: (data ++ check :: rest')).length < data.length + 4 := by
    simp only [List.length_cons, List.length_append]
    omega
  have front : (kind :: index :: byteOf data.length :: (data ++ check :: rest')).take (data.length + 4) =
      kind :: index :: byteOf data.length :: (data ++ [check]) := by
    rw [List.take_succ_cons, List.take_succ_cons, List.take_succ_cons, List.take_append, List.take_of_length_le (by omega),
      Nat.add_sub_cancel_left]
    rfl
  have body : (data ++ check :: rest').take data.length = data := List.take_left
  have fails : (decide (60 < data.length) || !checkHolds (kind :: index :: byteOf data.length :: (data ++ [check]))) = true ↔
      60 < data.length ∨ byteSum (kind :: index :: byteOf data.length :: (data ++ [check])) ≠ 0 := by
    simp [checkHolds]
  simp only [Loader.read, hrest, if_neg hk, Loader.readRecord, hlen, if_neg long, front, body, fails, Nat.add_assoc]

/-- R200: at least the record's first byte is read, and at most the whole memory. -/
theorem overrunRead_bounds {address : Nat} (length : Nat) (h : address < 4096) :
    address < overrunRead address length ∧ overrunRead address length ≤ 4096 := by
  have := Nat.mod_lt (Config.overrunBytesRead address length) (by omega : 0 < 4096 - address)
  simp only [overrunRead]
  omega

/-- R198: the bytes of a record that is not whole, at the end of the memory or before it. -/
theorem Loader.readRecord_cut (l : Loader) {kind : Byte} {rest : List Byte} (h : RecordCutShort (kind :: rest)) :
    ∃ length, l.readRecord (kind :: rest) =
      if l.address + (kind :: rest).length < 4096 then (l.incomplete (l.address + (kind :: rest).length), true)
      else (l.incomplete (overrunRead l.address length), true) := by
  match rest with
  | [] => exact ⟨0, rfl⟩
  | [index] => exact ⟨0, rfl⟩
  | index :: length :: body =>
    have short := h.2 length rfl
    exact ⟨length.toNat, by simp only [Loader.readRecord, if_pos short]⟩

/-- R198: a record that the memory does not hold whole. -/
theorem Loader.read_cut (l : Loader) {bytes : List Byte} (h : RecordCutShort (bytes.take (4096 - l.address))) (room : l.address < 4096) :
    ∃ read, l.read bytes = (l.incomplete read, true) ∧ l.address < read ∧ read ≤ 4096 ∧
      (l.address + bytes.length < 4096 → read = l.address + bytes.length) := by
  obtain ⟨⟨kind, rest, hbytes, hk⟩, short⟩ := h
  have length_eq : (kind :: rest).length = min (4096 - l.address) bytes.length := by rw [← hbytes, List.length_take]
  obtain ⟨length, cut⟩ := l.readRecord_cut (rest := rest) ⟨⟨kind, rest, rfl, hk⟩, hbytes ▸ short⟩
  have read : l.read bytes = l.readRecord (kind :: rest) := by simp only [Loader.read, hbytes, if_neg hk]
  rw [read, cut]
  by_cases hlen : l.address + bytes.length < 4096
  · have same : (kind :: rest).length = bytes.length := by omega
    rw [same, if_pos hlen]
    exact ⟨_, rfl, by rw [← same, List.length_cons]; omega, by omega, fun _ => rfl⟩
  · rw [if_neg (by omega)]
    obtain ⟨low, high⟩ := overrunRead_bounds length room
    exact ⟨_, rfl, low, high, fun h => absurd h hlen⟩

/-- R198: an ended memory, at address 0 and later. -/
theorem Loader.read_nil (l : Loader) :
    l.read [] = if l.address = 0 then ({ l with flags := { l.flags with absent := true } }, true) else (l.incomplete l.address, true) := by
  simp only [Loader.read, List.take_nil]

/-- R198: a STOP byte. -/
theorem Loader.read_stop (l : Loader) (rest : List Byte) (room : l.address < 4096) :
    l.read (0 :: rest) = ({ l with address := l.address + 1, bytesRead := l.address + 1 }, true) := by
  obtain ⟨m, hm⟩ : ∃ m, 4096 - l.address = m + 1 := ⟨4095 - l.address, by omega⟩
  simp only [Loader.read, hm, List.take_succ_cons, if_true]

/-- R198, R199: a record that is skipped. -/
theorem Loader.take_skipped {l : Loader} {kind index : Nat} {data : List Byte}
    (h : recordKnown kind index = false ∨ l.records.store kind index data = none) :
    l.take kind index data = { l with flags := { l.flags with unknownRecord := true } } := by
  have : (if recordKnown kind index then l.records.store kind index data else none) = none := by
    obtain h | h := h <;> simp [h]
  simp only [Loader.take, this]

/-- R198, R199: a record that is stored. -/
theorem Loader.take_stored {l : Loader} {kind index : Nat} {data : List Byte} {records : Records} {clamped : Bool}
    (known : recordKnown kind index = true) (h : l.records.store kind index data = some (records, clamped)) :
    l.take kind index data =
      { l with
        records := records, recordsTaken := l.recordsTaken + 1,
        flags := { l.flags with clamped := l.flags.clamped || clamped } } := by
  simp only [Loader.take, known, if_true, h]

theorem exec_configRecordRead {s : State} (h : s.loader.phase = .loading) (bytes : List Byte) :
    exec (.configRecordRead bytes) s =
      .next (if (s.loader.read bytes).2 then s.endLoading (s.loader.read bytes).1 else { s with loader := (s.loader.read bytes).1 }) := by
  change execConfigRecordRead bytes s = _
  simp only [execConfigRecordRead, h]

/-- Settles O4. -/
theorem configRecordIsTaken : Obligations.ConfigRecordIsTaken := by
  refine ⟨recordsStored, recordKnown_iff, ?_⟩
  intro s kind index check data rest loading hk hlen room hsum command moved
  have read := s.loader.read_whole (index := index) (check := check) (rest := rest) hk (by omega : data.length < 256) (by omega)
  rw [if_neg (by simp only [not_or, not_not]; exact ⟨by omega, hsum⟩)] at read
  have run : exec command s = .next { s with loader :=
      { s.loader.take kind.toNat index.toNat data with
        address := s.loader.address + data.length + 4, bytesRead := s.loader.address + data.length + 4 } } := by
    rw [exec_configRecordRead loading, read]
    simp only [decide_eq_true_eq, if_neg (by omega : ¬s.loader.address + data.length + 4 = 4096)]
  refine ⟨fun skipped => ?_, fun records clamped known stored => ?_⟩
  · rw [run, Loader.take_skipped skipped]
  · rw [run, Loader.take_stored known stored]

/-! ## The end of a load -/

/-- R47: the first drive of a door after a reset, into a zone that bars entry; its module is not heard yet. -/
theorem State.refreshDrive_first {s : State} {d : Door} {y : DoorRec} (hd : s.doors[d] = some y) (locked : y.state ≠ .unlocked)
    (quiet : y.denialEnd = none ∧ y.pairing = none ∧ y.lastDrive = none ∧ y.chirpOwed = false) (bars : s.bars y.cfg.inside = true)
    (offline : ∀ m : Module, (s.bus.modules[m]).any (·.online) = false) :
    s.refreshDrive d = { s with doors := s.doors.put d (some { y with lastDrive := some ⟨.locked, .red, false⟩ }) } := by
  obtain ⟨denial, pairing, last, chirp⟩ := quiet
  have drive : s.doorDrive y = ⟨.locked, .red, false⟩ := by
    simp [State.doorDrive, doorLock, doorIndicator, locked, denial, pairing, chirp, bars]
  have due : driveDiffers y.lastDrive ⟨.locked, .red, false⟩ = true := by simp [driveDiffers, last]
  have kept (u : State) (hb : u.bus = s.bus) (m : Option Module) (x : Drive) : u.handDrive m x = u := by
    cases m with
    | none => rfl
    | some m =>
      have : ¬(u.bus.modules[m]).any (·.online) = true := by rw [hb, offline m]; decide
      simp only [State.handDrive, if_neg this]
  simp only [State.refreshDrive, hd, drive, if_pos due]
  rw [kept (s.updDoor d _) rfl]
  simp [State.updDoor, hd, chirp]

/-- R47: the first drives of several doors. -/
theorem State.forEach_refreshDrive_first (l : List Door) (hl : l.Nodup) (s : State)
    (fresh : ∀ d ∈ l, ∃ y, s.doors[d] = some y ∧ y.state ≠ .unlocked ∧
      (y.denialEnd = none ∧ y.pairing = none ∧ y.lastDrive = none ∧ y.chirpOwed = false) ∧ s.bars y.cfg.inside = true)
    (offline : ∀ m : Module, (s.bus.modules[m]).any (·.online) = false) :
    let t := s.forEach l fun d u => u.refreshDrive d
    t = { s with doors := t.doors } ∧
      ∀ d : Door, t.doors[d] = if d ∈ l then (s.doors[d]).map fun x => { x with lastDrive := some ⟨.locked, .red, false⟩ } else s.doors[d] := by
  induction l generalizing s with
  | nil => exact ⟨rfl, fun d => by simp [State.forEach]⟩
  | cons a l ih =>
    obtain ⟨ha, hl⟩ := List.nodup_cons.1 hl
    obtain ⟨y, hy, locked, quiet, bars⟩ := fresh a (List.mem_cons_self ..)
    obtain ⟨u, hu⟩ : ∃ u : State, u = { s with doors := s.doors.put a (some { y with lastDrive := some ⟨.locked, .red, false⟩ }) } := ⟨_, rfl⟩
    have first : s.refreshDrive a = u := by rw [State.refreshDrive_first hy locked quiet bars offline, hu]
    have doors (d : Door) (hne : d ≠ a) : u.doors[d] = s.doors[d] := by
      have other : a.val ≠ d.val := fun e => hne (Fin.ext e.symm)
      simp [hu, other]
    have rest := ih hl u (fun d hd => by
      rw [doors d (fun e => ha (e ▸ hd))]
      obtain ⟨x, hx, keep⟩ := fresh d (List.mem_cons_of_mem _ hd)
      exact ⟨x, hx, by rw [hu]; exact keep⟩) (by rw [hu]; exact offline)
    simp only [State.forEach, List.foldl_cons, first] at rest ⊢
    obtain ⟨shape, each⟩ := rest
    refine ⟨?_, fun d => ?_⟩
    · rw [shape, hu]
    · rw [each d]
      by_cases e : d = a
      · subst e
        simp [ha, hu, hy]
      · simp [e, doors d e]

/-- R32: the doors that stay configured. -/
theorem Records.settleDoors_stands {r : Records} {d : Door} {c : DoorCfg} (h : r.settleDoors.doors[d] = some c) :
    (r.zones[c.inside]).isSome = true := by
  simp only [Records.settleDoors, Fin.getElem_fin, Vector.getElem_map, Option.filter_eq_some_iff] at h
  obtain ⟨-, stands⟩ := h
  simp only [Records.doorStands, Bool.and_eq_true] at stands
  exact stands.1

/-- R33: what a door starts with. -/
theorem Records.doorRecs_fresh {r : Records} {d : Door} {y : DoorRec} (h : r.doorRecs[d] = some y) :
    ∃ c, r.doors[d] = some c ∧ y.cfg.inside = c.inside ∧ y.state ≠ .unlocked ∧
      (y.denialEnd = none ∧ y.pairing = none ∧ y.lastDrive = none ∧ y.chirpOwed = false) := by
  simp only [Records.doorRecs, Fin.getElem_fin, Vector.getElem_ofFn, Option.map_eq_some_iff] at h
  obtain ⟨c, hc, rfl⟩ := h
  refine ⟨c, hc, rfl, ?_, rfl, rfl, rfl, rfl⟩
  simp only [DoorRec.fresh]
  split <;> exact nofun

/-- R31: no module is ONLINE at first. -/
theorem Records.moduleRecs_offline (r : Records) (m : Module) : (r.moduleRecs[m]).any (·.online) = false := by
  simp only [Records.moduleRecs, Fin.getElem_fin, Vector.getElem_ofFn]
  cases (List.finRange 16).find? fun d => (r.doors[d]).any (·.module = ⟨m.val, m.isLt⟩) with
  | none => rfl
  | some d => rfl

theorem presentIn_nodup {α : Type} {n : Nat} (t : Tab (Option α) n) : (presentIn t).Nodup := (List.nodup_finRange n).filter _

theorem mem_presentIn {α : Type} {n : Nat} {t : Tab (Option α) n} {i : Fin n} : i ∈ presentIn t ↔ (t[i]).isSome = true := by
  simp [presentIn]

/-- R197, R200: all that the end of a load does. -/
theorem State.endLoading_ends (s : State) (l : Loader) : LoadEnds s l (s.endLoading l) := by
  unfold LoadEnds
  intro r f
  obtain ⟨u, hu⟩ : ∃ u, u = ({ s with loader := { l with phase := .running, flags :=
      { l.flags with clamped := l.flags.clamped || crossChecksFail l.records r }, records := .empty } }).configured r := ⟨_, rfl⟩
  obtain ⟨v, hv⟩ : ∃ v, v = u.forEach (presentIn u.doors) fun d x => x.refreshDrive d := ⟨_, rfl⟩
  have ends : s.endLoading l = v.startupDone := by
    rw [hv, hu]
    rfl
  have doors (d : Door) : u.doors[d] = r.doorRecs[d] := by rw [hu]; rfl
  have zones (z : Zone) : u.zones[z] = (l.records.zones[z]).map ZoneRec.fresh := by
    simp [hu, State.configured, r, Records.settleDoors]
  obtain ⟨shape, each⟩ := State.forEach_refreshDrive_first (presentIn u.doors) (presentIn_nodup u.doors) u (fun d hd => by
    obtain ⟨y, hy⟩ := Option.isSome_iff_exists.1 (mem_presentIn.1 hd)
    obtain ⟨c, hc, inside, locked, quiet⟩ := Records.doorRecs_fresh ((doors d).symm.trans hy)
    obtain ⟨k, hk⟩ := Option.isSome_iff_exists.1 (Records.settleDoors_stands hc)
    refine ⟨y, hy, locked, quiet, ?_⟩
    have : u.zones[c.inside] = some (.fresh k) := by
      rw [zones]
      exact congrArg _ hk
    rw [inside, State.bars, this]
    rfl) (by rw [hu]; exact r.moduleRecs_offline)
  rw [← hv] at shape each
  have told : s.endLoading l = v.notify (.startupDone l.resetKind u.loader.flags l.bytesRead l.recordsTaken (presentIn u.zones)
      (presentIn v.doors) (presentIn u.containers.table) s.time.tod) := by
    rw [ends, State.startupDone, shape, hu]
    rfl
  obtain ⟨t, ht⟩ : ∃ t, t = s.endLoading l := ⟨_, rfl⟩
  obtain ⟨cycles, nocarry, -, time⟩ := s.time.endLoad_adds f
  have utime : u.time = s.time.endLoad f := by rw [hu]; rfl
  rw [← ht] at told ⊢
  have frame : t = { u with doors := v.doors, ports := t.ports } := by
    apply State.ext_fields <;> rw [told] <;> simp <;> rw [shape]
  have loader : t.loader = u.loader := by rw [frame]
  have tzones : t.zones = u.zones := by rw [frame]
  have tcontainers : t.containers = u.containers := by rw [frame]
  have tlink : t.link = u.link := by rw [frame]
  have tdoors : t.doors = v.doors := by rw [frame]
  refine ⟨?_, ⟨cycles, nocarry, ?_⟩, ?_, fun i => ?_, ?_, fun d => ?_, ?_, fun z => ?_, fun z => ?_, ?_, fun bank => ?_, ?_, fun c => ?_, ?_,
    fun i => ?_, ?_, fun i => ?_, fun z => ?_, fun q => ?_⟩
  · rw [frame, hu]
    rfl
  · rw [frame]
    exact utime.trans time
  · rw [loader, hu]
    rfl
  · rw [frame, hu]
    simp [State.configured]
  · rw [frame, hu]
    rfl
  · rw [tdoors, each d, doors d]
    by_cases present : d ∈ presentIn u.doors
    · rw [if_pos present]
    · have absent : r.doorRecs[d] = none := by
        rw [mem_presentIn, doors d] at present
        exact Option.not_isSome_iff_eq_none.1 present
      rw [if_neg present, absent]
      rfl
  · rw [frame, hu]
    rfl
  · rw [frame, hu]
    simp [State.configured, r, Records.settleDoors]
  · rw [tzones, zones]
  · rw [frame, hu]
    rfl
  · rw [frame, hu]
    cases bank <;> rfl
  · rw [tcontainers, hu]
    rfl
  · rw [tcontainers, hu]
    simp [State.configured, r, Records.settleDoors, State.nowMs]
  · rw [frame, hu]
    rfl
  · rw [frame, hu]
    simp [State.configured, r, Records.settleDoors]
  · rw [frame, hu]
    rfl
  · rw [tlink, hu]
    simp [State.configured]
  · rw [tlink, hu]
    simp [State.configured, r, Records.settleDoors]
  · rw [loader, tzones, tdoors, tcontainers, told, State.notify_get]
    have ports : v.ports = s.ports := by rw [shape, hu]; rfl
    have stamp (b : NoticeBody) : v.stampNotice b = s.stampNotice b := by rw [shape, hu]; rfl
    simp only [PortRec.gains, ports, stamp]

/-- R198: a record that ends the load. -/
theorem load_ends {s : State} (loading : s.loader.phase = .loading) {bytes : List Byte} {l : Loader} (read : s.loader.read bytes = (l, true)) :
    Completes (exec (.configRecordRead bytes) s) (LoadEnds s l) :=
  ⟨s.endLoading l, by simp only [exec_configRecordRead loading, read, if_true], s.endLoading_ends l⟩

/-- Settles O6: what the loader has come to is read off the bytes, and the end of the load is the same in every case. -/
theorem loadEndsWithStartupDone : Obligations.LoadEndsWithStartupDone := by
  intro s loading here ends stopped
  have fits {bytes : List Byte} (h : here + bytes.length < 4096) : bytes.take (4096 - here) = bytes :=
    List.take_of_length_le (by omega)
  refine ⟨fun rest room => load_ends loading (s.loader.read_stop rest room), fun h => ?_, fun h => ?_, fun bytes room cut => ?_,
    fun bytes room long cut => ?_, ?_⟩
  · exact load_ends loading (by rw [Loader.read_nil, if_pos h])
  · exact load_ends loading ((Loader.read_nil _).trans (if_neg h))
  · obtain ⟨read, hread, -, -, exact_⟩ := s.loader.read_cut (by rwa [fits room]) (by omega : here < 4096)
    rw [exact_ room] at hread
    exact load_ends loading hread
  · obtain ⟨read, hread, low, high, -⟩ := s.loader.read_cut cut room
    exact ⟨read, low, high, load_ends loading hread⟩
  · intro kind index check data rest hk hlen whole bytes
    refine ⟨fun room bad => ?_, fun last short sum => ?_⟩
    · exact load_ends loading ((s.loader.read_whole hk hlen room).trans (if_pos bad))
    · have read := s.loader.read_whole (index := index) (check := check) (rest := rest) hk hlen (by omega)
      rw [if_neg (by simp only [not_or, not_not]; exact ⟨by omega, sum⟩), decide_eq_true last, last] at read
      refine ⟨fun skipped => ?_, fun records clamped known stored => ?_⟩
      · rw [Loader.take_skipped skipped] at read
        exact load_ends loading read
      · rw [Loader.take_stored known stored] at read
        exact load_ends loading read

end Sys2Proof.Machine

namespace Sys2Proof.Machine

/-! ## Rules that decide on a port that hunts -/

/-- A state after a request's rule, with what the port gathers put back as it was in `s`. -/
def State.regathering (v s : State) (p : Port) : State := v.updPort p fun x => { x with rx := (s.ports[portIndex p]).rx }

theorem State.regathering_get (v s : State) (p q : Port) :
    (v.regathering s p).ports[portIndex q] =
      if q = p then { v.ports[portIndex q] with rx := (s.ports[portIndex p]).rx } else v.ports[portIndex q] :=
  v.updPort_get p q _

/-- Notices join a queue and bear on nothing that is gathered. -/
theorem PortRec.gains_rx (r : PortRec) (s : State) (q : Port) (l : List NoticeBody) : (r.gains s q l).rx = r.rx := by
  unfold PortRec.gains
  induction l.filter (fun b => decide (q ∈ b.ports)) generalizing r with
  | nil => rfl
  | cons b l ih =>
    rw [List.foldl_cons, ih, PortRec.enqueue]
    split <;> rfl

theorem State.hunting_get (s : State) (p q : Port) :
    (s.hunting p).ports[portIndex q] = if q = p then { s.ports[portIndex q] with rx := .hunt } else s.ports[portIndex q] :=
  s.updPort_get p q _

/-- What a rule makes of the state whose port hunts is what it makes of the state itself, its port hunting. -/
theorem QueuesGain.regathering {s v : State} {p : Port} {l : List NoticeBody} (h : QueuesGain (s.hunting p) v l) :
    QueuesGain s (v.regathering s p) l ∧ (v.regathering s p).hunting p = v := by
  have ports (q : Port) : v.ports[portIndex q] = ((s.hunting p).ports[portIndex q]).gains s q l := by
    rw [h q, PortRec.gains_time _ (t := s.hunting p) (s := s) rfl]
  refine ⟨fun q => ?_, ?_⟩
  · have := ports q
    rw [State.hunting_get] at this
    rw [State.regathering_get, this]
    by_cases e : q = p
    · subst e
      rw [if_pos rfl, if_pos rfl, PortRec.gains_hunt, ← PortRec.gains_rx _ s q l]
    · rw [if_neg e, if_neg e]
  · refine State.ext_fields rfl rfl rfl rfl rfl rfl rfl rfl rfl rfl rfl rfl rfl rfl (ports_ext fun q => ?_) rfl
    have := ports q
    rw [State.hunting_get] at this
    rw [State.hunting_get, State.regathering_get, this]
    by_cases e : q = p
    · simp only [if_pos e, PortRec.gains_hunt]
    · simp only [if_neg e]

/-! ## Checks and test releases -/

/-- R130, R132: an output whose path fault stays and that tells nothing. -/
theorem OutputBecomes.silent {s t : State} {o : Output} {x : OutputRec} {tests : Tab (Option TestRec) 8} {edge : Option Nat}
    (h : OutputBecomes s t o x tests edge []) (hf : x.fault = (s.valves.outputs[o]).fault) :
    t = { s with valves := { outputs := s.valves.outputs.put o x, tests := tests } } := by
  obtain ⟨frame, zones, -, gains⟩ := h
  have ports : t.ports = s.ports := ports_ext fun q => by
    rw [gains q]
    simp [faultTold, hf, PortRec.gains]
  rw [frame, zones hf, ports]

/-- R126, R127: a failed check, before a running test release takes its result. -/
theorem State.failCheck_cases (s : State) (o : Output) (c : Check) :
    let fault : PathFault := match c.kind with | .onCheck => .onCheckFail | .offCheck => .offCheckFail
    ∃ u, OutputBecomes s u o { s.valves.outputs[o] with check := none, fault := some fault } s.valves.tests (some c.edge) [] ∧
      s.failCheck o c = u.testChecked o c.kind false := by
  intro fault
  exact ⟨_, s.setPathFault_becomes o (fun r => { r with check := none }) (some fault) (some c.edge) rfl, rfl⟩

/-- R126, R127: a pending check that has reached its expiry fails. -/
theorem exec_checkExpiry (s : State) (o : Output) (kind : CheckKind) (edge expiry : Nat) :
    (s.valves.outputs[o]).check = some ⟨kind, edge, expiry⟩ → expiry ≤ s.nowMs →
    exec (match kind with | .onCheck => .onCheckExpiry o | .offCheck => .offCheckExpiry o) s =
      .next (s.failCheck o ⟨kind, edge, expiry⟩) := by
  intro h hexp
  cases kind with
  | onCheck =>
    have due : s.checkOverdue o .onCheck = some ⟨.onCheck, edge, expiry⟩ := by simp only [State.checkOverdue, h, Option.filter]; simp [hexp]
    simp only [exec, execOnCheckExpiry, due]
  | offCheck =>
    have due : s.checkOverdue o .offCheck = some ⟨.offCheck, edge, expiry⟩ := by simp only [State.checkOverdue, h, Option.filter]; simp [hexp]
    simp only [exec, execOffCheckExpiry, due]

/-- R132: the result of a check that no running test release of its selector takes. -/
theorem State.testChecked_none {u : State} {z : Zone} (h : u.valves.tests[z] = none) (kind : CheckKind) (passed : Bool) :
    u.testChecked (selectorOf z) kind passed = u := by
  cases kind <;> simp only [State.testChecked, selectorZone_selectorOf, State.endTest, h]

/-- R132: a main valve has no test release. -/
theorem State.testChecked_mainValve (u : State) (bank : Bank) (kind : CheckKind) (passed : Bool) :
    u.testChecked (mainValveOf bank) kind passed = u := by
  simp only [State.testChecked, selectorZone_mainValveOf]

/-- R132: a test release in its first stage takes the result of an ON_CHECK. -/
theorem State.testChecked_first {u : State} {z : Zone} {start : Nat} {was : Bool} (h : u.valves.tests[z] = some ⟨start, .first was⟩)
    (kind : CheckKind) (passed : Bool) :
    u.testChecked (selectorOf z) kind passed =
      match kind with
      | .onCheck => u.setTest z (some ⟨start, .first passed⟩)
      | .offCheck => u := by
  cases kind <;> simp only [State.testChecked, selectorZone_selectorOf, State.endTest, h]

/-- R132: a test release in its second stage ends with the result of its OFF_CHECK. -/
theorem State.testChecked_second {u : State} {z : Zone} {start : Nat} {on : Bool} (h : u.valves.tests[z] = some ⟨start, .second on⟩)
    (kind : CheckKind) (passed : Bool) :
    u.testChecked (selectorOf z) kind passed =
      match kind with
      | .onCheck => u
      | .offCheck => (u.setTest z none).notify (.testResult z on passed false) := by
  cases kind <;> simp only [State.testChecked, selectorZone_selectorOf, State.endTest, h]

/-- Settles O28: the check fails alike everywhere, and then a running test release takes the result. -/
theorem checkFailsAtItsExpiry : Obligations.CheckFailsAtItsExpiry := by
  intro s o kind edge expiry r fault hcheck hexp command fails
  obtain ⟨u, becomes, failed⟩ := s.failCheck_cases o ⟨kind, edge, expiry⟩
  have run : exec command s = .next (u.testChecked o kind false) := by
    rw [← failed]
    exact exec_checkExpiry s o kind edge expiry hcheck hexp
  have tests (z : Zone) : u.valves.tests[z] = s.valves.tests[z] := by rw [becomes.1]
  refine ⟨fun bank ho => ?_, fun z ho => ⟨fun idle => ?_, fun start passed first => ?_, fun start passed second => ?_⟩⟩
  · subst ho
    rw [State.testChecked_mainValve] at run
    exact ⟨u, run, becomes⟩
  · subst ho
    rw [State.testChecked_none ((tests z).trans idle)] at run
    exact ⟨u, run, becomes⟩
  · subst ho
    rw [State.testChecked_first ((tests z).trans first)] at run
    cases kind with
    | onCheck => exact ⟨_, run, becomes.setTest z _⟩
    | offCheck => exact ⟨u, run, becomes⟩
  · subst ho
    rw [State.testChecked_second ((tests z).trans second)] at run
    cases kind with
    | onCheck => exact ⟨u, run, becomes⟩
    | offCheck => exact ⟨_, run, (becomes.setTest z none).notify _⟩

/-- Settles O29: the second stage's own lemma, whose output record is read off the selector's feedback. -/
theorem testReleaseReachesSecondStage : Obligations.TestReleaseReachesSecondStage := by
  intro s z start passed o r htest hdue service drive
  have ended : (s.valves.tests[z]).any (·.stageOver s.nowMs) = true := by
    rw [htest]
    exact decide_eq_true hdue
  have run : exec (.testStageEnd z) s = .next (s.testSecondStage z) := by
    simp only [exec, execTestStageEnd, if_pos ended]
  have becomes := s.testSecondStage_becomes z start passed htest
  simp only at becomes
  have edge : ¬(r.inService = false ∨ r.drive = false) := by simp [service, drive]
  refine ⟨fun unsupervised => ?_, fun supervised waits => ?_, fun supervised passes => ?_⟩
  · have switched : r.switched false s.nowMs = { r with drive := false } := by
      rw [OutputRec.switched, if_neg edge, if_pos unsupervised]
    rw [show s.valves.outputs[selectorOf z] = r from rfl, switched, secondStage, if_pos unsupervised] at becomes
    obtain ⟨frame, zones, -, gains⟩ := becomes
    refine ⟨_, run, ?_, ?_⟩
    · rw [frame, zones rfl]
    · simpa [faultTold, r, o] using gains
  · have switched : r.switched false s.nowMs = { r with drive := false, check := some ⟨.offCheck, s.nowMs, s.nowMs + 1000⟩ } := by
      rw [OutputRec.switched, if_neg edge, if_neg supervised]
      simp [waits]
    rw [show s.valves.outputs[selectorOf z] = r from rfl, switched, secondStage, if_neg supervised, if_neg (by simp [waits])] at becomes
    rw [run, becomes.silent rfl]
  · have switched : r.switched false s.nowMs = { r with drive := false, check := none, fault := none } := by
      rw [OutputRec.switched, if_neg edge, if_neg supervised]
      simp [passes]
    rw [show s.valves.outputs[selectorOf z] = r from rfl, switched, secondStage, if_neg supervised,
      if_pos ⟨service, drive, passes⟩] at becomes
    exact ⟨_, run, becomes⟩

/-- R131: the edge that begins a test release: all it does, and what its test then holds. -/
theorem State.beginTest_becomes (s : State) (z : Zone) :
    let r := s.valves.outputs[selectorOf z]
    let passes : Bool := r.inService = true ∧ r.drive = false ∧ r.feedbackLine ≠ none ∧ r.feedback = some .active
    OutputBecomes s (s.beginTest z) (selectorOf z) (r.switched true s.nowMs)
      (s.valves.tests.put z (some ⟨s.nowMs, .first passes⟩)) none [] := by
  intro r passes
  obtain ⟨u, hu, e⟩ := (s.setTest z (some ⟨s.nowMs, .first false⟩)).switchOutput_cases (selectorOf z) true
  have here : (s.setTest z (some ⟨s.nowMs, .first false⟩)).valves.outputs[selectorOf z] = r := rfl
  have becomes : OutputBecomes s u (selectorOf z) (r.switched true s.nowMs) (s.valves.tests.put z (some ⟨s.nowMs, .first false⟩)) none [] := hu
  have first : u.valves.tests[z] = some ⟨s.nowMs, .first false⟩ := by rw [becomes.1]; simp
  rw [here] at e
  rw [State.beginTest, e]
  by_cases h : r.inService = true ∧ r.drive ≠ true ∧ r.feedbackLine ≠ none ∧ r.feedback = some CheckKind.onCheck.wanted
  · have hp : passes = true := by simpa [passes, CheckKind.wanted] using h
    have := becomes.setTest z (some ⟨s.nowMs, .first true⟩)
    rw [Tab.put_put] at this
    rw [hp, if_pos (by simpa using h)]
    simp only [if_true, State.testChecked_first first]
    exact this
  · have hp : passes = false := by
      rw [Bool.eq_false_iff]
      intro hp
      exact h (by simpa [passes, CheckKind.wanted] using hp)
    rw [hp, if_neg (by simpa using h)]
    exact becomes

/-- What an output becomes by a request's rule. -/
theorem OutputBecomes.regathering {s v : State} {p : Port} {o : Output} {x : OutputRec} {tests : Tab (Option TestRec) 8}
    {edge : Option Nat} {more : List NoticeBody} (h : OutputBecomes (s.hunting p) v o x tests edge more) :
    OutputBecomes s (v.regathering s p) o x tests edge more := by
  obtain ⟨frame, same, handed, gains⟩ := h
  refine ⟨?_, same, handed, gains.regathering.1⟩
  have : v.regathering s p = { v with ports := (v.regathering s p).ports } := rfl
  rw [this, frame]
  rfl

/-- R131: TEST_RELEASE on a configured zone. -/
theorem decideTestRelease_zone {s : State} {z : Zone} {r : ZoneRec} {p : Port} (hz : s.zones[z] = some r) :
    decideTestRelease s p [byteOf z.val] = s.testZone z r := by
  have named : s.zoneNamed z.val = some (z, r) := by rw [State.zoneNamed_of_eq rfl, hz]; rfl
  simp only [decideTestRelease, readNumber_singleton, zone_byte, named]

/-- R131: a test release is refused while one runs. -/
theorem State.testZone_running {s : State} {z : Zone} {r : ZoneRec} (h : s.valves.tests[z] ≠ none) :
    s.testZone z r = ⟨s, .busy, []⟩ := if_pos (Option.isSome_iff_ne_none.2 h)

theorem State.testZone_wrongState {s : State} {z : Zone} {r : ZoneRec} (h : s.valves.tests[z] = none) (hr : r.state ≠ .isolated) :
    s.testZone z r = ⟨s, .wrongState, []⟩ := by
  rw [State.testZone, if_neg (by simp [h]), if_pos (by simpa using hr)]
  rfl

theorem State.testZone_open {s : State} {z : Zone} {r : ZoneRec} (h : s.valves.tests[z] = none) (hr : r.state = .isolated)
    (main : (s.valves.outputs[mainValveOf r.cfg.bank]).drive = true) : s.testZone z r = ⟨s, .busy, []⟩ := by
  rw [State.testZone, if_neg (by simp [h]), if_neg (by simp [hr]), if_pos main]
  rfl

theorem State.testZone_begins {s : State} {z : Zone} {r : ZoneRec} (h : s.valves.tests[z] = none) (hr : r.state = .isolated)
    (main : (s.valves.outputs[mainValveOf r.cfg.bank]).drive = false) : s.testZone z r = ⟨s.beginTest z, .ok, []⟩ := by
  rw [State.testZone, if_neg (by simp [h]), if_neg (by simp [hr]), if_neg (by simpa using main)]
  rfl

/-- Settles O51: the refusals read the state alone; the beginning is the edge of the selector. -/
theorem testReleaseBegins : Obligations.TestReleaseBegins := by
  intro s b f z r ready payload hz o x answers
  obtain ⟨w, hw⟩ : ∃ w, w = s.hunting .suppression := ⟨_, rfl⟩
  have decides : decideTestRelease w .suppression f.payload = w.testZone z r := by
    rw [payload]
    exact decideTestRelease_zone (by rw [hw]; exact hz)
  have answer {u : State} {status : Status} (h : w.testZone z r = ⟨u.hunting .suppression, status, []⟩) :
      exec (.testRelease .suppression b) s = .next (u.answered .suppression f status []) :=
    congrArg _ (ready.answers false rfl (hw ▸ decides.trans h))
  have tests : w.valves = s.valves := by rw [hw]; rfl
  have now : w.nowMs = s.nowMs := by rw [hw]; rfl
  have becomes := w.beginTest_becomes z
  refine ⟨fun busy => answer ?_, fun idle state => answer ?_, fun idle isolated main => answer ?_,
    fun idle isolated closed service off waits => ?_, fun idle isolated closed service off supervised active => ?_⟩
  · rw [State.testZone_running (tests ▸ busy), hw]
  · rw [State.testZone_wrongState (tests ▸ idle) state, hw]
  · rw [State.testZone_open (tests ▸ idle) isolated (tests ▸ main), hw]
  · have passes : decide (x.inService = true ∧ x.drive = false ∧ x.feedbackLine ≠ none ∧ x.feedback = some .active) = false := by
      obtain h | h := waits <;> simp [h]
    have edge : ¬(x.inService = false ∨ x.drive = true) := by simp [service, off]
    have switched : x.switched true s.nowMs =
        { x with drive := true, check := if x.feedbackLine = none then x.check else some ⟨.onCheck, s.nowMs, s.nowMs + 1000⟩ } := by
      rw [OutputRec.switched, if_neg edge]
      by_cases h : x.feedbackLine = none
      · rw [if_pos h, if_pos h]
      · rw [if_neg h, if_neg h, if_neg (by simpa [h] using waits)]
        rfl
    simp only [tests, now] at becomes
    rw [passes, switched] at becomes
    refine answer ((State.testZone_begins (tests ▸ idle) isolated (tests ▸ closed)).trans ?_)
    rw [becomes.silent (by rw [tests]), hw]
    rfl
  · have passes : decide (x.inService = true ∧ x.drive = false ∧ x.feedbackLine ≠ none ∧ x.feedback = some .active) = true := by
      simp [service, off, supervised, active]
    have switched : x.switched true s.nowMs = { x with drive := true, check := none, fault := none } := by
      simp [OutputRec.switched, service, off, supervised, active]
    simp only [tests, now] at becomes
    rw [passes, switched, hw] at becomes
    refine ⟨_, answer (u := ((s.hunting .suppression).beginTest z).regathering s .suppression) ?_, _, rfl, becomes.regathering⟩
    rw [becomes.2.2.2.regathering.2, State.testZone_begins (tests ▸ idle) isolated (tests ▸ closed), hw]

end Sys2Proof.Machine

namespace Sys2Proof.Machine

/-! ## Withdrawals at one door -/

/-- R40, R43, R44, R54: all that the removal of a door's pairing record does. -/
theorem State.withdrawPairing_only {s : State} {d : Door} {y : DoorRec} (h : s.doors[d] = some y) (cause : WithdrawCause) :
    s.withdrawPairing d cause =
        { s with doors := s.doors.put d (some { y with pairing := none }), ports := (s.withdrawPairing d cause).ports } ∧
      QueuesGain s (s.withdrawPairing d cause) (y.pairing.toList.map fun p => .accessWithdrawn d cause none (some p.first)) := by
  have doors : (s.withdrawPairing d cause).doors = s.doors.put d (some { y with pairing := none }) := by
    rw [State.withdrawPairing_doors, h]
    rfl
  refine ⟨?_, ?_⟩
  · rw [← doors]
    apply State.ext_fields <;> simp
  · cases hp : y.pairing with
    | none =>
      have : s.withdrawPairing d cause = s := by simp only [State.withdrawPairing, h, Option.bind_some, hp]
      rw [this]
      exact .refl s
    | some p =>
      simp only [State.withdrawPairing, h, Option.bind_some, hp]
      exact (State.notify_gains _ _).congr rfl rfl rfl

/-- R40, R43, R44, R78: all that the removal of a door's grant does. -/
theorem State.withdrawGrant_only {s : State} {d : Door} {y : DoorRec} {g : Grant} (h : s.doors[d] = some y) (hg : y.grant = some g)
    (cause : WithdrawCause) :
    let z := y.cfg.inside
    let u := s.withdrawGrant d cause
    u = { s with
        doors := s.doors.put d (some { y with grant := none }),
        occupancy := { s.occupancy with reserved := s.occupancy.reserved.put z (s.occupancy.reserved[z] - g.places) },
        zones := s.zones.put z ((s.zones[z]).map fun x => { x with summary := u.summaryOf z }), ports := u.ports } ∧
      QueuesGain s u [.accessWithdrawn d cause (some g) none] := by
  intro z u
  obtain ⟨v, hv⟩ : ∃ v, v = (s.updDoor d fun x => { x with grant := none }).releasePlaces z g.places := ⟨_, rfl⟩
  have hu : u = v.notify (.accessWithdrawn d cause (some g) none) := by
    simp only [u, State.withdrawGrant, h, hg, hv, z]
  have released := (s.updDoor d fun x => { x with grant := none }).releasePlaces_eq z g.places
  rw [← hv] at released
  obtain ⟨m, hm⟩ : ∃ m, m = v.summaryOf z := ⟨_, rfl⟩
  have summary : u.summaryOf z = m := hm ▸ State.summaryOf_congr (by rw [hu]; simp) (by rw [hu]; simp)
  rw [← hm] at released
  have doors : v.doors = s.doors.put d (some { y with grant := none }) := by
    rw [released]
    simp only [State.updDoor_doors, h, Option.map_some]
  refine ⟨?_, ?_⟩
  · rw [summary, ← doors]
    conv_lhs => rw [hu, State.notify_only, ← hu]
    rw [released]
    rfl
  · rw [hu]
    exact (State.notify_gains v _).congr (by rw [released]; rfl) (by rw [released]; rfl) rfl

/-- R21, R40, R47, R78: all that a withdrawal order does at one door. -/
theorem State.withdrawAtDoor_becomes {s : State} {d : Door} {y : DoorRec} {entered : ZoneState} (h : s.doors[d] = some y)
    (order : stateBars entered = true) (bars : s.bars y.cfg.inside = true) :
    let z := y.cfg.inside
    let n := ((y.ordered entered).map (·.places)).getD 0
    let u := s.withdrawAtDoor d entered
    u = { s with
        doors := s.doors.put d (some ((y.withdrawn entered).driven true)), bus := u.bus, zones := u.zones, ports := u.ports,
        occupancy := { s.occupancy with reserved := s.occupancy.reserved.put z (s.occupancy.reserved[z] - n) } } ∧
      (y.ordered entered = none → u.zones = s.zones) ∧
      (y.ordered entered ≠ none → u.zones = s.zones.put z ((s.zones[z]).map fun x => { x with summary := u.summaryOf z })) ∧
      DoorDrives s u (y.withdrawn entered) true ∧ QueuesGain s u (y.withdrawalTold d entered) := by
  intro z n u
  obtain ⟨v, hv⟩ : ∃ v, v = s.withdrawPairing d .zoneBarred := ⟨_, rfl⟩
  obtain ⟨first, gains⟩ := State.withdrawPairing_only h .zoneBarred
  rw [← hv] at first gains
  have at_d : v.doors[d] = some { y with pairing := none } := by rw [first]; exact Tab.getElem_put_self ..
  have ordered_eq := DoorRec.ordered_eq order y
  cases ho : y.ordered entered with
  | none =>
    have keeps : u = v.refreshDrive d := by
      simp only [u, State.withdrawAtDoor, ← hv, at_d, Option.bind_some]
      cases hg : y.grant with
      | none => rfl
      | some g =>
        rw [ordered_eq, hg] at ho
        have : ¬orderWithdraws entered g.kind = true := by simpa [Option.filter_eq_none_iff] using ho
        simp only [if_neg this]
    have becomes := State.refreshDrive_becomes (s := s) (u := v) (r := y) (y := { y with pairing := none })
      (by rw [first]) rfl (by rw [first]) (by rw [first]) (by rw [first]; rfl)
    rw [← keeps, bars] at becomes
    obtain ⟨shape, drives⟩ := becomes
    have told : y.withdrawalTold d entered = y.pairing.toList.map fun p => .accessWithdrawn d .zoneBarred none (some p.first) := by
      simp [DoorRec.withdrawalTold, ho]
    rw [DoorRec.withdrawn_of_none ho, told]
    have places : n = 0 := by simp [n, ho]
    have reserved : s.occupancy.reserved.put z (s.occupancy.reserved[z] - n) = s.occupancy.reserved :=
      put_eq_self (by rw [places, Nat.sub_zero])
    refine ⟨?_, fun _ => ?_, fun e => absurd rfl e, drives, ?_⟩
    · rw [reserved, shape, first]
    · rw [shape, first]
    · exact gains.congr rfl rfl (by rw [shape])
  | some g =>
    obtain ⟨hg, withdraws⟩ : y.grant = some g ∧ orderWithdraws entered g.kind = true := by
      rw [ordered_eq, Option.filter_eq_some_iff] at ho
      exact ho
    have places : n = g.places := by simp [n, ho]
    obtain ⟨w, hw⟩ : ∃ w, w = v.withdrawGrant d .zoneBarred := ⟨_, rfl⟩
    obtain ⟨second, gains'⟩ := State.withdrawGrant_only (s := v) at_d hg .zoneBarred
    rw [← hw] at second gains'
    obtain ⟨m, hm⟩ : ∃ m, m = w.summaryOf z := ⟨_, rfl⟩
    obtain ⟨pv, hpv⟩ : ∃ p, p = v.ports := ⟨_, rfl⟩
    obtain ⟨pw, hpw⟩ : ∃ p, p = w.ports := ⟨_, rfl⟩
    change w = { v with
      doors := _, occupancy := _, zones := v.zones.put z ((v.zones[z]).map fun x => { x with summary := w.summaryOf z }), ports := _ } at second
    rw [← hm, ← hpw] at second
    rw [← hpv] at first
    obtain ⟨x, hx⟩ : ∃ x, x = w.updDoor d fun r => { r with state := .secure, withdrawnEnd := some g.expiry } := ⟨_, rfl⟩
    have done : u = ((x.notifyDoor d y.state .withdrawn (some g)).refreshDrive d) := by
      simp only [u, State.withdrawAtDoor, ← hv, at_d, Option.bind_some, hg, if_pos withdraws, ← hw, Option.map_some, Option.getD_some, hx]
    have record := DoorRec.withdrawn_of_some ho
    have doors : x.doors = s.doors.put d (some (y.withdrawn entered)) := by
      simp [hx, second, first, record]
    have at_x : x.doors[d] = some (y.withdrawn entered) := by rw [doors]; exact Tab.getElem_put_self ..
    have secure : (y.withdrawn entered).state = .secure := by rw [record]
    obtain ⟨b, hb⟩ : ∃ b, b = NoticeBody.doorState d .secure y.state .withdrawn (some g) none := ⟨_, rfl⟩
    rw [State.notifyDoor_eq at_x, secure, if_neg nofun, ← hb] at done
    have zones : x.zones = s.zones.put z ((s.zones[z]).map fun k => { k with summary := m }) := by
      simp [hx, second, first, z]
    have same : (x.notify b).bars z = s.bars z := by
      rw [State.notify_bars]
      simp only [State.bars, zones, Tab.getElem_put_self, Option.any_map]
      rfl
    have becomes := State.refreshDrive_becomes (s := s) (u := x.notify b) (d := d) (r := y) (y := y.withdrawn entered)
      (by simp [doors]) (by simp) (by simp [hx, second, first]) (by simp [hx, second, first]) same
    rw [← done, bars] at becomes
    obtain ⟨shape, drives⟩ := becomes
    have told : y.withdrawalTold d entered =
        y.pairing.toList.map (fun p => .accessWithdrawn d .zoneBarred none (some p.first)) ++ [.accessWithdrawn d .zoneBarred (some g) none, b] := by
      simp [DoorRec.withdrawalTold, ho, hb]
    have uzones : u.zones = s.zones.put z ((s.zones[z]).map fun k => { k with summary := m }) := by
      rw [shape, ← zones]
      simp
    have occupancy : u.occupancy = w.occupancy := by
      rw [shape]
      simp [hx]
    have summary : u.summaryOf z = m := by
      rw [hm]
      refine State.summaryOf_congr occupancy ?_
      rw [uzones, second, first]
    have ports : u.ports = (x.notify b).ports := by rw [shape]
    refine ⟨?_, nofun, fun _ => ?_, drives, ?_⟩
    · have doors' : u.doors = s.doors.put d (some ((y.withdrawn entered).driven true)) := by rw [shape]
      have occupancy' : u.occupancy =
          { s.occupancy with reserved := s.occupancy.reserved.put z (s.occupancy.reserved[z] - g.places) } := by
        rw [occupancy, second, first]
      rw [places, ← occupancy', ← doors']
      apply State.ext_fields <;> simp [u]
    · rw [summary, uzones]
    · rw [told]
      have wx : QueuesGain s w _ := gains.trans (gains'.congr rfl rfl rfl) (by rw [first])
      have ux : QueuesGain s (x.notify b) _ := (wx.congr (s' := s) (t' := x) rfl rfl (by rw [hx]; rfl)).notify (by rw [hx]; simp [second, first]) b
      rw [List.append_assoc] at ux
      exact ux.congr rfl rfl ports

/-! ## Withdrawal orders -/

/-- R78: the places that a withdrawal order at some doors hands back. -/
def State.orderedPlaces (s : State) (entered : ZoneState) (l : List Door) : Nat :=
  (l.map fun d => (((s.doors[d]).bind (·.ordered entered)).map (·.places)).getD 0).sum

/-- R40, R49: the notices of a withdrawal order at some doors. -/
def State.orderTold (s : State) (entered : ZoneState) (l : List Door) : List NoticeBody :=
  l.flatMap fun d => ((s.doors[d]).map (·.withdrawalTold d entered)).getD []

/-- A door of the order other than `a` stands after `a` has been dealt with as it stood before. -/
theorem State.withdrawAtDoor_other {s : State} {a d : Door} {entered : ZoneState} (order : stateBars entered = true) (h : d ≠ a) :
    (s.withdrawAtDoor a entered).doors[d] = s.doors[d] := by
  have other : a.val ≠ d.val := fun e => h (Fin.ext e.symm)
  rw [State.withdrawAtDoor_doors (s := s) a order]
  simp [other]

theorem State.orderedPlaces_congr {s t : State} {entered : ZoneState} {l : List Door} (h : ∀ d ∈ l, t.doors[d] = s.doors[d]) :
    t.orderedPlaces entered l = s.orderedPlaces entered l := by
  simp only [State.orderedPlaces]
  congr 1
  exact List.map_congr_left fun d hd => by rw [h d hd]

theorem State.orderTold_congr {s t : State} {entered : ZoneState} {l : List Door} (h : ∀ d ∈ l, t.doors[d] = s.doors[d]) :
    t.orderTold entered l = s.orderTold entered l :=
  List.flatMap_congr fun d hd => by rw [h d hd]

/-- R78: where no grant is ordered back, no places are. -/
theorem State.orderedPlaces_eq_zero {s : State} {entered : ZoneState} {l : List Door}
    (h : ∀ d ∈ l, (s.doors[d]).bind (·.ordered entered) = none) : s.orderedPlaces entered l = 0 := by
  refine List.sum_eq_zero fun n hn => ?_
  obtain ⟨d, hd, rfl⟩ := List.mem_map.1 hn
  rw [h d hd]
  rfl

/-- R40, R78: all that a withdrawal order does at some doors into a zone, but for their own records and the bus. -/
theorem State.forEach_withdrawAtDoor {z : Zone} {entered : ZoneState} (order : stateBars entered = true) (l : List Door) (hl : l.Nodup)
    (s : State) (into : ∀ d ∈ l, ∃ y, s.doors[d] = some y ∧ y.cfg.inside = z) (bars : s.bars z = true) :
    let t := s.forEach l fun d u => u.withdrawAtDoor d entered
    t = { s with
        doors := t.doors, bus := t.bus, zones := t.zones, ports := t.ports,
        occupancy :=
          { s.occupancy with
            reserved := s.occupancy.reserved.put z (s.occupancy.reserved[z] - s.orderedPlaces entered l) } } ∧
      ((∀ d ∈ l, (s.doors[d]).bind (·.ordered entered) = none) → t.zones = s.zones) ∧
      ((∃ d ∈ l, (s.doors[d]).bind (·.ordered entered) ≠ none) →
        t.zones = s.zones.put z ((s.zones[z]).map fun x => { x with summary := t.summaryOf z })) ∧
      QueuesGain s t (s.orderTold entered l) := by
  induction l generalizing s with
  | nil =>
    refine ⟨?_, fun _ => rfl, fun ⟨d, hd, _⟩ => absurd hd List.not_mem_nil, .refl s⟩
    simp only [State.forEach, List.foldl_nil, State.orderedPlaces, List.map_nil, List.sum_nil, Nat.sub_zero, Tab.put_self]
  | cons a l ih =>
    obtain ⟨ha, hl⟩ := List.nodup_cons.1 hl
    obtain ⟨y, hy, rfl⟩ := into a (List.mem_cons_self ..)
    obtain ⟨u, hu⟩ : ∃ u, u = s.withdrawAtDoor a entered := ⟨_, rfl⟩
    have first := State.withdrawAtDoor_becomes hy order bars
    rw [← hu] at first
    obtain ⟨frame, same, handed, -, gains⟩ := first
    have doors (d : Door) (hd : d ∈ l) : u.doors[d] = s.doors[d] := by
      rw [hu]
      exact State.withdrawAtDoor_other order fun e => ha (e ▸ hd)
    have rest := ih hl u (fun d hd => by rw [doors d hd]; exact into d (List.mem_cons_of_mem _ hd))
      (by rw [hu, State.withdrawAtDoor_bars]; exact bars)
    obtain ⟨t, ht⟩ : ∃ t, t = s.forEach (a :: l) fun d u => u.withdrawAtDoor d entered := ⟨_, rfl⟩
    have unfolded : u.forEach l (fun d u => u.withdrawAtDoor d entered) = t := by
      rw [ht, hu]
      rfl
    rw [unfolded, State.orderedPlaces_congr doors, State.orderTold_congr doors] at rest
    rw [← ht]
    obtain ⟨frame', same', handed', gains'⟩ := rest
    have places : s.orderedPlaces entered (a :: l) = ((y.ordered entered).map (·.places)).getD 0 + s.orderedPlaces entered l := by
      simp only [State.orderedPlaces, List.map_cons, List.sum_cons, hy, Option.bind_some]
    have told : s.orderTold entered (a :: l) = y.withdrawalTold a entered ++ s.orderTold entered l := by
      simp only [State.orderTold, List.flatMap_cons, hy, Option.map_some, Option.getD_some]
    have rests : (∃ d ∈ l, (u.doors[d]).bind (·.ordered entered) ≠ none) ↔ ∃ d ∈ l, (s.doors[d]).bind (·.ordered entered) ≠ none :=
      exists_congr fun d => and_congr_right fun hd => by rw [doors d hd]
    have occupancy : t.occupancy =
        { s.occupancy with reserved := s.occupancy.reserved.put y.cfg.inside (s.occupancy.reserved[y.cfg.inside] -
          s.orderedPlaces entered (a :: l)) } := by
      have tocc : t.occupancy =
          { u.occupancy with reserved := u.occupancy.reserved.put y.cfg.inside (u.occupancy.reserved[y.cfg.inside] -
            s.orderedPlaces entered l) } := by rw [frame']
      have uocc : u.occupancy =
          { s.occupancy with reserved := s.occupancy.reserved.put y.cfg.inside (s.occupancy.reserved[y.cfg.inside] -
            ((y.ordered entered).map (·.places)).getD 0) } := by rw [frame]
      rw [tocc, uocc, places]
      simp only [Tab.getElem_put_self, Tab.put_put, Nat.sub_sub]
    refine ⟨?_, fun none_ => ?_, fun some_ => ?_, ?_⟩
    · rw [← occupancy]
      apply State.ext_fields <;> simp [ht]
    · have here : y.ordered entered = none := by simpa only [hy, Option.bind_some] using none_ a (List.mem_cons_self ..)
      rw [same' fun d hd => by rw [doors d hd]; exact none_ d (List.mem_cons_of_mem _ hd), same here]
    · by_cases further : ∃ d ∈ l, (s.doors[d]).bind (·.ordered entered) ≠ none
      · rw [handed' (rests.2 further)]
        by_cases here : y.ordered entered = none
        · rw [same here]
        · rw [handed here]
          simp only [Tab.put_put, Tab.getElem_put_self, Option.map_map]
          rfl
      · have kept : t.zones = u.zones := same' fun d hd => by
          by_contra hne
          exact further (rests.1 ⟨d, hd, hne⟩)
        have here : y.ordered entered ≠ none := by
          obtain ⟨d, hd, hne⟩ := some_
          obtain rfl | hd := List.mem_cons.1 hd
          · simpa only [hy, Option.bind_some] using hne
          · exact absurd ⟨d, hd, hne⟩ further
        have nothing : s.orderedPlaces entered l = 0 := State.orderedPlaces_eq_zero fun d hd => by
          by_contra hne
          exact further ⟨d, hd, hne⟩
        have summary : t.summaryOf y.cfg.inside = u.summaryOf y.cfg.inside := by
          refine State.summaryOf_congr ?_ (by rw [kept])
          rw [occupancy, places, nothing, frame]
          rfl
        rw [kept, summary]
        exact handed here
    · rw [told]
      exact gains.trans gains' (by rw [frame])

theorem DoorRec.withdrawalTold_isAt {y : DoorRec} {d : Door} {entered : ZoneState} {b : NoticeBody} (h : b ∈ y.withdrawalTold d entered)
    (e : Door) : b.isAt e = decide (d = e) := by
  simp only [DoorRec.withdrawalTold, List.mem_append, List.mem_map, List.mem_flatMap, List.mem_cons, List.not_mem_nil, or_false] at h
  obtain ⟨p, -, rfl⟩ | ⟨g, -, rfl | rfl⟩ := h <;> rfl

/-- R40, R49: the notices of one door among those of an order. -/
theorem State.orderTold_at (s : State) (entered : ZoneState) (d : Door) (l : List Door) (hl : l.Nodup) :
    (s.orderTold entered l).filter (·.isAt d) =
      if d ∈ l then ((s.doors[d]).map (·.withdrawalTold d entered)).getD [] else [] := by
  have own (e : Door) : (((s.doors[e]).map (·.withdrawalTold e entered)).getD []).filter (·.isAt d) =
      if e = d then ((s.doors[e]).map (·.withdrawalTold e entered)).getD [] else [] := by
    cases hy : s.doors[e] with
    | none => split <;> rfl
    | some y =>
      rw [Option.map_some, Option.getD_some]
      split
      · next h => exact List.filter_eq_self.2 fun b hb => by rw [DoorRec.withdrawalTold_isAt hb]; exact decide_eq_true h
      · next h => exact List.filter_eq_nil_iff.2 fun b hb => by rw [DoorRec.withdrawalTold_isAt hb]; simpa using h
  induction l with
  | nil => rfl
  | cons a l ih =>
    obtain ⟨ha, hl⟩ := List.nodup_cons.1 hl
    have rest := ih hl
    simp only [State.orderTold] at rest ⊢
    rw [List.flatMap_cons, List.filter_append, rest, own a]
    by_cases e : a = d
    · subst e
      simp [ha]
    · simp [e, Ne.symm e]

theorem State.orderTold_isAt {s : State} {entered : ZoneState} {l : List Door} {b : NoticeBody} (h : b ∈ s.orderTold entered l) :
    ∃ d, b.isAt d = true := by
  obtain ⟨d, -, hb⟩ := List.mem_flatMap.1 h
  cases hy : s.doors[d] with
  | none => rw [hy] at hb; exact absurd hb List.not_mem_nil
  | some y =>
    rw [hy] at hb
    exact ⟨d, by rw [DoorRec.withdrawalTold_isAt hb]; simp⟩

/-- The one door into a zone. -/
theorem State.doorsInto_only {s : State} {d : Door} {y : DoorRec} {z : Zone} (h : s.doors[d] = some y) (hz : y.cfg.inside = z)
    (only : s.onlyDoor d z) : s.doorsInto z = [d] := by
  refine List.perm_singleton.1 ((List.perm_ext_iff_of_nodup (s.doorsInto_nodup z) (List.nodup_singleton d)).2 fun e => ?_)
  rw [State.mem_doorsInto, List.mem_singleton]
  refine ⟨fun ⟨r, hr, hin⟩ => (only e r hr).1 hin, ?_⟩
  rintro rfl
  exact ⟨y, h, hz⟩

theorem State.doorsInto_eq_nil {s : State} {z : Zone} (h : ∀ d y, s.doors[(d : Door)] = some y → y.cfg.inside ≠ z) : s.doorsInto z = [] := by
  refine List.eq_nil_iff_forall_not_mem.2 fun d hd => ?_
  obtain ⟨y, hy, hin⟩ := s.mem_doorsInto.1 hd
  exact h d y hy hin

/-- R78: the places of all doors into a zone, added up over every door. -/
theorem State.orderedPlaces_doorsInto (s : State) (entered : ZoneState) (z : Zone) :
    s.orderedPlaces entered (s.doorsInto z) =
      ((List.finRange 16).map fun d =>
        (((((s.doors[d]).filter fun y => y.cfg.inside = z)).bind (·.ordered entered)).map (·.places)).getD 0).sum := by
  have each (l : List Door) : s.orderedPlaces entered (l.filter fun d => (s.doors[d]).any (·.cfg.inside = z)) =
      (l.map fun d => (((((s.doors[d]).filter fun y => y.cfg.inside = z)).bind (·.ordered entered)).map (·.places)).getD 0).sum := by
    induction l with
    | nil => rfl
    | cons a l ih =>
      rw [List.map_cons, List.sum_cons, ← ih, List.filter_cons]
      cases hy : s.doors[a] with
      | none => simp
      | some y =>
        by_cases hin : y.cfg.inside = z
        · simp only [Option.any_some, hin, decide_true, if_true, State.orderedPlaces, List.map_cons, List.sum_cons, hy, Option.filter_some]
        · simp only [Option.any_some, hin, decide_false, Bool.false_eq_true, if_false, Option.filter_some, Option.bind_none,
            Option.map_none, Option.getD_none, Nat.zero_add]
  exact each (List.finRange 16)

theorem into_eq_none_iff {o : Option DoorRec} {z : Zone} : (o.filter fun y => y.cfg.inside = z) = none ↔ ∀ y, o = some y → y.cfg.inside ≠ z := by
  simp [Option.filter_eq_none_iff]

theorem into_eq_some_iff {o : Option DoorRec} {z : Zone} {y : DoorRec} :
    (o.filter fun y => y.cfg.inside = z) = some y ↔ o = some y ∧ y.cfg.inside = z := by
  simp [Option.filter_eq_some_iff]

/-- R21, R40, R47, R78, R96: all that a withdrawal order does. -/
theorem State.withdrawalOrder_withdraws (s : State) {z : Zone} {entered : ZoneState} (order : stateBars entered = true) (bars : s.bars z = true) :
    let t := s.withdrawalOrder z entered
    let ordered : Prop := ∃ d y, s.doors[(d : Door)] = some y ∧ y.cfg.inside = z ∧ y.ordered entered ≠ none
    t = { s with doors := t.doors, bus := t.bus, zones := t.zones, ports := t.ports, occupancy := t.occupancy } ∧
      (¬ordered → t.zones = s.zones) ∧
      (ordered → t.zones = s.zones.put z ((s.zones[z]).map fun x => { x with summary := t.summaryOf z })) ∧
      ∃ bodies, Withdraws s t z entered bodies ∧ QueuesGain s t bodies := by
  intro t ordered
  obtain ⟨frame, same, handed, gains⟩ := State.forEach_withdrawAtDoor order (s.doorsInto z) (s.doorsInto_nodup z) s
    (fun d hd => s.mem_doorsInto.1 hd) bars
  have same_order : (∃ d ∈ s.doorsInto z, (s.doors[d]).bind (·.ordered entered) ≠ none) ↔ ordered := by
    refine exists_congr fun d => ?_
    rw [s.mem_doorsInto]
    refine ⟨fun ⟨⟨y, hy, hin⟩, hne⟩ => ⟨y, hy, hin, by simpa only [hy, Option.bind_some] using hne⟩, fun ⟨y, hy, hin, hne⟩ =>
      ⟨⟨y, hy, hin⟩, by simpa only [hy, Option.bind_some] using hne⟩⟩
  have doors (d : Door) := s.withdrawalOrder_doors z order d
  refine ⟨?_, fun none_ => same fun d hd => ?_, fun some_ => handed (same_order.2 some_), s.orderTold entered (s.doorsInto z),
    ⟨fun d hd => ?_, fun d y hd => ?_, ?_, fun d => ?_, fun b hb => State.orderTold_isAt hb, fun none_ => ?_, fun d y hd only => ?_⟩, gains⟩
  · apply State.ext_fields <;> simp [t]
  · by_contra hne
    exact none_ (same_order.1 ⟨d, hd, hne⟩)
  · rw [into_eq_none_iff] at hd
    rw [doors d]
    cases hy : s.doors[d] with
    | none => rfl
    | some y => rw [Option.map_some, if_neg (hd y hy)]
  · obtain ⟨hy, hin⟩ := into_eq_some_iff.1 hd
    rw [doors d, hy, Option.map_some, if_pos hin, bars]
  · rw [← State.orderedPlaces_doorsInto]
    exact congrArg State.occupancy frame
  · rw [State.orderTold_at s entered d _ (s.doorsInto_nodup z)]
    simp only [s.mem_doorsInto]
    cases hy : s.doors[d] with
    | none => simp
    | some y =>
      by_cases hin : y.cfg.inside = z
      · simp only [Option.some.injEq, exists_eq_left', hin, if_true, Option.filter_some, decide_true]
      · simp only [Option.some.injEq, exists_eq_left', hin, if_false, Option.filter_some, decide_false, Bool.false_eq_true]
        rfl
  · have empty : s.doorsInto z = [] := State.doorsInto_eq_nil fun d y hy => into_eq_none_iff.1 (none_ d) y hy
    simp only [t, State.withdrawalOrder, empty]
    rfl
  · obtain ⟨hy, hin⟩ := into_eq_some_iff.1 hd
    have single : t = s.withdrawAtDoor d entered := by
      simp only [t, State.withdrawalOrder, State.doorsInto_only hy hin only]
      rfl
    rw [single]
    exact (State.withdrawAtDoor_becomes hy order (hin ▸ bars)).2.2.2.1

end Sys2Proof.Machine

namespace Sys2Proof.Machine

/-! ## Changes of a zone record -/

/-- R47, R96: all that the end of a zone's barring does. -/
theorem State.barringEnded_ends (s : State) {z : Zone} (bars : s.bars z = false) :
    let t := s.barringEnded z
    t = { s with doors := t.doors, bus := t.bus } ∧
      (∀ d : Door, t.doors[d] = (s.doors[d]).map fun y => if y.cfg.inside = z then y.driven false else y) ∧
      ((∀ d y, s.doors[(d : Door)] = some y → y.cfg.inside ≠ z) → t.bus = s.bus) ∧
      ∀ d y, s.doors[(d : Door)] = some y → y.cfg.inside = z → s.onlyDoor d z → DoorDrives s t y false := by
  intro t
  refine ⟨?_, fun d => ?_, fun none_ => ?_, fun d y hy hin only => ?_⟩
  · apply State.ext_fields <;> simp [t]
  · rw [← bars]
    exact s.barringEnded_doors z d
  · simp only [t, State.barringEnded, State.doorsInto_eq_nil none_]
    rfl
  · have single : t = s.refreshDrive d := by
      simp only [t, State.barringEnded, State.doorsInto_only hy hin only]
      rfl
    have drives := State.refreshDrive_drives hy
    rw [hin, bars] at drives
    rw [single]
    exact drives

/-- A withdrawal order is told from the doors, the occupancy, the bus and the time alone. -/
theorem Withdraws.congr {s s' t t' : State} {z : Zone} {entered : ZoneState} {bodies : List NoticeBody} (h : Withdraws s t z entered bodies)
    (doors : s'.doors = s.doors) (occupancy : s'.occupancy = s.occupancy) (bus : s'.bus = s.bus) (time : s'.time = s.time)
    (doors' : t'.doors = t.doors) (occupancy' : t'.occupancy = t.occupancy) (bus' : t'.bus = t.bus) : Withdraws s' t' z entered bodies := by
  obtain ⟨others, own, occ, told, at_, quiet, drives⟩ := h
  unfold Withdraws State.onlyDoor
  rw [doors, occupancy, bus, doors', occupancy', bus']
  exact ⟨others, own, occ, told, at_, quiet, fun d y hd only => (drives d y hd only).congr bus time bus'⟩

/-- R40, R96, R118: what follows a barring state entered. -/
theorem State.followChange_orders {v : State} {z : Zone} {r x : ZoneRec} (hx : v.zones[z] = some x) (order : stateBars x.state = true)
    (hne : x.state ≠ r.state) :
    let t := v.followChange z r
    let ordered : Prop := ∃ d y, v.doors[(d : Door)] = some y ∧ y.cfg.inside = z ∧ y.ordered x.state ≠ none
    t = { v with
        doors := t.doors, bus := t.bus, zones := t.zones, ports := t.ports, occupancy := t.occupancy,
        link := v.link.shows z x (v.alarms.displayFlag z) v.occupancy.warning[z] } ∧
      (¬ordered → t.zones = v.zones) ∧
      (ordered → t.zones = v.zones.put z (some { x with summary := t.summaryOf z })) ∧
      ∃ bodies, Withdraws v t z x.state bodies ∧ QueuesGain v t bodies := by
  intro t ordered
  obtain ⟨u, hu⟩ : ∃ u, u = v.withdrawalOrder z x.state := ⟨_, rfl⟩
  have ht : t = u.refreshPanel z := by
    simp only [t, State.followChange, hx, order, Bool.true_and, bne_iff_ne, hne, ne_eq, not_false_eq_true, if_true, hu]
  have bars : v.bars z = true := by simp [State.bars, hx, zoneBars, order]
  obtain ⟨frame, same, handed, bodies, withdraws, gains⟩ := v.withdrawalOrder_withdraws order bars
  rw [← hu] at frame same handed withdraws gains
  rw [hx, Option.map_some] at handed
  have summary : t.summaryOf z = u.summaryOf z := State.summaryOf_congr (by rw [ht]; simp) (by rw [ht]; simp)
  obtain ⟨x', hx', shown⟩ : ∃ x', u.zones[z] = some x' ∧ ∀ alarm warning, displayOf x' alarm warning = displayOf x alarm warning := by
    by_cases h : ordered
    · exact ⟨{ x with summary := u.summaryOf z }, by rw [handed h, Tab.getElem_put_self], fun _ _ => rfl⟩
    · exact ⟨x, by rw [same h, hx], fun _ _ => rfl⟩
  have warning : u.occupancy.warning = v.occupancy.warning := by rw [withdraws.2.2.1]
  have alarms : u.alarms = v.alarms := by rw [frame]
  have panels : u.link = v.link := by rw [frame]
  have link : t.link = v.link.shows z x (v.alarms.displayFlag z) v.occupancy.warning[z] := by
    rw [ht, State.refreshPanel_link u z x' hx', warning]
    simp only [Link.shows, shown, alarms, panels]
  refine ⟨?_, fun h => ?_, fun h => ?_, bodies, withdraws.congr rfl rfl rfl rfl ?_ ?_ ?_, gains.congr rfl rfl ?_⟩
  · rw [← link]
    apply State.ext_fields <;> simp [ht, hu]
  · rw [← same h, ht]
    simp
  · rw [summary, ← handed h, ht]
    simp
  all_goals
    rw [ht]
    simp

/-- R96, R118: what follows a change that enters no barring state. -/
theorem State.followChange_turns {v : State} {z : Zone} {r x : ZoneRec} (hx : v.zones[z] = some x)
    (enters : stateBars x.state = true → x.state = r.state) :
    let t := v.followChange z r
    t = { v with doors := t.doors, bus := t.bus, link := v.link.shows z x (v.alarms.displayFlag z) v.occupancy.warning[z] } ∧
      (∀ d : Door, t.doors[d] = (v.doors[d]).map fun y =>
        if y.cfg.inside = z ∧ zoneBars r = true ∧ zoneBars x = false then y.driven false else y) ∧
      (zoneBars r = false ∨ zoneBars x = true → t.bus = v.bus) ∧
      (zoneBars r = true → zoneBars x = false →
        ((∀ d y, v.doors[(d : Door)] = some y → y.cfg.inside ≠ z) → t.bus = v.bus) ∧
        ∀ d y, v.doors[(d : Door)] = some y → y.cfg.inside = z → v.onlyDoor d z → DoorDrives v t y false) := by
  intro t
  have plain : ¬(stateBars x.state && x.state != r.state) = true := by
    simp only [Bool.and_eq_true, bne_iff_ne, ne_eq, not_and, not_not]
    exact enters
  have link (u : State) (hz : u.zones = v.zones) (ha : u.alarms = v.alarms) (ho : u.occupancy = v.occupancy) (hl : u.link = v.link) :
      (u.refreshPanel z).link = v.link.shows z x (v.alarms.displayFlag z) v.occupancy.warning[z] := by
    rw [State.refreshPanel_link u z x (by rw [hz, hx]), ha, ho, hl]
  by_cases ends : zoneBars r = true ∧ zoneBars x = false
  · obtain ⟨before, after⟩ := ends
    obtain ⟨frame, doors, quiet, drives⟩ := v.barringEnded_ends (z := z) (by simp [State.bars, hx, after])
    obtain ⟨u, hu⟩ : ∃ u, u = v.barringEnded z := ⟨_, rfl⟩
    rw [← hu] at frame doors quiet drives
    have ht : t = u.refreshPanel z := by
      simp only [t, State.followChange, hx, if_neg plain, before, after, Bool.not_false, Bool.and_self, if_true, hu]
    have bus : t.bus = u.bus := by rw [ht]; simp
    refine ⟨?_, fun d => ?_, fun h => ?_, fun _ _ => ⟨fun h => bus.trans (quiet h), fun d y hy hin only => ?_⟩⟩
    · rw [← link u (by rw [frame]) (by rw [frame]) (by rw [frame]) (by rw [frame]), ← ht]
      apply State.ext_fields <;> simp [ht, hu]
    · have := doors d
      simp only [before, after, and_true]
      rw [← this, ht]
      simp
    · simp [before, after] at h
    · exact (drives d y hy hin only).congr rfl rfl bus
  · have ht : t = v.refreshPanel z := by
      have : ¬(zoneBars r && !zoneBars x) = true := by simpa using ends
      simp only [t, State.followChange, hx, if_neg plain, if_neg this]
    refine ⟨?_, fun d => ?_, fun _ => ?_, fun before after => absurd ⟨before, after⟩ ends⟩
    · rw [← link v rfl rfl rfl rfl, ← ht]
      apply State.ext_fields <;> simp [ht]
    · have same (y : DoorRec) : (if y.cfg.inside = z ∧ zoneBars r = true ∧ zoneBars x = false then y.driven false else y) = y :=
        if_neg fun h => ends h.2
      simp only [same, Option.map_id']
      rw [ht]
      simp
    · rw [ht]
      simp

/-- R117: a record changes and is told. -/
theorem State.changeRecord_eq {s : State} {z : Zone} {r : ZoneRec} (h : s.zones[z] = some r) (cause : ZoneCause) (f : ZoneRec → ZoneRec) :
    s.changeRecord z cause f =
      ({ s with zones := s.zones.put z (some (f r)) } : State).notify (zoneStateBody z (f r) r.state cause) := by
  simp only [State.changeRecord, h]
  congr 1
  simp only [State.updZone, h, Option.map_some]

/-- From `s` to `t` the record of zone `z` has turned from `r` into `x`, which enters no barring state: as `ZoneTurns` says it of a request. -/
def ZoneTurned (s t : State) (z : Zone) (r x : ZoneRec) (cause : ZoneCause) : Prop :=
  t = { s with zones := s.zones.put z (some x), doors := t.doors, bus := t.bus, link := t.link, ports := t.ports } ∧
  t.link = s.link.shows z x (s.alarms.displayFlag z) s.occupancy.warning[z] ∧
  (∀ d : Door, t.doors[d] = (s.doors[d]).map fun y =>
    if y.cfg.inside = z ∧ zoneBars r = true ∧ zoneBars x = false then y.driven false else y) ∧
  (zoneBars r = false ∨ zoneBars x = true → t.bus = s.bus) ∧
  (zoneBars r = true → zoneBars x = false →
    ((∀ d y, s.doors[(d : Door)] = some y → y.cfg.inside ≠ z) → t.bus = s.bus) ∧
    ∀ d y, s.doors[(d : Door)] = some y → y.cfg.inside = z → s.onlyDoor d z → DoorDrives s t y false) ∧
  QueuesGain s t [zoneStateBody z x r.state cause]

/-- From `s` to `t` the record of zone `z` has turned from `r` into `x`, which enters a barring state. -/
def ZoneOrdered (s t : State) (z : Zone) (r x : ZoneRec) (cause : ZoneCause) : Prop :=
  let ordered : Prop := ∃ d y, s.doors[(d : Door)] = some y ∧ y.cfg.inside = z ∧ y.ordered x.state ≠ none
  t = { s with
      doors := t.doors, bus := t.bus, zones := t.zones, ports := t.ports, occupancy := t.occupancy,
      link := s.link.shows z x (s.alarms.displayFlag z) s.occupancy.warning[z] } ∧
  (¬ordered → t.zones = s.zones.put z (some x)) ∧
  (ordered → t.zones = s.zones.put z (some { x with summary := t.summaryOf z })) ∧
  ∃ bodies, Withdraws s t z x.state bodies ∧ QueuesGain s t (zoneStateBody z x r.state cause :: bodies)

/-- R96, R117, R118, R170: all that a change of a zone record into no barring state does. -/
theorem State.changeZone_turns {s : State} {z : Zone} {r : ZoneRec} {f : ZoneRec → ZoneRec} (h : s.zones[z] = some r) (cause : ZoneCause)
    (enters : stateBars (f r).state = true → (f r).state = r.state) : ZoneTurned s (s.changeZone z cause f) z r (f r) cause := by
  obtain ⟨v, hv⟩ : ∃ v, v = s.changeRecord z cause f := ⟨_, rfl⟩
  have record := State.changeRecord_eq h cause f
  rw [← hv] at record
  have told : QueuesGain s v [zoneStateBody z (f r) r.state cause] := by
    rw [record]
    exact (State.notify_gains _ _).congr rfl rfl rfl
  have hx : v.zones[z] = some (f r) := by simp [record]
  obtain ⟨frame, doors, quiet, drives⟩ := State.followChange_turns hx enters
  have ht : s.changeZone z cause f = v.followChange z r := by simp only [State.changeZone, h, hv]
  obtain ⟨t, ht'⟩ : ∃ t, t = v.followChange z r := ⟨_, rfl⟩
  rw [← ht'] at frame doors quiet drives ht
  have vdoors : v.doors = s.doors := by simp [record]
  have vbus : v.bus = s.bus := by simp [record]
  have vtime : v.time = s.time := by simp [record]
  have link : t.link = s.link.shows z (f r) (s.alarms.displayFlag z) s.occupancy.warning[z] := by
    rw [frame]
    simp [record]
  have ports : t.ports = v.ports := by rw [frame]
  rw [ht]
  refine ⟨?_, link, ?_, fun e => (quiet e).trans vbus, fun before after => ?_, told.congr rfl rfl ports⟩
  · conv_lhs => rw [frame]
    apply State.ext_fields <;> simp [record, ports, link]
  · simpa only [vdoors] using doors
  · obtain ⟨none_, one_⟩ := drives before after
    simp only [vdoors, vbus] at none_ one_
    refine ⟨none_, fun d y hy hin only => ?_⟩
    have : v.onlyDoor d z := by
      simp only [State.onlyDoor, vdoors]
      exact only
    exact (one_ d y hy hin this).congr vbus.symm vtime.symm rfl

/-- R40, R96, R117, R118, R170: all that a change of a zone record into a barring state does. -/
theorem State.changeZone_orders {s : State} {z : Zone} {r : ZoneRec} {f : ZoneRec → ZoneRec} (h : s.zones[z] = some r) (cause : ZoneCause)
    (order : stateBars (f r).state = true) (hne : (f r).state ≠ r.state) : ZoneOrdered s (s.changeZone z cause f) z r (f r) cause := by
  obtain ⟨v, hv⟩ : ∃ v, v = s.changeRecord z cause f := ⟨_, rfl⟩
  have record := State.changeRecord_eq h cause f
  rw [← hv] at record
  have told : QueuesGain s v [zoneStateBody z (f r) r.state cause] := by
    rw [record]
    exact (State.notify_gains _ _).congr rfl rfl rfl
  have hx : v.zones[z] = some (f r) := by simp [record]
  obtain ⟨frame, same, handed, bodies, withdraws, gains⟩ := State.followChange_orders hx order hne
  have ht : s.changeZone z cause f = v.followChange z r := by simp only [State.changeZone, h, hv]
  obtain ⟨t, ht'⟩ : ∃ t, t = v.followChange z r := ⟨_, rfl⟩
  rw [← ht'] at frame same handed withdraws gains ht
  have vdoors : v.doors = s.doors := by simp [record]
  have vtime : v.time = s.time := by simp [record]
  have vzones : v.zones = s.zones.put z (some (f r)) := by simp [record]
  simp only [vdoors, vzones, Tab.put_put] at same handed
  rw [ht]
  refine ⟨?_, same, handed, bodies, withdraws.congr vdoors.symm ?_ ?_ vtime.symm rfl rfl rfl, told.trans gains vtime⟩
  · conv_lhs => rw [frame]
    apply State.ext_fields <;> simp [record]
  · simp [record]
  · simp [record]

/-! ## Requests on a zone -/

/-- R97: a request on a configured zone is decided by its rule. -/
theorem decideZone_byte {s : State} {z : Zone} {r : ZoneRec} (hz : s.zones[z] = some r) (rule : ZoneRule) (p : Port) :
    decideZone rule s p [byteOf z.val] = zoneReply z (rule s z r) := by
  have named : s.zoneNamed z.val = some (z, r) := by rw [State.zoneNamed_of_eq rfl, hz]; rfl
  simp only [decideZone, readNumber_singleton, zone_byte, State.onZone, named]

/-- R97, R102, R103: a request of a release is decided by the rule of its kind. -/
theorem decideRelease_byte {s : State} {z : Zone} {r : ZoneRec} (hz : s.zones[z] = some r) (kind : ReleaseKind) (p : Port) :
    decideRelease s p [byteOf z.val, releaseKindCode kind] =
      zoneReply z ((match kind with | .auto => releaseAuto | .manual => releaseManual : ZoneRule) s z r) := by
  have named : s.zoneNamed z.val = some (z, r) := by rw [State.zoneNamed_of_eq rfl, hz]; rfl
  cases kind <;> simp only [decideRelease, readRelease_pair, zone_byte, State.onZone, named]

/-- R97: the answer of a decided request on a zone. -/
theorem zoneReply_of_eq {u : State} {z : Zone} {x : ZoneRec} (h : u.zones[z] = some x) (status : Status) :
    zoneReply z (u, status) = ⟨u, status, x.answer⟩ := by
  simp only [zoneReply, h]
  rfl

/-- R97, R117, R182: a request that turns a zone is answered with what it has become. -/
theorem ZoneTurned.answers {s u : State} {f : Frame} {z : Zone} {r x : ZoneRec} {cause : ZoneCause}
    (h : ZoneTurned (s.hunting .suppression) u z r x cause) :
    ZoneTurns s ((zoneReply z (u, .ok)).answerTo .suppression f) f z r x cause := by
  obtain ⟨frame, link, doors, quiet, drives, gains⟩ := h
  have hx : u.zones[z] = some x := by rw [frame]; exact Tab.getElem_put_self ..
  rw [zoneReply_of_eq hx]
  refine ⟨?_, link, doors, quiet, fun before after => ⟨(drives before after).1, fun d y hy hin only => ?_⟩, Reply.answerTo_ports gains⟩
  · rw [Reply.answerTo_eq]
    conv_lhs => rw [frame]
    rfl
  · exact ((drives before after).2 d y hy hin only).congr rfl rfl rfl

section
variable {s : State} {b code : Byte} {f : Frame} {z : Zone} {r : ZoneRec} (ready : RequestReady s .suppression b code f)
  (hz : s.zones[z] = some r) {decide : Decide} {rule : ZoneRule}
  (decides : ∀ w : State, w.zones[z] = some r → decide w .suppression f.payload = zoneReply z (rule w z r))
include ready hz decides

/-- R97: a request on a zone that its rule refuses, or that has nothing to do. -/
theorem zoneRequest_stays {status : Status} (stays : ∀ w : State, w.valves = s.valves → rule w z r = (w, status)) :
    s.takeRequest .suppression b code false (.only .suppression) decide = s.answered .suppression f status r.answer := by
  have here : (s.hunting .suppression).zones[z] = some r := hz
  refine ready.answers (u := s) false rfl ?_
  rw [decides _ here, stays (s.hunting .suppression) rfl, zoneReply_of_eq here]

/-- R97: a request on a zone that its rule carries out by a change of the record. -/
theorem zoneRequest_turns {cause : ZoneCause} {g : ZoneRec → ZoneRec}
    (turns : ∀ w : State, w.valves = s.valves → rule w z r = (w.changeZone z cause g, .ok))
    (enters : stateBars (g r).state = true → (g r).state = r.state) :
    ZoneTurns s (s.takeRequest .suppression b code false (.only .suppression) decide) f z r (g r) cause := by
  have here : (s.hunting .suppression).zones[z] = some r := hz
  rw [State.takeRequest_decided ready false _ decide rfl, decides _ here, turns (s.hunting .suppression) rfl]
  exact (State.changeZone_turns here cause enters).answers

end

/-- Settles O47. -/
theorem armZoneByState : Obligations.ArmZoneByState := by
  intro s b f z r ready payload hz answers
  have decides (w : State) (h : w.zones[z] = some r) : decideZone armZone w .suppression f.payload = zoneReply z (armZone w z r) := by
    rw [payload]
    exact decideZone_byte h armZone _
  refine ⟨fun isolated empty => ?_, fun isolated agent busy => ?_, fun isolated agent idle => ?_, fun guarded => ?_, fun no_i no_g => ?_⟩
  · exact congrArg _ (zoneRequest_stays ready hz decides fun w _ => by simp only [armZone, isolated, empty, if_true])
  · have testing : (s.valves.tests[z]).isSome = true := Option.isSome_iff_ne_none.2 busy
    exact congrArg _ (zoneRequest_stays ready hz decides fun w hw => by
      simp only [armZone, isolated, if_neg agent, hw, testing, if_true])
  · exact ⟨_, rfl, zoneRequest_turns ready hz decides (g := fun x => { x with state := .guarded, entryHold := false }) (fun w hw => by
      simp only [armZone, isolated, if_neg agent, hw, idle]
      rfl) nofun⟩
  · exact congrArg _ (zoneRequest_stays ready hz decides fun w _ => by simp only [armZone, guarded])
  · exact congrArg _ (zoneRequest_stays ready hz decides fun w _ => by
      cases hs : r.state <;> simp_all [armZone])

/-- R170, R171: what a panel shows, and what becomes of its record. -/
theorem panelsShow : PanelsShow := by
  refine ⟨?_, ?_⟩
  · intro r alarm warning seconds
    cases hs : r.state <;> simp [displayOf, hs, panelSeconds, seconds]
  · intro p display seconds hasCadence
    by_cases same : p.display = display
    · simp only [PanelRec.show, if_pos same]
    · have run : (cadenceOf display).map (fun _ => CadenceRun.start) = if hasCadence display then some ⟨0, 0, []⟩ else none := by
        cases display <;> simp [cadenceOf, hasCadence, CadenceRun.start]
      have owed : (p.offOwed || (cadenceOf p.display).isSome) = if hasCadence p.display then true else p.offOwed := by
        cases p.display <;> simp [cadenceOf, hasCadence]
      simp only [PanelRec.show, if_neg same, run, owed]

/-- Settles O48. -/
theorem isolateAndCancelByState : Obligations.IsolateAndCancelByState := by
  refine ⟨panelsShow, ?_⟩
  intro s b code f z r ready payload hz
  have decides (rule : ZoneRule) (w : State) (h : w.zones[z] = some r) :
      decideZone rule w .suppression f.payload = zoneReply z (rule w z r) := by
    rw [payload]
    exact decideZone_byte h rule _
  refine ⟨?_, ?_⟩
  · rintro rfl answers
    refine ⟨fun running => ?_, fun isolated => ?_, fun discharge => ?_, fun discharged => ?_⟩
    · refine ⟨_, rfl, zoneRequest_turns ready hz (decides isolateZone) (g := (·.withoutRelease .isolated)) (fun w _ => ?_) nofun⟩
      obtain h | h | h | h := running <;> simp only [isolateZone, h]
    · exact congrArg _ (zoneRequest_stays ready hz (decides isolateZone) fun w _ => by simp only [isolateZone, isolated])
    · exact congrArg _ (zoneRequest_stays ready hz (decides isolateZone) fun w _ => by simp only [isolateZone, discharge])
    · exact congrArg _ (zoneRequest_stays ready hz (decides isolateZone) fun w _ => by simp only [isolateZone, discharged])
  · rintro rfl answers
    refine ⟨fun running => ?_, fun waits => ?_, fun late => ?_⟩
    · refine ⟨_, rfl, zoneRequest_turns ready hz (decides cancelZone) (g := (·.withoutRelease .guarded)) (fun w _ => ?_) nofun⟩
      obtain h | h | h := running <;> simp only [cancelZone, h]
    · refine congrArg _ (zoneRequest_stays ready hz (decides cancelZone) fun w _ => ?_)
      obtain h | h := waits <;> simp only [cancelZone, h]
    · refine congrArg _ (zoneRequest_stays ready hz (decides cancelZone) fun w _ => ?_)
      obtain h | h := late <;> simp only [cancelZone, h]

/-- Settles O49. -/
theorem clearEntryHoldAndVentByState : Obligations.ClearEntryHoldAndVentByState := by
  intro s b code f z r ready payload hz
  have decides (rule : ZoneRule) (w : State) (h : w.zones[z] = some r) :
      decideZone rule w .suppression f.payload = zoneReply z (rule w z r) := by
    rw [payload]
    exact decideZone_byte h rule _
  refine ⟨?_, ?_⟩
  · rintro rfl answers
    refine ⟨fun isolated held => ?_, fun isolated clear => ?_, fun other => ?_⟩
    · exact ⟨_, rfl, zoneRequest_turns ready hz (decides clearEntryHold) (g := fun x => { x with entryHold := false })
        (fun w _ => by simp only [clearEntryHold, isolated, held, if_true]) fun _ => rfl⟩
    · exact congrArg _ (zoneRequest_stays ready hz (decides clearEntryHold) fun w _ => by
        simp only [clearEntryHold, isolated, clear, Bool.false_eq_true, if_false])
    · refine congrArg _ (zoneRequest_stays ready hz (decides clearEntryHold) fun w _ => ?_)
      cases hs : r.state <;> simp_all only [clearEntryHold, ne_eq, not_true_eq_false]
  · rintro rfl
    refine ⟨fun discharged => ?_, fun other => ?_⟩
    · exact ⟨_, rfl, zoneRequest_turns ready hz (decides ventZone)
        (g := fun x => { x with state := .isolated, dischargeStart := none, entryHold := false })
        (fun w _ => by simp only [ventZone, discharged]) nofun⟩
    · refine congrArg _ (zoneRequest_stays ready hz (decides ventZone) fun w _ => ?_)
      cases hs : r.state <;> simp_all only [ventZone, ne_eq, not_true_eq_false]

end Sys2Proof.Machine

namespace Sys2Proof.Machine

/-! ## What a withdrawal order leaves -/

/-- R40: no grant is ordered back and no pairing record removed where nobody waits. -/
theorem State.noneWaiting.withdrawn {s : State} {z : Zone} (h : s.noneWaiting z) {d : Door} {y : DoorRec} (hy : s.doors[d] = some y)
    (hin : y.cfg.inside = z) (entered : ZoneState) : y.ordered entered = none ∧ y.withdrawalTold d entered = [] := by
  obtain ⟨grant, pairing⟩ := h d y hy hin
  have ordered : y.ordered entered = none := by simp only [DoorRec.ordered, grant, Option.filter_none]
  refine ⟨ordered, ?_⟩
  simp only [DoorRec.withdrawalTold, ordered, pairing, Option.toList_none, List.map_nil, List.flatMap_nil, List.append_nil]

/-- R78: a withdrawal order that takes no grant back hands no place back. -/
theorem Withdraws.occupancy_of_unordered {s t : State} {z : Zone} {entered : ZoneState} {bodies : List NoticeBody}
    (h : Withdraws s t z entered bodies)
    (unordered : ∀ d y, s.doors[(d : Door)] = some y → y.cfg.inside = z → y.ordered entered = none) : t.occupancy = s.occupancy := by
  have nothing (d : Door) :
      ((((s.doors[d]).filter fun y => y.cfg.inside = z).bind (·.ordered entered)).map (·.places)).getD 0 = 0 := by
    cases hy : (s.doors[d]).filter fun y => y.cfg.inside = z with
    | none => rfl
    | some y =>
      obtain ⟨hdoor, hin⟩ := into_eq_some_iff.1 hy
      rw [Option.bind_some, unordered d y hdoor hin]
      rfl
  have total : (List.map (fun d : Door =>
      ((((s.doors[d]).filter fun y => y.cfg.inside = z).bind (·.ordered entered)).map (·.places)).getD 0) (List.finRange 16)).sum = 0 :=
    List.sum_eq_zero fun n hn => by
      obtain ⟨d, -, rfl⟩ := List.mem_map.1 hn
      exact nothing d
  obtain ⟨-, -, occupancy, -⟩ := h
  rw [occupancy]
  dsimp only
  rw [total, Nat.sub_zero, Tab.put_self]

/-- R40: a withdrawal order where nobody waits. -/
theorem Withdraws.of_noneWaiting {s t : State} {z : Zone} {entered : ZoneState} {bodies : List NoticeBody} (h : Withdraws s t z entered bodies)
    (none_ : s.noneWaiting z) : bodies = [] ∧ t.occupancy = s.occupancy := by
  refine ⟨?_, h.occupancy_of_unordered fun d y hy hin => (none_.withdrawn hy hin entered).1⟩
  obtain ⟨-, -, -, told, at_, -⟩ := h
  refine List.eq_nil_iff_forall_not_mem.2 fun b hb => ?_
  obtain ⟨d, hd⟩ := at_ b hb
  have here : b ∈ bodies.filter (·.isAt d) := List.mem_filter.2 ⟨hb, hd⟩
  rw [told d] at here
  dsimp only at here
  cases hy : (s.doors[d]).filter fun y => y.cfg.inside = z with
  | none => rw [hy] at here; exact absurd here List.not_mem_nil
  | some y =>
    obtain ⟨hdoor, hin⟩ := into_eq_some_iff.1 hy
    rw [hy, Option.map_some, Option.getD_some, (none_.withdrawn hdoor hin entered).2] at here
    exact absurd here List.not_mem_nil

/-- R40: what stands at a door into the zone after a withdrawal order. -/
theorem Withdraws.stands {s t : State} {z : Zone} {entered : ZoneState} {bodies : List NoticeBody} (h : Withdraws s t z entered bodies)
    {d : Door} {y : DoorRec} (hy : t.doors[d] = some y) (hin : y.cfg.inside = z) :
    y.pairing = none ∧ ∀ g, y.grant = some g → g.kind = .exit ∨ (g.kind = .response ∧ entered = .occupiedHold) := by
  obtain ⟨others, own, -⟩ := h
  cases hx : (s.doors[d]).filter fun y => y.cfg.inside = z with
  | none =>
    have := others d hx
    rw [hy] at this
    exact absurd hin (into_eq_none_iff.1 hx y this.symm)
  | some x =>
    have := own d x hx
    rw [hy] at this
    obtain rfl := Option.some.inj this
    rw [DoorRec.driven_eq]
    cases ho : x.ordered entered with
    | none =>
      rw [DoorRec.withdrawn_of_none ho]
      refine ⟨rfl, fun g hg => ?_⟩
      replace hg : x.grant = some g := hg
      have unordered : ¬(g.kind = .entry ∨ g.kind = .command ∨ (g.kind = .response ∧ entered ≠ .occupiedHold)) := by
        simpa [DoorRec.ordered, hg, Option.filter_some] using ho
      cases hk : g.kind with
      | exit => exact .inl rfl
      | response => exact .inr ⟨rfl, by_contra fun hne => unordered (.inr (.inr ⟨hk, hne⟩))⟩
      | entry => exact absurd (.inl hk) unordered
      | command => exact absurd (.inr (.inl hk)) unordered
    | some g =>
      rw [DoorRec.withdrawn_of_some ho]
      exact ⟨rfl, nofun⟩

/-! ## RELEASE_REQUEST -/

/-- R97, R117, R182: a request that takes a zone into a barring state is answered with what it has become. -/
theorem ZoneOrdered.answers {s u : State} {f : Frame} {z : Zone} {r x : ZoneRec} {cause : ZoneCause}
    (h : ZoneOrdered (s.hunting .suppression) u z r x cause) :
    let t := (zoneReply z (u, .ok)).answerTo .suppression f
    let ordered : Prop := ∃ d y, s.doors[(d : Door)] = some y ∧ y.cfg.inside = z ∧ y.ordered x.state ≠ none
    t = { s with
        zones := t.zones, doors := t.doors, occupancy := t.occupancy, bus := t.bus,
        link := s.link.shows z x (s.alarms.displayFlag z) s.occupancy.warning[z], ports := t.ports } ∧
      (¬ordered → t.zones = s.zones.put z (some x)) ∧
      (ordered → t.zones = s.zones.put z (some { x with summary := t.summaryOf z })) ∧
      ∃ bodies, Withdraws s t z x.state bodies ∧
        PortsAnswer s t .suppression f .ok x.answer (zoneStateBody z x r.state cause :: bodies) := by
  intro t ordered
  obtain ⟨frame, same, handed, bodies, withdraws, gains⟩ := h
  have reply : zoneReply z (u, .ok) = ⟨u, .ok, x.answer⟩ := by
    by_cases ho : ordered
    · exact zoneReply_of_eq (x := { x with summary := u.summaryOf z }) (by rw [handed ho]; exact Tab.getElem_put_self ..) .ok
    · exact zoneReply_of_eq (by rw [same ho]; exact Tab.getElem_put_self ..) .ok
  have ht : t = (⟨u, .ok, x.answer⟩ : Reply).answerTo .suppression f := by simp only [t, reply]
  rw [ht]
  refine ⟨?_, same, handed, bodies, withdraws.congr rfl rfl rfl rfl rfl rfl rfl, Reply.answerTo_ports gains⟩
  rw [Reply.answerTo_eq]
  conv_lhs => rw [frame]
  rfl

/-- R111: a started countdown, by the hold sources. -/
theorem ZoneRec.countdownStarted_eq (r : ZoneRec) (kind : ReleaseKind) :
    r.countdownStarted kind =
      { r with
        kind := some kind, delay := some (r.cfg.egressDelay r.summary.load), remaining := some (r.cfg.egressDelay r.summary.load),
        state := if r.holdLines = [] ∧ r.holdAlarms = [] then .countdown else .held } := by
  have : r.noHold = true ↔ r.holdLines = [] ∧ r.holdAlarms = [] := by simp [ZoneRec.noHold]
  simp only [ZoneRec.countdownStarted, this]

theorem ZoneRec.countdownStarted_state (r : ZoneRec) (kind : ReleaseKind) :
    (r.countdownStarted kind).state = .countdown ∨ (r.countdownStarted kind).state = .held := by
  simp only [ZoneRec.countdownStarted]
  split
  · exact .inl rfl
  · exact .inr rfl

/-- R96: a started countdown enters a barring state, from any state before it. -/
theorem ZoneRec.countdownStarted_orders (r : ZoneRec) (kind : ReleaseKind) (h : r.state = .guarded ∨ r.state = .occupiedHold) :
    stateBars (r.countdownStarted kind).state = true ∧ (r.countdownStarted kind).state ≠ r.state := by
  obtain e | e := r.countdownStarted_state kind <;> rw [e] <;> refine ⟨rfl, ?_⟩ <;> obtain h | h := h <;> rw [h] <;> nofun

theorem Summary.occupied_iff (m : Summary) : m.occupied = true ↔ 0 < m.count ∨ m.uncertain = true := by
  simp [Summary.occupied]

/-- R102, R103: the rule of a release request. -/
def releaseRule : ReleaseKind → ZoneRule
  | .auto => releaseAuto
  | .manual => releaseManual

/-- Settles O50. -/
theorem releaseStartsByKind : Obligations.ReleaseStartsByKind := by
  intro s b f z r kind ready payload hz delay started waiting occupied
  have decides (w : State) (h : w.zones[z] = some r) :
      decideRelease w .suppression f.payload = zoneReply z (releaseRule kind w z r) := by
    rw [payload, decideRelease_byte h kind]
    cases kind <;> rfl
  have starts {cause : ZoneCause} {g : ZoneRec → ZoneRec}
      (turns : ∀ w : State, releaseRule kind w z r = (w.changeZone z cause g, .ok)) (order : stateBars (g r).state = true)
      (hne : (g r).state ≠ r.state) : ∃ u, exec (.releaseRequest .suppression b) s = .next ((zoneReply z (u, .ok)).answerTo .suppression f) ∧
        ZoneOrdered (s.hunting .suppression) u z r (g r) cause := by
    have here : (s.hunting .suppression).zones[z] = some r := hz
    refine ⟨(s.hunting .suppression).changeZone z cause g, ?_, State.changeZone_orders here cause order hne⟩
    change Host.Outcome.next (s.takeRequest .suppression b 0x23 false (.only .suppression) decideRelease) = _
    rw [State.takeRequest_decided ready false _ decideRelease rfl, decides _ here, turns]
  refine ⟨fun x cause which => ?_, fun manual running => ⟨fun auto => ?_, fun other => ?_⟩, fun idle => ?_, fun refused => ?_⟩
  · obtain ⟨u, run, becomes⟩ : ∃ u, exec (.releaseRequest .suppression b) s = .next ((zoneReply z (u, .ok)).answerTo .suppression f) ∧
        ZoneOrdered (s.hunting .suppression) u z r x cause := by
      obtain ⟨rfl, guarded, occ, rfl, rfl⟩ | ⟨rfl, guarded, unocc, rfl, rfl⟩ | ⟨rfl, state, rfl, rfl⟩ := which
      · have := (Summary.occupied_iff r.summary).2 occ
        exact starts (g := fun x => { x with state := .occupiedHold, kind := some .auto })
          (fun w => by simp only [releaseRule, releaseAuto, guarded, this, if_true]) rfl (by rw [guarded]; nofun)
      · have := mt (Summary.occupied_iff r.summary).1 unocc
        have result := starts (g := (·.countdownStarted .auto)) (cause := .releaseAuto)
          (fun w => by simp only [releaseRule, releaseAuto, guarded, this, State.startCountdown]; rfl)
          (r.countdownStarted_orders _ (.inl guarded)).1 (r.countdownStarted_orders _ (.inl guarded)).2
        rwa [ZoneRec.countdownStarted_eq] at result
      · have result := starts (g := (·.countdownStarted .manual)) (cause := .releaseManual)
          (fun w => by obtain h | h := state <;> simp only [releaseRule, releaseManual, h, State.startCountdown])
          (r.countdownStarted_orders _ state).1 (r.countdownStarted_orders _ state).2
        rwa [ZoneRec.countdownStarted_eq] at result
    obtain ⟨frame, same, handed, bodies, withdraws, gains⟩ := becomes.answers (f := f)
    refine ⟨_, run, frame, ⟨bodies, withdraws, gains⟩, fun none_ => same ?_, handed, fun d y hy hin => withdraws.stands hy hin, fun none_ => ?_⟩
    · rintro ⟨d, y, hy, hin, hne⟩
      exact hne (none_ d y hy hin)
    · obtain ⟨rfl, occupancy⟩ := withdraws.of_noneWaiting none_
      refine ⟨?_, occupancy, gains⟩
      rw [same]
      · exact Tab.getElem_put_self ..
      · rintro ⟨d, y, hy, hin, hne⟩
        exact hne (none_.withdrawn hy hin _).1
  · subst manual
    refine ⟨_, rfl, zoneRequest_turns ready hz decides (g := fun x => { x with kind := some .manual }) (fun w _ => ?_) fun _ => rfl⟩
    obtain h | h := running <;> simp only [releaseRule, releaseManual, h, auto, if_true]
  · subst manual
    refine congrArg _ (zoneRequest_stays ready hz decides fun w _ => ?_)
    obtain h | h := running <;> simp only [releaseRule, releaseManual, h, if_neg other]
  · refine congrArg _ (zoneRequest_stays ready hz decides fun w _ => ?_)
    obtain ⟨rfl, h | h | h⟩ | h := idle
    · simp only [releaseRule, releaseAuto, h]
    · simp only [releaseRule, releaseAuto, h]
    · simp only [releaseRule, releaseAuto, h]
    · cases kind <;> simp only [releaseRule, releaseAuto, releaseManual, h]
  · refine congrArg _ (zoneRequest_stays ready hz decides fun w _ => ?_)
    cases kind <;> obtain h | h := refused <;> simp only [releaseRule, releaseAuto, releaseManual, h]

end Sys2Proof.Machine

namespace Sys2Proof.Machine

/-- The other items of a table stand. -/
theorem Tab.getElem_put_of_ne {α : Type} {n : Nat} {t : Tab α n} {i j : Fin n} {x : α} (h : j ≠ i) : (t.put i x)[j] = t[j] := by
  have : i.val ≠ j.val := fun e => h (Fin.ext e.symm)
  simp [this]

/-- What the chosen items of a list give is what all give, where the others give nothing. -/
theorem flatMap_filter_of {α β : Type} {p : α → Bool} {f g : α → List β} {l : List α} (chosen : ∀ x, p x = true → f x = g x)
    (others : ∀ x, p x = false → g x = []) : (l.filter p).flatMap f = l.flatMap g := by
  induction l with
  | nil => rfl
  | cons a l ih =>
    cases h : p a with
    | false => rw [List.filter_cons, h, if_neg nofun, List.flatMap_cons, others a h, ih, List.nil_append]
    | true => rw [List.filter_cons, h, if_pos rfl, List.flatMap_cons, List.flatMap_cons, chosen a h, ih]

/-! ## What an event of the valves leaves of the zone records -/

/-- From `s` to `t` valves have moved: the zone records take the path faults that change, the notices `told` are queued, and of the rest only the
banks may change. -/
def ValvesTurn (s t : State) (told : List NoticeBody) : Prop :=
  t = { s with valves := t.valves, banks := t.banks, zones := t.zones, ports := t.ports } ∧
  (∀ z : Zone, t.zones[z] = (s.zones[z]).map fun w => w.withFaults s t z) ∧
  QueuesGain s t told

/-- R116: a zone's record takes no fault where none changes. -/
theorem ZoneRec.withFaults_same {s t : State} (h : ∀ o : Output, (t.valves.outputs[o]).fault = (s.valves.outputs[o]).fault) (w : ZoneRec)
    (z : Zone) : w.withFaults s t z = w := by
  simp only [ZoneRec.withFaults, h, if_true]

/-- R116: the faults of a zone's record change with two outputs alone. -/
theorem ZoneRec.withFaults_congr {s s' t t' : State} (h : ∀ o : Output, (s'.valves.outputs[o]).fault = (s.valves.outputs[o]).fault)
    (h' : ∀ o : Output, (t'.valves.outputs[o]).fault = (t.valves.outputs[o]).fault) (w : ZoneRec) (z : Zone) :
    w.withFaults s' t' z = w.withFaults s t z := by
  simp only [ZoneRec.withFaults, h, h']

/-- R116: where no fault changes twice, the faults of two events are those of both together. -/
theorem ZoneRec.withFaults_trans {s t u : State}
    (once : ∀ o : Output, (t.valves.outputs[o]).fault = (s.valves.outputs[o]).fault ∨ (u.valves.outputs[o]).fault = (t.valves.outputs[o]).fault)
    (w : ZoneRec) (z : Zone) : (w.withFaults s t z).withFaults t u z = w.withFaults s u z := by
  have flag (o : Output) (held : Bool) :
      (if (u.valves.outputs[o]).fault = (t.valves.outputs[o]).fault then
          (if (t.valves.outputs[o]).fault = (s.valves.outputs[o]).fault then held else (t.valves.outputs[o]).fault.isSome)
        else (u.valves.outputs[o]).fault.isSome) =
        if (u.valves.outputs[o]).fault = (s.valves.outputs[o]).fault then held else (u.valves.outputs[o]).fault.isSome := by
    obtain e | e := once o
    · rw [if_pos e, e]
    · rw [if_pos e, e]
  simp only [ZoneRec.withFaults, flag]

theorem ValvesTurn.trans {s t u : State} {a b : List NoticeBody} (h : ValvesTurn s t a) (h' : ValvesTurn t u b)
    (once : ∀ o : Output, (t.valves.outputs[o]).fault = (s.valves.outputs[o]).fault ∨ (u.valves.outputs[o]).fault = (t.valves.outputs[o]).fault) :
    ValvesTurn s u (a ++ b) := by
  obtain ⟨frame, zones, gains⟩ := h
  obtain ⟨frame', zones', gains'⟩ := h'
  refine ⟨?_, fun z => ?_, gains.trans gains' (by rw [frame])⟩
  · conv_lhs => rw [frame', frame]
  · rw [zones' z, zones z, Option.map_map]
    congr 1
    funext w
    exact ZoneRec.withFaults_trans once w z

/-- Nothing but the banks changes. -/
theorem ValvesTurn.of_banks {s t : State} (h : t = { s with banks := t.banks }) : ValvesTurn s t [] := by
  have valves : t.valves = s.valves := by rw [h]
  have zones : t.zones = s.zones := by rw [h]
  have ports : t.ports = s.ports := by rw [h]
  refine ⟨?_, fun z => ?_, .of_ports ports⟩
  · rw [valves, zones, ports]
    exact h
  · have same (w : ZoneRec) : w.withFaults s t z = w := ZoneRec.withFaults_same (fun o => by rw [valves]) w z
    simp only [same, zones, Option.map_id']

/-- R116, R130: what an output becomes, as an event of the valves. -/
theorem OutputBecomes.turns {s t : State} {o : Output} {x : OutputRec} {tests : Tab (Option TestRec) 8} {edge : Option Nat}
    {more : List NoticeBody} (h : OutputBecomes s t o x tests edge more) :
    ValvesTurn s t (faultTold o s.valves.outputs[o] x edge ++ more) := by
  obtain ⟨frame, same, handed, gains⟩ := h
  have banks : t.banks = s.banks := by rw [frame]
  have outputs : t.valves.outputs = s.valves.outputs.put o x := by rw [frame]
  refine ⟨?_, fun z => ?_, gains⟩
  · have tests' : t.valves = { outputs := s.valves.outputs.put o x, tests := tests } := by rw [frame]
    rw [banks, tests']
    exact frame
  · have fault (p : Output) : (t.valves.outputs[p]).fault = if p = o then x.fault else (s.valves.outputs[p]).fault := by
      rw [outputs]
      by_cases e : p = o
      · subst e
        rw [Tab.getElem_put_self, if_pos rfl]
      · have other : o.val ≠ p.val := fun e' => e (Fin.ext e'.symm)
        simp [other, e]
    by_cases hf : x.fault = (s.valves.outputs[o]).fault
    · have none_ (p : Output) : (t.valves.outputs[p]).fault = (s.valves.outputs[p]).fault := by
        rw [fault p]
        split
        · next e => rw [e, hf]
        · rfl
      simp only [ZoneRec.withFaults_same none_, same hf, Option.map_id']
    · rw [handed hf z]
      congr 1
      funext w
      have flag (p : Output) (held : Bool) :
          (if (t.valves.outputs[p]).fault = (s.valves.outputs[p]).fault then held else (t.valves.outputs[p]).fault.isSome) =
            if o = p then x.fault.isSome else held := by
        rw [fault p]
        by_cases e : o = p
        · subst e
          rw [if_pos rfl, if_neg hf, if_pos rfl]
        · rw [if_neg (Ne.symm e), if_pos rfl, if_neg e]
      simp only [ZoneRec.withFaults, flag]
      by_cases e : o = selectorOf z
      · have : o ≠ mainValveOf w.cfg.bank := by rw [e]; exact selectorOf_ne_mainValveOf z _
        rw [if_pos e, if_pos e, if_neg this]
      · rw [if_neg e, if_neg e]
        by_cases e' : o = mainValveOf w.cfg.bank
        · rw [if_pos e', if_pos e']
        · rw [if_neg e', if_neg e']

/-! ## Test releases that are cut short -/

/-- R132: the test release that runs in a zone's first stage: its start, and whether its ON_CHECK has passed. -/
def State.firstStage (s : State) (y : Zone) : Option (Nat × Bool) :=
  match s.valves.tests[y] with
  | some ⟨start, .first passed⟩ => some (start, passed)
  | _ => none

theorem State.firstStage_eq_some {s : State} {y : Zone} {x : Nat × Bool} (h : s.firstStage y = some x) :
    s.valves.tests[y] = some ⟨x.1, .first x.2⟩ := by
  unfold State.firstStage at h
  split at h
  · next start passed ht =>
    obtain rfl := Option.some.inj h
    exact ht
  · cases h

/-- R132: a zone without a test release in its first stage has none to cut short. -/
theorem State.testSecondStage_none {s : State} {y : Zone} (h : s.firstStage y = none) : s.testSecondStage y = s := by
  unfold State.testSecondStage
  split
  · next start passed ht =>
    rw [State.firstStage, ht] at h
    cases h
  · rfl

theorem State.cut_eq (s : State) (z : Zone) (bank : Bank) (y : Zone) :
    s.cut z bank y = if y ≠ z ∧ (s.zones[y]).any (·.cfg.bank = bank) = true then s.firstStage y else none := by
  unfold State.cut State.firstStage
  split <;> rfl

/-- R123, R132: the notices of a test release that is cut short. -/
def State.cutTold (s : State) (y : Zone) : List NoticeBody :=
  match s.firstStage y with
  | none => []
  | some x =>
    let r := s.valves.outputs[selectorOf y]
    faultTold (selectorOf y) r (r.switched false s.nowMs) none ++ (secondStage y r x.1 x.2).2

/-- R123, R132: all that cutting the test releases of several zones short does. -/
theorem State.forEach_testSecondStage (l : List Zone) (hl : l.Nodup) (s : State) :
    let t := s.forEach l fun y u => u.testSecondStage y
    let switched (y : Zone) := (s.valves.outputs[selectorOf y]).switched false s.nowMs
    ValvesTurn s t (l.flatMap s.cutTold) ∧ t.banks = s.banks ∧
      (∀ y ∈ l, ∀ x, s.firstStage y = some x →
        t.valves.outputs[selectorOf y] = switched y ∧
          t.valves.tests[y] = (secondStage y s.valves.outputs[selectorOf y] x.1 x.2).1) ∧
      (∀ y : Zone, (y ∈ l → s.firstStage y = none) → t.valves.tests[y] = s.valves.tests[y]) ∧
      ∀ o : Output, (∀ y ∈ l, o = selectorOf y → s.firstStage y = none) → t.valves.outputs[o] = s.valves.outputs[o] := by
  induction l generalizing s with
  | nil =>
    exact ⟨.of_banks rfl, rfl, fun y hy => absurd hy List.not_mem_nil, fun _ _ => rfl, fun _ _ => rfl⟩
  | cons a l ih =>
    obtain ⟨ha, hl⟩ := List.nodup_cons.1 hl
    obtain ⟨u, hu⟩ : ∃ u, u = s.testSecondStage a := ⟨_, rfl⟩
    obtain ⟨t, ht⟩ : ∃ t, t = s.forEach (a :: l) fun y u => u.testSecondStage y := ⟨_, rfl⟩
    have unfolded : u.forEach l (fun y u => u.testSecondStage y) = t := by
      rw [ht, hu]
      rfl
    obtain ⟨turns, banks, cuts, tests, outputs⟩ := ih hl u
    rw [unfolded] at turns banks cuts tests outputs
    rw [← ht]
    cases hf : s.firstStage a with
    | none =>
      obtain rfl : u = s := hu.trans (State.testSecondStage_none hf)
      have told : (a :: l).flatMap u.cutTold = l.flatMap u.cutTold := by
        simp only [List.flatMap_cons, State.cutTold, hf, List.nil_append]
      rw [told]
      refine ⟨turns, banks, fun y hy x hx => ?_, fun y hy => tests y fun h => hy (List.mem_cons_of_mem _ h),
        fun o ho => outputs o fun y h => ho y (List.mem_cons_of_mem _ h)⟩
      obtain rfl | hy := List.mem_cons.1 hy
      · rw [hf] at hx
        cases hx
      · exact cuts y hy x hx
    | some x =>
      have first := s.testSecondStage_becomes a x.1 x.2 (State.firstStage_eq_some hf)
      rw [← hu] at first
      have valves := congrArg State.valves first.1
      have now : u.nowMs = s.nowMs := by rw [first.1]; rfl
      have other (o : Output) (h : o ≠ selectorOf a) : u.valves.outputs[o] = s.valves.outputs[o] := by
        have : (selectorOf a).val ≠ o.val := fun e => h (Fin.ext e.symm)
        rw [valves]
        simp [this]
      have test (y : Zone) (h : y ≠ a) : u.valves.tests[y] = s.valves.tests[y] := by
        have : a.val ≠ y.val := fun e => h (Fin.ext e.symm)
        rw [valves]
        simp [this]
      have apart (y : Zone) (h : y ≠ a) : selectorOf y ≠ selectorOf a := fun e => h (selectorOf_inj.1 e)
      have stage (y : Zone) (h : y ≠ a) : u.firstStage y = s.firstStage y := by
        simp only [State.firstStage, test y h]
      have ne_of_mem (y : Zone) (h : y ∈ l) : y ≠ a := fun e => ha (e ▸ h)
      have told : (a :: l).flatMap s.cutTold = s.cutTold a ++ l.flatMap u.cutTold := by
        rw [List.flatMap_cons]
        congr 1
        exact List.flatMap_congr fun y hy => by
          simp only [State.cutTold, stage y (ne_of_mem y hy), other _ (apart y (ne_of_mem y hy)), now]
      have own : t.valves.outputs[selectorOf a] = u.valves.outputs[selectorOf a] :=
        outputs _ fun y hy e => absurd (selectorOf_inj.1 e).symm (ne_of_mem y hy)
      have here : s.cutTold a = faultTold (selectorOf a) s.valves.outputs[selectorOf a]
          ((s.valves.outputs[selectorOf a]).switched false s.nowMs) none ++ (secondStage a s.valves.outputs[selectorOf a] x.1 x.2).2 := by
        simp only [State.cutTold, hf]
      rw [told, here]
      refine ⟨first.turns.trans turns fun o => ?_, ?_, fun y hy w hw => ?_, fun y hy => ?_, fun o ho => ?_⟩
      · by_cases e : o = selectorOf a
        · subst e
          exact .inr (by rw [own])
        · exact .inl (by rw [other o e])
      · rw [banks, first.1]
      · obtain rfl | hy := List.mem_cons.1 hy
        · rw [hf] at hw
          obtain rfl := Option.some.inj hw
          refine ⟨own.trans ?_, (tests y fun h => absurd h ha).trans ?_⟩
          · rw [valves]
            exact Tab.getElem_put_self ..
          · rw [valves]
            exact Tab.getElem_put_self ..
        · have ne := ne_of_mem y hy
          have := cuts y hy w ((stage y ne).trans hw)
          dsimp only at this ⊢
          rwa [other _ (apart y ne), now] at this
      · have ne : y ≠ a := fun e => by
          subst e
          rw [hy (List.mem_cons_self ..)] at hf
          cases hf
        rw [tests y fun h => (stage y ne).trans (hy (List.mem_cons_of_mem _ h)), test y ne]
      · have ne : o ≠ selectorOf a := fun e => by
          rw [ho a (List.mem_cons_self ..) e] at hf
          cases hf
        rw [outputs o fun y hy e => (stage y (ne_of_mem y hy)).trans (ho y (List.mem_cons_of_mem _ hy) e), other o ne]

/-! ## The valves of a discharge -/

/-- R123, R125: the main valve of a bank is opened. -/
theorem State.openMainValve_becomes (s : State) (bank : Bank) :
    let main := mainValveOf bank
    let k := s.banks[bankIndex bank]
    let t := s.openMainValve bank
    ValvesTurn s t (faultTold main s.valves.outputs[main] ((s.valves.outputs[main]).switched true s.nowMs) none) ∧
      t.valves = { outputs := s.valves.outputs.put main ((s.valves.outputs[main]).switched true s.nowMs), tests := s.valves.tests } ∧
      t.banks = s.banks.put (bankIndex bank)
        { k with minOnEnd := if (s.valves.outputs[main]).drive then k.minOnEnd else some (s.nowMs + k.cfg.tMin * 1000) } := by
  intro main k t
  by_cases open_ : (s.valves.outputs[main]).drive = true
  · have ht : t = s := if_pos open_
    have same : (s.valves.outputs[main]).switched true s.nowMs = s.valves.outputs[main] := if_pos (.inr open_)
    rw [ht, same, if_pos open_]
    refine ⟨?_, ?_, ?_⟩
    · simpa [faultTold] using ValvesTurn.of_banks (s := s) rfl
    · rw [Tab.put_self]
    · exact (put_eq_self rfl).symm
  · obtain ⟨u, hu⟩ : ∃ u, u = s.updBank bank fun k => { k with minOnEnd := some (s.nowMs + k.cfg.tMin * 1000) } := ⟨_, rfl⟩
    have ht : t = u.switchOutput main true := by
      rw [hu]
      exact if_neg open_
    have becomes := u.switchOutput_becomes main true fun z e => absurd e (mainValveOf_ne_selectorOf z bank)
    have valves : u.valves = s.valves := by rw [hu]; rfl
    have now : u.nowMs = s.nowMs := by rw [hu]; rfl
    rw [← ht] at becomes
    have start : ValvesTurn s u [] := .of_banks (by rw [hu]; rfl)
    have turns := start.trans becomes.turns fun o => .inl (by rw [valves])
    rw [valves, now, List.nil_append, List.append_nil] at turns
    refine ⟨turns, ?_, ?_⟩
    · have := congrArg State.valves becomes.1
      rw [valves, now] at this
      exact this
    · rw [if_neg open_]
      have := congrArg State.banks becomes.1
      rw [hu] at this
      exact this

/-- R122, R123: the valves follow a zone into DISCHARGE while no test release runs in it. -/
theorem State.startDischargeValves_opens {s : State} {z : Zone} {x : ZoneRec} (hx : s.zones[z] = some x) (idle : s.valves.tests[z] = none) :
    let t := s.startDischargeValves z
    let bank := x.cfg.bank
    let main := mainValveOf bank
    let k := s.banks[bankIndex bank]
    ∃ told, DischargeOpens s t z bank told ∧ ValvesTurn s t told ∧
      t.banks = s.banks.put (bankIndex bank)
        { k with
          discharging := insertAscending z k.discharging,
          minOnEnd := if (s.valves.outputs[main]).drive then k.minOnEnd else some (s.nowMs + k.cfg.tMin * 1000) } := by
  intro t bank main k
  have hbank : s.bankOf z = some bank := by simp only [State.bankOf, hx, Option.map_some, bank]
  have first := s.switchOutput_becomes (selectorOf z) true fun y e => by rw [selectorOf_inj.1 e] at idle; exact idle
  obtain ⟨a, ha⟩ : ∃ a, a = s.switchOutput (selectorOf z) true := ⟨_, rfl⟩
  rw [← ha] at first
  obtain ⟨b, hb⟩ : ∃ b, b = a.updBank bank fun k => { k with discharging := insertAscending z k.discharging } := ⟨_, rfl⟩
  obtain ⟨c, hc⟩ : ∃ c, c = b.openMainValve bank := ⟨_, rfl⟩
  have ht : t = c.cutTests z bank := by
    simp only [t, State.startDischargeValves, hbank, hc, hb, ha]
  have opened := b.openMainValve_becomes bank
  rw [← hc] at opened
  obtain ⟨second, cvalves, cbanks⟩ := opened
  have cuts := State.forEach_testSecondStage ((List.finRange 8).filter fun y => y != z && c.bankOf y = some bank)
    ((List.nodup_finRange 8).filter _) c
  have same : (c.forEach ((List.finRange 8).filter fun y => y != z && c.bankOf y = some bank) fun y u => u.testSecondStage y) = t := ht.symm
  rw [same] at cuts
  obtain ⟨third, tbanks, each, tests, outputs⟩ := cuts
  have avalves : a.valves =
      { outputs := s.valves.outputs.put (selectorOf z) ((s.valves.outputs[selectorOf z]).switched true s.nowMs), tests := s.valves.tests } := by
    rw [first.1]
  have bvalves : b.valves = a.valves := by rw [hb]; rfl
  have bnow : b.nowMs = s.nowMs := by rw [hb, first.1]; rfl
  have cnow : c.nowMs = s.nowMs := by rw [second.1]; exact bnow
  have apart : main ≠ selectorOf z := mainValveOf_ne_selectorOf z bank
  have amain : a.valves.outputs[main] = s.valves.outputs[main] := by
    rw [avalves]
    exact Tab.getElem_put_of_ne apart
  have coutputs : c.valves.outputs = a.valves.outputs.put main ((s.valves.outputs[main]).switched true s.nowMs) := by
    rw [cvalves, bvalves, bnow, amain]
  have stays (o : Output) (hs : o ≠ selectorOf z) (hm : o ≠ main) : c.valves.outputs[o] = s.valves.outputs[o] := by
    rw [coutputs, Tab.getElem_put_of_ne hm, avalves]
    exact Tab.getElem_put_of_ne hs
  have csel : c.valves.outputs[selectorOf z] = (s.valves.outputs[selectorOf z]).switched true s.nowMs := by
    rw [coutputs, Tab.getElem_put_of_ne apart.symm, avalves]
    exact Tab.getElem_put_self ..
  have cmain : c.valves.outputs[main] = (s.valves.outputs[main]).switched true s.nowMs := by
    rw [coutputs]
    exact Tab.getElem_put_self ..
  have ctests : c.valves.tests = s.valves.tests := by rw [cvalves, bvalves, avalves]
  have stage (y : Zone) : c.firstStage y = s.firstStage y := by simp only [State.firstStage, ctests]
  have turned : ValvesTurn s c _ := (first.turns.trans (.of_banks (t := b) (by rw [hb]; rfl)) fun o => .inr (by rw [bvalves])).trans second
    fun o => by
      by_cases e : o = main
      · rw [e, bvalves, amain]
        exact .inl rfl
      · right
        rw [coutputs, bvalves, Tab.getElem_put_of_ne e]
  have banked (y : Zone) : c.bankOf y = s.bankOf y := by
    simp only [State.bankOf]
    rw [turned.2.1 y, Option.map_map]
    rfl
  have member (y : Zone) : y ∈ ((List.finRange 8).filter fun y => y != z && c.bankOf y = some bank) ↔
      y ≠ z ∧ (s.zones[y]).any (·.cfg.bank = bank) = true := by
    rw [List.mem_filter, banked]
    simp only [List.mem_finRange, true_and, State.bankOf, Bool.and_eq_true, bne_iff_ne, decide_eq_true_eq, Option.map_eq_some_iff,
      Option.any_eq_true]
  have cut_of_mem {y : Zone} (h : y ∈ ((List.finRange 8).filter fun y => y != z && c.bankOf y = some bank)) :
      s.cut z bank y = s.firstStage y := by rw [State.cut_eq, if_pos ((member y).1 h)]
  have ne_of_mem {y : Zone} (h : y ∈ ((List.finRange 8).filter fun y => y != z && c.bankOf y = some bank)) : y ≠ z := ((member y).1 h).1
  have csel_of_mem {y : Zone} (h : y ≠ z) : c.valves.outputs[selectorOf y] = s.valves.outputs[selectorOf y] :=
    stays _ (fun e => h (selectorOf_inj.1 e)) (selectorOf_ne_mainValveOf y bank)
  have bmain : b.valves.outputs[mainValveOf bank] = s.valves.outputs[main] := by rw [bvalves]; exact amain
  refine ⟨_, ⟨?_, ?_, fun y w hw => ?_, fun y hy => ?_, fun o hs hm ho => ?_, rfl⟩, ?_, ?_⟩
  · rw [outputs _ fun y hy e => absurd (selectorOf_inj.1 e).symm (ne_of_mem hy), csel]
  · rw [outputs _ fun y _ e => absurd e (mainValveOf_ne_selectorOf y bank), cmain]
  · have hy : y ≠ z ∧ (s.zones[y]).any (·.cfg.bank = bank) = true := by
      by_contra hne
      rw [State.cut_eq, if_neg hne] at hw
      cases hw
    have mem := (member y).2 hy
    have := each y mem w ((stage y).trans ((cut_of_mem mem).symm.trans hw))
    dsimp only at this ⊢
    rwa [csel_of_mem hy.1, cnow] at this
  · rw [tests y fun mem => (stage y).trans ((cut_of_mem mem).symm.trans hy), ctests]
  · rw [outputs o fun y mem e => (stage y).trans ((cut_of_mem mem).symm.trans (ho y e)), stays o hs hm]
  · have once (o : Output) : (c.valves.outputs[o]).fault = (s.valves.outputs[o]).fault ∨
        (t.valves.outputs[o]).fault = (c.valves.outputs[o]).fault := by
      by_cases hs : o = selectorOf z
      · rw [hs, outputs _ fun y hy e => absurd (selectorOf_inj.1 e).symm (ne_of_mem hy)]
        exact .inr rfl
      · by_cases hm : o = main
        · rw [hm, outputs _ fun y _ e => absurd e (mainValveOf_ne_selectorOf y bank)]
          exact .inr rfl
        · exact .inl (by rw [stays o hs hm])
    have all := turned.trans third once
    have told : (((List.finRange 8).filter fun y => y != z && c.bankOf y = some bank).flatMap c.cutTold) =
        (List.finRange 8).flatMap fun y =>
          match s.cut z bank y with
          | none => []
          | some x =>
            faultTold (selectorOf y) s.valves.outputs[selectorOf y] ((s.valves.outputs[selectorOf y]).switched false s.nowMs) none ++
              (secondStage y s.valves.outputs[selectorOf y] x.1 x.2).2 := by
      refine flatMap_filter_of (fun y hy => ?_) fun y hy => ?_
      · have mem : y ∈ ((List.finRange 8).filter fun y => y != z && c.bankOf y = some bank) :=
          List.mem_filter.2 ⟨List.mem_finRange y, hy⟩
        simp only [State.cutTold, stage y, cut_of_mem mem, csel_of_mem (ne_of_mem mem), cnow]
      · have out : ¬(y ≠ z ∧ (s.zones[y]).any (·.cfg.bank = bank) = true) := fun h => by
          have := (List.mem_filter.1 ((member y).2 h)).2
          rw [hy] at this
          cases this
        rw [State.cut_eq, if_neg out]
    rw [told, bmain, bnow, List.append_nil, List.append_nil] at all
    exact all
  · have bbanks : b.banks = s.banks.put (bankIndex bank) { k with discharging := insertAscending z k.discharging } := by
      rw [hb, first.1]
      rfl
    rw [tbanks, cbanks, bbanks, bmain, bnow]
    simp only [Tab.put_put, Tab.getElem_put_self]

/-- R124: a bank's main valve is closed where nothing holds it open. -/
theorem State.settleMainValve_becomes (s : State) (bank : Bank) :
    let main := mainValveOf bank
    let k := s.banks[bankIndex bank]
    let y := if k.discharging = [] ∧ k.minOnEnd = none then (s.valves.outputs[main]).switched false s.nowMs else s.valves.outputs[main]
    OutputBecomes s (s.settleMainValve bank) main y s.valves.tests none [] := by
  intro main k y
  have closes : (k.discharging.isEmpty && k.minOnEnd.isNone) = true ↔ k.discharging = [] ∧ k.minOnEnd = none := by simp
  by_cases h : k.discharging = [] ∧ k.minOnEnd = none
  · have ht : s.settleMainValve bank = s.switchOutput main false := if_pos (closes.2 h)
    rw [ht]
    simp only [y, if_pos h]
    exact s.switchOutput_becomes main false fun z e => absurd e (mainValveOf_ne_selectorOf z bank)
  · have ht : s.settleMainValve bank = s := if_neg (mt closes.1 h)
    rw [ht]
    simp only [y, if_neg h]
    exact outputBecomes_self s main none

/-- R122, R124: the valves follow a zone out of DISCHARGE while no test release runs in it. -/
theorem State.endDischargeValves_closes {s : State} {z : Zone} {x : ZoneRec} (hx : s.zones[z] = some x) (idle : s.valves.tests[z] = none) :
    let t := s.endDischargeValves z
    let bank := x.cfg.bank
    let k := s.banks[bankIndex bank]
    let left := k.discharging.filter (· ≠ z)
    ∃ told, DischargeCloses s t z bank (left = [] ∧ k.minOnEnd = none) told ∧ ValvesTurn s t told ∧
      t.banks = s.banks.put (bankIndex bank) { k with discharging := left } := by
  intro t bank k left
  have hbank : s.bankOf z = some bank := by simp only [State.bankOf, hx, Option.map_some, bank]
  have first := s.switchOutput_becomes (selectorOf z) false fun y e => by rw [selectorOf_inj.1 e] at idle; exact idle
  obtain ⟨a, ha⟩ : ∃ a, a = s.switchOutput (selectorOf z) false := ⟨_, rfl⟩
  rw [← ha] at first
  obtain ⟨b, hb⟩ : ∃ b, b = a.updBank bank fun k => { k with discharging := k.discharging.filter (· != z) } := ⟨_, rfl⟩
  have ht : t = b.settleMainValve bank := by simp only [t, State.endDischargeValves, hbank, hb, ha]
  have second := b.settleMainValve_becomes bank
  rw [← ht] at second
  have avalves : a.valves =
      { outputs := s.valves.outputs.put (selectorOf z) ((s.valves.outputs[selectorOf z]).switched false s.nowMs), tests := s.valves.tests } := by
    rw [first.1]
  have bvalves : b.valves = a.valves := by rw [hb]; rfl
  have bnow : b.nowMs = s.nowMs := by rw [hb, first.1]; rfl
  have filtered : k.discharging.filter (· != z) = left := List.filter_congr fun y _ => Bool.eq_iff_iff.2 (by simp)
  have bbanks : b.banks = s.banks.put (bankIndex bank) { k with discharging := left } := by
    rw [← filtered, hb, first.1]
    rfl
  have bk : b.banks[bankIndex bank] = { k with discharging := left } := by rw [bbanks]; exact Tab.getElem_put_self ..
  have apart : mainValveOf bank ≠ selectorOf z := mainValveOf_ne_selectorOf z bank
  have bmain : b.valves.outputs[mainValveOf bank] = s.valves.outputs[mainValveOf bank] := by
    rw [bvalves, avalves]
    exact Tab.getElem_put_of_ne apart
  simp only [bmain, bk, bnow] at second
  have tvalves := congrArg State.valves second.1
  simp only at tvalves
  have once (o : Output) : (b.valves.outputs[o]).fault = (s.valves.outputs[o]).fault ∨
      (t.valves.outputs[o]).fault = (b.valves.outputs[o]).fault := by
    by_cases e : o = mainValveOf bank
    · rw [e, bmain]
      exact .inl rfl
    · right
      rw [tvalves]
      exact congrArg _ (Tab.getElem_put_of_ne e)
  have turned := (first.turns.trans (.of_banks (t := b) (by rw [hb]; rfl)) fun o => .inr (by rw [bvalves])).trans second.turns once
  refine ⟨_, ⟨?_, ?_, ?_, fun o hs hm => ?_, rfl⟩, ?_, ?_⟩
  · rw [tvalves, bvalves, avalves]
  · rw [tvalves]
    refine (Tab.getElem_put_of_ne apart.symm).trans ?_
    rw [bvalves, avalves]
    exact Tab.getElem_put_self ..
  · rw [tvalves]
    refine (Tab.getElem_put_self ..).trans ?_
    simp only [decide_eq_true_eq]
  · rw [tvalves]
    refine (Tab.getElem_put_of_ne hm).trans ?_
    rw [bvalves, avalves]
    exact Tab.getElem_put_of_ne hs
  · simp only [List.append_nil, bmain] at turned
    by_cases h : left = [] ∧ k.minOnEnd = none
    · simpa only [h, if_true, decide_true, and_self] using turned
    · simpa only [if_neg h, decide_false, faultTold, if_true, List.append_nil, Bool.false_eq_true, if_false, h] using turned
  · rw [second.1]
    exact bbanks

end Sys2Proof.Machine

namespace Sys2Proof.Machine

/-! ## A zone enters and leaves DISCHARGE -/

/-- R116: the zone records after an event of the valves in which the record of zone `z` was `x`. -/
theorem ZoneRec.withFaults_of_valves {s s' t t' : State} (h : s'.valves = s.valves) (h' : t'.valves = t.valves) (w : ZoneRec) (z : Zone) :
    w.withFaults s' t' z = w.withFaults s t z := ZoneRec.withFaults_congr (fun o => by rw [h]) (fun o => by rw [h']) w z

/-- R40, R115 to R118: a change of a zone record told, the valves' event, and what follows the change into a barring state that takes no grant
back. -/
theorem State.turnedValves_follow {s v : State} {z : Zone} {r : ZoneRec} {cause : ZoneCause} {f : ZoneRec → ZoneRec} {told : List NoticeBody}
    (hr : s.zones[z] = some r) (turned : ValvesTurn (s.changeRecord z cause f) v told) (order : stateBars (f r).state = true)
    (hne : (f r).state ≠ r.state)
    (unordered : ∀ d y, s.doors[(d : Door)] = some y → y.cfg.inside = z → y.ordered (f r).state = none) :
    let t := v.followChange z r
    let x := f r
    t = { s with
        doors := t.doors, zones := t.zones, bus := t.bus, ports := t.ports, valves := v.valves, banks := v.banks,
        link := s.link.shows z x (s.alarms.displayFlag z) s.occupancy.warning[z] } ∧
      (∀ y : Zone, t.zones[y] = (if y = z then some x else s.zones[y]).map fun w => w.withFaults s t y) ∧
      ∃ withdrawn, Withdraws s t z x.state withdrawn ∧
        QueuesGain s t (zoneStateBody z x r.state cause :: (told ++ withdrawn)) := by
  intro t x
  obtain ⟨u, hu⟩ : ∃ u, u = s.changeRecord z cause f := ⟨_, rfl⟩
  have record := State.changeRecord_eq hr cause f
  rw [← hu] at record turned
  obtain ⟨frame, zones, gains⟩ := turned
  have uzones : u.zones = s.zones.put z (some x) := by simp [record, x]
  have hx : v.zones[z] = some (x.withFaults u v z) := by
    rw [zones z, uzones, Tab.getElem_put_self]
    rfl
  obtain ⟨t', ht'⟩ : ∃ t', t' = t := ⟨_, rfl⟩
  have after := State.followChange_orders (v := v) (r := r) hx order hne
  have ht : t' = v.followChange z r := ht'
  rw [← ht] at after
  rw [← ht']
  obtain ⟨frame', same, -, withdrawn, withdraws, gains'⟩ := after
  have vdoors : v.doors = s.doors := by rw [frame, record]; simp
  have vocc : v.occupancy = s.occupancy := by rw [frame, record]; simp
  have vbus : v.bus = s.bus := by rw [frame, record]; simp
  have vtime : v.time = s.time := by rw [frame, record]; simp
  have utime : u.time = s.time := by rw [record]; simp
  have uvalves : u.valves = s.valves := by rw [record]; simp
  have withdraws' : Withdraws s t' z x.state withdrawn := withdraws.congr vdoors.symm vocc.symm vbus.symm vtime.symm rfl rfl rfl
  have occ : t'.occupancy = s.occupancy := withdraws'.occupancy_of_unordered unordered
  have tzones : t'.zones = v.zones := same fun ⟨d, y, hy, hin, ho⟩ => ho (unordered d y (vdoors ▸ hy) hin)
  have tvalves : t'.valves = v.valves := by rw [frame']
  have vlink : v.link = s.link := by rw [frame, record]; simp
  have valarms : v.alarms = s.alarms := by rw [frame, record]; simp
  have unchanged : t' = { v with doors := t'.doors, bus := t'.bus, zones := t'.zones, ports := t'.ports, link := t'.link } := by
    have shown : t'.link = v.link.shows z (x.withFaults u v z) (v.alarms.displayFlag z) v.occupancy.warning[z] := by rw [frame']
    rw [shown]
    conv_lhs => rw [frame', occ, ← vocc]
  have link : t'.link = s.link.shows z x (s.alarms.displayFlag z) s.occupancy.warning[z] := by
    rw [frame', vlink, valarms, vocc]
    rfl
  refine ⟨?_, fun y => ?_, withdrawn, withdraws', ?_⟩
  · rw [← link]
    conv_lhs => rw [unchanged, frame]
    apply State.ext_fields <;> simp [record]
  · have faults (w : ZoneRec) : w.withFaults u v y = w.withFaults s t' y := ZoneRec.withFaults_of_valves uvalves tvalves.symm w y
    rw [tzones, zones y, uzones]
    by_cases e : y = z
    · subst e
      rw [Tab.getElem_put_self, if_pos rfl, funext faults]
    · rw [Tab.getElem_put_of_ne e, if_neg e, funext faults]
  · have told_ : QueuesGain s u [zoneStateBody z x r.state cause] := by
      rw [record]
      exact (State.notify_gains _ _).congr rfl rfl rfl
    have all := (told_.trans gains utime).trans gains' vtime
    simpa only [List.cons_append, List.nil_append] using all

/-- R123: the tests that are cut short depend on no record of the zone itself. -/
theorem State.cut_congr {s u : State} {z : Zone} (valves : u.valves = s.valves) (others : ∀ y : Zone, y ≠ z → u.zones[y] = s.zones[y])
    (bank : Bank) (y : Zone) : u.cut z bank y = s.cut z bank y := by
  by_cases e : y = z
  · have (w : State) : w.cut z bank y = none := by rw [State.cut_eq, if_neg fun h => h.1 e]
    rw [this, this]
  · simp only [State.cut_eq, State.firstStage, valves, others y e]

/-- R123: the valves of a discharge are told from the valves, the time, and the banks of the other zones. -/
theorem DischargeOpens.congr {s u t t' : State} {z : Zone} {bank : Bank} {told : List NoticeBody} (h : DischargeOpens u t z bank told)
    (valves : u.valves = s.valves) (time : u.time = s.time) (others : ∀ y : Zone, y ≠ z → u.zones[y] = s.zones[y])
    (after : t'.valves = t.valves) : DischargeOpens s t' z bank told := by
  have cut := State.cut_congr valves others bank
  have now : u.nowMs = s.nowMs := by simp only [State.nowMs, time]
  simp only [DischargeOpens, valves, now, cut] at h
  simp only [DischargeOpens, after]
  exact h

theorem DischargeCloses.congr {s u t t' : State} {z : Zone} {bank : Bank} {closes : Bool} {told : List NoticeBody}
    (h : DischargeCloses u t z bank closes told) (valves : u.valves = s.valves) (time : u.time = s.time) (after : t'.valves = t.valves) :
    DischargeCloses s t' z bank closes told := by
  have now : u.nowMs = s.nowMs := by simp only [State.nowMs, time]
  simp only [DischargeCloses, valves, now] at h
  simp only [DischargeCloses, after]
  exact h

/-- R34, R40: from COUNTDOWN on the grants that stand into a zone are EXIT grants, which no withdrawal order takes back. -/
theorem State.grantsFit.unordered {s : State} {z : Zone} {r : ZoneRec} (fit : s.grantsFit z) (hr : s.zones[z] = some r)
    (barred : stateBars r.state = true) (closed : stateBarsResponse r.state = true) (entered : ZoneState) {d : Door} {y : DoorRec}
        (hy : s.doors[d] = some y)
    (hin : y.cfg.inside = z) : y.ordered entered = none := by
  have permitted (g : Grant) (hg : y.grant = some g) : g.kind = .exit := by
    have permits := fit d y g hy hin hg
    have bars : s.bars z = true ∧ (s.zones[z]).any (fun r => stateBarsResponse r.state) = true := by
      simp only [State.bars, hr, Option.any_some, zoneBars, barred, closed, Bool.true_or, and_self]
    cases hk : g.kind with
    | exit => rfl
    | entry | command => simp [hk, State.zonePermits, bars.1] at permits
    | response => rw [hk, State.zonePermits, bars.2] at permits; cases permits
  cases hg : y.grant with
  | none => simp only [DoorRec.ordered, hg, Option.filter_none]
  | some g => simp [DoorRec.ordered, hg, Option.filter_some, permitted g hg]

/-- Settles O26. -/
theorem countdownEndsInDischarge : Obligations.CountdownEndsInDischarge := by
  intro s z r hr counting last due fit idle main k x
  obtain ⟨u, hu⟩ : ∃ u, u = s.changeRecord z .countdownEnd (·.discharging s.nowMs) := ⟨_, rfl⟩
  have record := State.changeRecord_eq hr .countdownEnd (·.discharging s.nowMs)
  rw [← hu] at record
  have ux : u.zones[z] = some x := by simp [record, x, ZoneRec.discharging]
  have uvalves : u.valves = s.valves := by simp [record]
  have utime : u.time = s.time := by simp [record]
  have ubanks : u.banks = s.banks := by simp [record]
  have others (y : Zone) (h : y ≠ z) : u.zones[y] = s.zones[y] := by
    have : u.zones = s.zones.put z (some x) := by simp [record, x, ZoneRec.discharging]
    rw [this]
    exact Tab.getElem_put_of_ne h
  obtain ⟨told, opens, turned, banks⟩ := State.startDischargeValves_opens ux (by rw [uvalves]; exact idle)
  obtain ⟨v, hv⟩ : ∃ v, v = u.startDischargeValves z := ⟨_, rfl⟩
  rw [← hv] at opens turned banks
  rw [hu] at turned
  obtain ⟨frame, zones, withdrawn, withdraws, gains⟩ := State.turnedValves_follow hr turned rfl (by rw [counting]; nofun)
    fun d y hy hin => fit.unordered hr (by rw [counting]; rfl) (by rw [counting]; rfl) _ hy hin
  obtain ⟨t, ht⟩ : ∃ t, t = v.followChange z r := ⟨_, rfl⟩
  rw [← ht] at frame zones withdraws gains
  have run : exec (.countdownEnd z) s = .next t := by
    have over_ : (s.zones[z]).any (·.countdownOver (0 < s.time.dsDue)) = true := by
      simp [hr, ZoneRec.countdownOver, counting, last, due]
    change Host.Outcome.next (if _ then s.enterDischarge z else s) = _
    rw [if_pos over_, ht, hv, hu]
    simp only [State.enterDischarge, hr]
  have tvalves : t.valves = v.valves := by rw [frame]
  refine ⟨t, run, ?_, zones, ?_, ⟨told, withdrawn, opens.congr uvalves utime others tvalves, withdraws, ?_⟩, fun d y hy hin => ?_⟩
  · rw [tvalves]
    have : t.banks = v.banks := by rw [frame]
    rw [this]
    exact frame
  · have : t.banks = v.banks := by rw [frame]
    have now : u.nowMs = s.nowMs := by simp only [State.nowMs, utime]
    rw [this, banks, ubanks, uvalves, now]
  · rw [counting] at gains
    exact gains
  · obtain ⟨pairing, grant⟩ := withdraws.stands hy hin
    exact ⟨pairing, fun g hg => (grant g hg).resolve_right nofun⟩

/-- R124: the minimum-on period of a bank ends. -/
theorem State.minimumOn_ends (s : State) (bank : Bank) :
    let main := mainValveOf bank
    let k := s.banks[bankIndex bank]
    let y := if k.discharging = [] then (s.valves.outputs[main]).switched false s.nowMs else s.valves.outputs[main]
    let t := (s.updBank bank fun k => { k with minOnEnd := none }).settleMainValve bank
    t = { s with
        valves := { s.valves with outputs := s.valves.outputs.put main y }, zones := t.zones, ports := t.ports,
        banks := s.banks.put (bankIndex bank) { k with minOnEnd := none } } ∧
      (∀ z : Zone, t.zones[z] = (s.zones[z]).map fun w => w.withFaults s t z) ∧
      QueuesGain s t (faultTold main s.valves.outputs[main] y none) := by
  intro main k y t
  obtain ⟨u, hu⟩ : ∃ u, u = s.updBank bank fun k => { k with minOnEnd := none } := ⟨_, rfl⟩
  have becomes := u.settleMainValve_becomes bank
  have valves : u.valves = s.valves := by rw [hu]; rfl
  have now : u.nowMs = s.nowMs := by rw [hu]; rfl
  have banks : u.banks = s.banks.put (bankIndex bank) { k with minOnEnd := none } := by rw [hu]; rfl
  have here : u.banks[bankIndex bank] = { k with minOnEnd := none } := by rw [banks]; exact Tab.getElem_put_self ..
  have closes : (u.banks[bankIndex bank]).discharging = [] ∧ (u.banks[bankIndex bank]).minOnEnd = none ↔ k.discharging = [] := by
    rw [here]
    exact and_iff_left rfl
  simp only [closes, valves, now] at becomes
  have ht : t = u.settleMainValve bank := by rw [hu]
  rw [← ht] at becomes
  have turned := (ValvesTurn.of_banks (s := s) (t := u) (by rw [hu]; rfl)).trans becomes.turns fun o => .inl (by rw [valves])
  simp only [List.nil_append, List.append_nil, valves] at turned
  refine ⟨?_, turned.2.1, turned.2.2⟩
  obtain ⟨frame, -⟩ := becomes
  obtain ⟨w, hw⟩ : ∃ w, w = t := ⟨_, rfl⟩
  rw [← hw] at frame ⊢
  conv_lhs => rw [frame]
  subst hu
  rfl

/-- Settles O27. -/
theorem dischargeAndMinimumOnEnd : Obligations.DischargeAndMinimumOnEnd := by
  intro s
  refine ⟨?_, fun bank due hdue reached => ?_⟩
  · intro z r start hr state hstart over_ fit idle k left x
    obtain ⟨u, hu⟩ : ∃ u, u = s.changeRecord z .dischargeEnd fun x => { x with state := .discharged, kind := none } := ⟨_, rfl⟩
    have record := State.changeRecord_eq hr .dischargeEnd fun x => { x with state := .discharged, kind := none }
    rw [← hu] at record
    have ux : u.zones[z] = some x := by simp [record, x]
    have uvalves : u.valves = s.valves := by simp [record]
    have utime : u.time = s.time := by simp [record]
    have ubanks : u.banks = s.banks := by simp [record]
    obtain ⟨told, closes, turned, banks⟩ := State.endDischargeValves_closes ux (by rw [uvalves]; exact idle)
    rw [ubanks] at closes banks
    obtain ⟨v, hv⟩ : ∃ v, v = u.endDischargeValves z := ⟨_, rfl⟩
    rw [← hv] at closes turned banks
    rw [hu] at turned
    obtain ⟨frame, zones, withdrawn, withdraws, gains⟩ := State.turnedValves_follow hr turned rfl (by rw [state]; nofun)
      fun d y hy hin => fit.unordered hr (by rw [state]; rfl) (by rw [state]; rfl) _ hy hin
    obtain ⟨t, ht⟩ : ∃ t, t = v.followChange z r := ⟨_, rfl⟩
    rw [← ht] at frame zones withdraws gains
    have run : exec (.dischargeEnd z) s = .next t := by
      have ends : (s.zones[z]).any (·.dischargeOver s.nowMs) = true := by
        simp [hr, ZoneRec.dischargeOver, state, hstart, over_]
      change Host.Outcome.next (if _ then s.leaveDischarge z else s) = _
      rw [if_pos ends, ht, hv, hu]
      simp only [State.leaveDischarge, hr]
    have tvalves : t.valves = v.valves := by rw [frame]
    rw [state] at gains
    refine ⟨t, run, ?_, zones, told, withdrawn, closes.congr uvalves utime tvalves, withdraws, gains⟩
    rw [tvalves, ← banks]
    exact frame
  · have run : exec (.minimumOnEnd bank) s = .next ((s.updBank bank fun k => { k with minOnEnd := none }).settleMainValve bank) := by
      have ends : (s.banks[bankIndex bank]).minOnEnd.any (· ≤ s.nowMs) = true := by simp only [hdue, Option.any_some, decide_eq_true reached]
      exact congrArg _ (if_pos ends)
    exact ⟨_, run, s.minimumOn_ends bank⟩

end Sys2Proof.Machine

namespace Sys2Proof.Machine

/-! ## A decisecond tick -/

/-- R112, R115: a zone's record after a decisecond tick, apart from what the tick's other zones and its valves hand it. -/
def ZoneRec.ticked (now : Nat) (r : ZoneRec) : ZoneRec :=
  if r.state ≠ .countdown then r
  else
    match r.remaining with
    | some (n + 2) => { r with remaining := some (n + 1) }
    | _ => r.discharging now

theorem ZoneRec.ticked_keeps (r : ZoneRec) (now : Nat) :
    (r.ticked now).cfg = r.cfg ∧ (r.ticked now).kind = r.kind ∧ (r.ticked now).entryHold = r.entryHold ∧
      (r.ticked now).holdLines = r.holdLines ∧ (r.ticked now).holdAlarms = r.holdAlarms := by
  unfold ZoneRec.ticked
  split
  · exact ⟨rfl, rfl, rfl, rfl, rfl⟩
  · split <;> exact ⟨rfl, rfl, rfl, rfl, rfl⟩

/-- What is handed to a zone bears on no tick. -/
theorem Steady.ticked {α : Type} {view : ZoneRec → α} (hv : Steady view) (now : Nat) : Steady fun r => view (r.ticked now) := by
  intro r summary selector main
  simp only [ZoneRec.ticked]
  split
  · exact hv r summary selector main
  · split
    · next n _ => exact hv { r with remaining := some (n + 1) } summary selector main
    · exact hv (r.discharging now) summary selector main

theorem State.tickZone_view (s : State) (z : Zone) (i : Nat) (hi : i < 8) {α : Type} {view : ZoneRec → α} (hv : Steady view) :
    ((s.tickZone z).zones[i]).map view =
      if z.val = i then (s.zones[i]).map fun r => view (r.ticked s.nowMs) else (s.zones[i]).map view := by
  unfold State.tickZone
  split
  · next hr =>
    split
    · next e =>
      subst e
      have : s.zones[z.val] = none := hr
      rw [this]
      rfl
    · rfl
  next r hr =>
  have here (e : z.val = i) : s.zones[i] = some r := by
    subst e
    exact hr
  have turns {w : Option α} (hw : w = if z.val = i then some (view (r.ticked s.nowMs)) else (s.zones[i]).map view) :
      w = if z.val = i then (s.zones[i]).map fun r => view (r.ticked s.nowMs) else (s.zones[i]).map view := by
    rw [hw]
    split
    · next e => rw [here e]; rfl
    · rfl
  refine turns ?_
  split
  · next other =>
    have same : r.ticked s.nowMs = r := if_pos (by simpa using other)
    split
    · next e => rw [here e, same]; rfl
    · rfl
  next counting =>
  split
  · next n last =>
    have lower : r.ticked s.nowMs = { r with remaining := some (n + 1) } := by simp_all [ZoneRec.ticked]
    simp only [State.refreshPanel_frame, State.updZone_zones, Tab.getElem_put, hr, lower]
    split <;> rfl
  · next last =>
    have ends : r.ticked s.nowMs = r.discharging s.nowMs := by
      rw [ZoneRec.ticked, if_neg (by simpa using counting)]
      split
      · next n e => exact absurd e (last n)
      · rfl
    rw [State.enterDischarge_view s i hi hv]
    split
    · next e => rw [here e, ends]; rfl
    · rfl

/-- R112: each zone of a list ticks once. -/
theorem State.forEach_tickZone_view (l : List Zone) (hl : l.Nodup) (s : State) (i : Zone) {α : Type} {view : ZoneRec → α} (hv : Steady view) :
    ((s.forEach l fun z t => t.tickZone z).zones[i]).map view =
      if i ∈ l then (s.zones[i]).map fun r => view (r.ticked s.nowMs) else (s.zones[i]).map view := by
  induction l generalizing s with
  | nil => simp [State.forEach]
  | cons z l ih =>
    obtain ⟨hz, hl⟩ := List.nodup_cons.1 hl
    have now : (s.tickZone z).nowMs = s.nowMs := by simp [State.nowMs]
    have tail := ih hl (s.tickZone z)
    have head {β : Type} {view : ZoneRec → β} (hv : Steady view) := s.tickZone_view z i.val i.isLt hv
    change ((State.forEach (s.tickZone z) l fun z t => t.tickZone z).zones[i]).map view = _
    rw [tail, now]
    by_cases e : z = i
    · subst e
      rw [if_neg hz, if_pos (List.mem_cons_self ..)]
      exact (head hv).trans (if_pos rfl)
    · have other : z.val ≠ i.val := fun h => e (Fin.ext h)
      have mem : i ∈ z :: l ↔ i ∈ l := by simp [Ne.symm e]
      simp only [mem]
      split
      · exact (head (hv.ticked s.nowMs)).trans (if_neg other)
      · exact (head hv).trans (if_neg other)

theorem State.tickCountdowns_view (s : State) (i : Zone) {α : Type} {view : ZoneRec → α} (hv : Steady view) :
    (s.tickCountdowns.zones[i]).map view = (s.zones[i]).map fun r => view (r.ticked s.nowMs) := by
  have nodup : s.configuredZones.Nodup := (List.nodup_finRange 8).filter _
  rw [State.tickCountdowns, State.forEach_tickZone_view _ nodup s i hv]
  split
  · rfl
  · next absent =>
    have : s.zones[i] = none := by simpa [State.configuredZones] using absent
    rw [this]
    rfl

/-- A zone's record apart from what is handed to it. -/
def ZoneRec.unhanded (r : ZoneRec) : ZoneRec := { r with summary := ⟨0, false, 0, 0⟩, selectorFault := false, mainFault := false }

theorem ZoneRec.unhanded_steady : Steady ZoneRec.unhanded := fun _ _ _ _ => rfl

/-- Settles O8. -/
theorem decisecondTickLowersCountdowns : Obligations.DecisecondTickLowersCountdowns := by
  intro s due
  obtain ⟨u, hu⟩ : ∃ u, u = ({ s with time := { s.time with dsDue := s.time.dsDue - 1 } } : State) := ⟨_, rfl⟩
  have run : exec .decisecondTick s = .next u.tickCountdowns := by
    rw [hu]
    exact congrArg _ (if_neg due)
  have zones (z : Zone) := u.tickCountdowns_view z ZoneRec.unhanded_steady
  have same : u.zones = s.zones := by rw [hu]
  have now : u.nowMs = s.nowMs := by rw [hu]; rfl
  rw [same, now] at zones
  refine ⟨_, run, ?_, fun z hz => ?_, fun z r hr => ?_⟩
  · apply State.ext_fields <;> simp [hu]
  · have := zones z
    rw [Option.isNone_iff_eq_none.1 hz] at this
    simpa using this
  · have becomes := zones z
    rw [hr] at becomes
    obtain ⟨x, hx, e⟩ := Option.map_eq_some_iff.1 becomes
    simp only [ZoneRec.unhanded, ZoneRec.mk.injEq] at e
    obtain ⟨cfg, state, kind, delay, remaining, start, hold, lines, alarms, -⟩ := e
    refine ⟨x, hx, ?_⟩
    rw [cfg, state, kind, delay, remaining, start, hold, lines, alarms]
    obtain ⟨kcfg, kkind, khold, klines, kalarms⟩ := r.ticked_keeps s.nowMs
    refine ⟨kcfg, kkind, khold, klines, kalarms, fun other => ?_, fun n counting left => ?_, fun counting last => ?_⟩
    · rw [ZoneRec.ticked, if_pos other]
      exact ⟨rfl, rfl, rfl, rfl⟩
    · rw [ZoneRec.ticked, if_neg (not_not.2 counting), left]
      exact ⟨counting, rfl, rfl⟩
    · rw [ZoneRec.ticked, if_neg (not_not.2 counting), last]
      exact ⟨rfl, rfl, rfl, rfl⟩

end Sys2Proof.Machine

namespace Sys2Proof.Machine

/-! ## Alarm records join and leave hold-source sets -/

/-- R109, R113: from `s` to `t` the record of zone `z` has turned from `r` into `y`. Where its state stands nothing else changes; else the zone has
changed into a barring state. -/
def HoldTurns (s t : State) (z : Zone) (r y : ZoneRec) : Prop :=
  t = { s with
      doors := t.doors, occupancy := t.occupancy, zones := t.zones, bus := t.bus, link := t.link, ports := t.ports } ∧
  t.occupancy.warning = s.occupancy.warning ∧
  (∀ w : Zone, w ≠ z → t.zones[w] = s.zones[w]) ∧
  (y.state = r.state → t = { s with zones := s.zones.put z (some y) }) ∧
  (y.state ≠ r.state → (∃ m, t.zones[z] = some { y with summary := m }) ∧
    t.link = s.link.shows z y (s.alarms.displayFlag z) s.occupancy.warning[z])

theorem HoldTurns.of_same {s : State} {z : Zone} {r y : ZoneRec} (h : y.state = r.state) :
    HoldTurns s { s with zones := s.zones.put z (some y) } z r y :=
  ⟨rfl, rfl, fun _ hw => Tab.getElem_put_of_ne hw, fun _ => rfl, fun hne => absurd h hne⟩

/-- R117, R118: a record that has changed in its place, and then its state, into a barring one. -/
theorem HoldTurns.of_ordered {s t : State} {z : Zone} {r x y : ZoneRec} {cause : ZoneCause} (hne : y.state ≠ r.state)
    (h : ZoneOrdered { s with zones := s.zones.put z (some x) } t z x y cause) : HoldTurns s t z r y := by
  obtain ⟨frame, same, handed, bodies, withdraws, -⟩ := h
  obtain ⟨-, -, occupancy, -⟩ := withdraws
  have zones : (∀ w : Zone, w ≠ z → t.zones[w] = s.zones[w]) ∧ ∃ m, t.zones[z] = some { y with summary := m } := by
    by_cases ordered : ∃ d x, s.doors[(d : Door)] = some x ∧ x.cfg.inside = z ∧ x.ordered y.state ≠ none
    · rw [handed ordered, Tab.put_put]
      exact ⟨fun w hw => Tab.getElem_put_of_ne hw, _, Tab.getElem_put_self ..⟩
    · rw [same ordered, Tab.put_put]
      exact ⟨fun w hw => Tab.getElem_put_of_ne hw, y.summary, Tab.getElem_put_self ..⟩
  have link : t.link = s.link.shows z y (s.alarms.displayFlag z) s.occupancy.warning[z] := by rw [frame]
  refine ⟨?_, by rw [occupancy], zones.1, fun e => absurd e hne, fun _ => ⟨zones.2, link⟩⟩
  conv_lhs => rw [frame]
  rw [link]

/-- R108, R109: a zone's record once an alarm record has joined its hold-source set. -/
def ZoneRec.joined (r : ZoneRec) (n : Nat) : ZoneRec :=
  { r with
    holdAlarms := if n ∈ r.holdAlarms then r.holdAlarms else r.holdAlarms ++ [n],
    state := if r.state = .countdown then .held else r.state }

/-- R108, R109, R113: a zone's record once an alarm record has left its hold-source set. -/
def ZoneRec.left (r : ZoneRec) (n : Nat) : ZoneRec :=
  let x : ZoneRec := { r with holdAlarms := r.holdAlarms.filter (· != n) }
  if x.state = .held ∧ x.noHold = true then x.resumed else x

theorem State.joinHoldAlarm_turns {s : State} {z : Zone} {r : ZoneRec} (h : s.zones[z] = some r) (n : Nat) :
    HoldTurns s (s.joinHoldAlarm z n) z r (r.joined n) := by
  obtain ⟨x, hx⟩ : ∃ x : ZoneRec, x = { r with holdAlarms := if n ∈ r.holdAlarms then r.holdAlarms else r.holdAlarms ++ [n] } := ⟨_, rfl⟩
  obtain ⟨u, hu⟩ : ∃ u : State, u = { s with zones := s.zones.put z (some x) } := ⟨_, rfl⟩
  have joins : s.joinHoldAlarm z n = u.afterJoin z := by
    simp only [State.joinHoldAlarm, hu, hx, State.updZone, h, Option.map_some]
  have here : u.zones[z] = some x := by rw [hu]; exact Tab.getElem_put_self ..
  have state : x.state = r.state := by rw [hx]
  rw [joins]
  by_cases counting : r.state = .countdown
  · have turns : u.afterJoin z = u.changeZone z .hold fun w => { w with state := .held } := by
      simp [State.afterJoin, here, state, counting]
    have y : r.joined n = { x with state := .held } := by simp only [ZoneRec.joined, if_pos counting, hx]
    rw [turns, y]
    refine HoldTurns.of_ordered (x := x) (cause := .hold) (by rw [counting]; nofun) ?_
    rw [← hu]
    exact State.changeZone_orders here .hold rfl (by rw [state, counting]; nofun)
  · have stays : u.afterJoin z = u := by simp [State.afterJoin, here, state, counting]
    have y : r.joined n = x := by simp only [ZoneRec.joined, if_neg counting, hx]
    rw [stays, y, hu]
    exact .of_same state

theorem State.leaveHoldAlarm_turns {s : State} {z : Zone} {r : ZoneRec} (h : s.zones[z] = some r) (n : Nat) :
    HoldTurns s (s.leaveHoldAlarm z n) z r (r.left n) := by
  obtain ⟨x, hx⟩ : ∃ x : ZoneRec, x = { r with holdAlarms := r.holdAlarms.filter (· != n) } := ⟨_, rfl⟩
  obtain ⟨u, hu⟩ : ∃ u : State, u = { s with zones := s.zones.put z (some x) } := ⟨_, rfl⟩
  have leaves : s.leaveHoldAlarm z n = u.afterLeave z := by
    simp only [State.leaveHoldAlarm, hu, hx, State.updZone, h, Option.map_some]
  have here : u.zones[z] = some x := by rw [hu]; exact Tab.getElem_put_self ..
  have state : x.state = r.state := by rw [hx]
  rw [leaves]
  by_cases freed : x.state = .held ∧ x.noHold = true
  · have turns : u.afterLeave z = u.changeZone z .holdReleased (·.resumed) := by
      simp [State.afterLeave, here, freed]
    have y : r.left n = x.resumed := by simp only [ZoneRec.left, ← hx]; exact if_pos (state ▸ freed)
    rw [turns, y]
    refine HoldTurns.of_ordered (x := x) (cause := .holdReleased) (by rw [← state, freed.1]; nofun) ?_
    rw [← hu]
    exact State.changeZone_orders here .holdReleased rfl (by rw [freed.1]; nofun)
  · have stays : u.afterLeave z = u := by
      have : ¬(x.state == .held && x.noHold) = true := by simpa using freed
      simp [State.afterLeave, here, this]
    have y : r.left n = x := by simp only [ZoneRec.left, ← hx]; exact if_neg (state ▸ freed)
    rw [stays, y, hu]
    exact .of_same state

/-- A record that is not configured is not changed. -/
theorem State.updZone_none {s : State} {z : Zone} (h : s.zones[z] = none) (f : ZoneRec → ZoneRec) : s.updZone z f = s := by
  have same : s.zones.put z none = s.zones := put_eq_self h.symm
  simp only [State.updZone, h, Option.map_none, same]

theorem State.joinHoldAlarm_none {s : State} {z : Zone} (h : s.zones[z] = none) (n : Nat) : s.joinHoldAlarm z n = s := by
  simp only [State.joinHoldAlarm, State.updZone_none h, State.afterJoin, h]
  rfl

theorem State.leaveHoldAlarm_none {s : State} {z : Zone} (h : s.zones[z] = none) (n : Nat) : s.leaveHoldAlarm z n = s := by
  simp only [State.leaveHoldAlarm, State.updZone_none h, State.afterLeave, h]
  rfl

/-! ## What becomes of a zone's hold-source set -/

theorem ZoneRec.holdsBecome_self (r : ZoneRec) : r.HoldsBecome r none none := by
  refine ⟨rfl, rfl, rfl, rfl, rfl, fun m => by simp, ?_⟩
  simp

/-- R109: where an alarm record has joined, the set is not empty, whatever has left it. -/
theorem ZoneRec.holdsBecome_of_join {r x : ZoneRec} {n : Nat} {leaves : Option Nat}
    (mem : ∀ m, m ∈ x.holdAlarms ↔ n = m ∨ (m ∈ r.holdAlarms ∧ leaves ≠ some m))
    (like : ∃ m, x = { r.joined n with holdAlarms := x.holdAlarms, summary := m })
    (same : r.state ≠ .countdown → x = { r with holdAlarms := x.holdAlarms }) : r.HoldsBecome x (some n) leaves := by
  obtain ⟨m, like⟩ := like
  have held : n ∈ x.holdAlarms := (mem n).2 (.inl rfl)
  have full : x.holdAlarms ≠ [] := List.ne_nil_of_mem held
  refine ⟨by rw [like]; rfl, by rw [like]; rfl, by rw [like]; rfl, by rw [like]; rfl, by rw [like]; rfl,
    fun k => by rw [mem k, Option.some_inj], ?_⟩
  by_cases counting : r.state = .countdown
  · rw [if_pos ⟨counting, nofun⟩, like]
    exact ⟨if_pos counting, rfl, rfl⟩
  · rw [if_neg fun h => counting h.1, if_neg fun h => full h.2.2.2]
    exact same counting

theorem ZoneRec.mem_joined (r : ZoneRec) (n m : Nat) : m ∈ (r.joined n).holdAlarms ↔ n = m ∨ m ∈ r.holdAlarms := by
  simp only [ZoneRec.joined]
  split
  · next h => exact ⟨.inr, fun e => e.elim (fun e => e ▸ h) id⟩
  · rw [List.mem_append, List.mem_singleton, or_comm, eq_comm]

theorem ZoneRec.left_holdAlarms (r : ZoneRec) (n : Nat) : (r.left n).holdAlarms = r.holdAlarms.filter (· != n) := by
  simp only [ZoneRec.left]
  split <;> rfl

/-- R113: an alarm record has left a hold-source set. -/
theorem ZoneRec.holdsBecome_of_leave {r x : ZoneRec} {n : Nat} (like : ∃ m, x = { r.left n with summary := m })
    (same : (r.left n).state = r.state → x = r.left n) : r.HoldsBecome x none (some n) := by
  obtain ⟨m, like⟩ := like
  have alarms : x.holdAlarms = r.holdAlarms.filter (· != n) := by rw [like]; exact r.left_holdAlarms n
  have mem (k : Nat) : k ∈ x.holdAlarms ↔ (none : Option Nat) = some k ∨ (k ∈ r.holdAlarms ∧ some n ≠ some k) := by
    simp only [alarms, List.mem_filter, bne_iff_ne, reduceCtorEq, false_or, ne_eq, Option.some.injEq]
    exact and_congr_right fun _ => not_congr eq_comm
  by_cases freed : r.state = .held ∧ ({ r with holdAlarms := r.holdAlarms.filter (· != n) } : ZoneRec).noHold = true
  · have y : r.left n = ({ r with holdAlarms := r.holdAlarms.filter (· != n) } : ZoneRec).resumed := if_pos freed
    rw [y] at like
    obtain ⟨lines, none_⟩ : r.holdLines = [] ∧ r.holdAlarms.filter (· != n) = [] := by
      simpa only [ZoneRec.noHold, Bool.and_eq_true, List.isEmpty_iff] using freed.2
    have xlines : x.holdLines = r.holdLines := by rw [like]; rfl
    refine ⟨by rw [like]; rfl, by rw [like]; rfl, by rw [like]; rfl, xlines, by rw [like]; rfl, mem, ?_⟩
    rw [if_neg fun h => h.2 rfl, if_pos ⟨freed.1, nofun, xlines.trans lines, alarms.trans none_⟩, like]
    exact ⟨rfl, rfl, rfl⟩
  · have y : r.left n = { r with holdAlarms := r.holdAlarms.filter (· != n) } := if_neg freed
    rw [y] at same
    have like := same rfl
    have xlines : x.holdLines = r.holdLines := by rw [like]
    refine ⟨by rw [like], by rw [like], by rw [like], xlines, by rw [like], mem, ?_⟩
    have : ¬(r.state = .held ∧ (some n : Option Nat) ≠ none ∧ x.holdLines = [] ∧ x.holdAlarms = []) := fun h =>
      freed ⟨h.1, by
        obtain ⟨-, -, lines, none_⟩ := h
        simp only [ZoneRec.noHold, ← alarms, none_, ← xlines, lines, List.isEmpty_nil, Bool.and_self]⟩
    rw [if_neg fun h => h.2 rfl, if_neg this, alarms]
    exact like

/-- R161: from `s` to `t` the alarm records numbered by `joins` have joined the hold-source sets of their zones, and those numbered by `leaves` have
left them. -/
def HoldsHanded (s t : State) (joins leaves : Zone → Option Nat) : Prop :=
  t = { s with
      doors := t.doors, occupancy := t.occupancy, zones := t.zones, bus := t.bus,
      link := { s.link with panels := t.link.panels }, ports := t.ports } ∧
  t.occupancy.warning = s.occupancy.warning ∧
  (∀ z : Zone, s.zones[z] = none ∨ (joins z = none ∧ leaves z = none) →
    t.zones[z] = s.zones[z] ∧ t.link.panels[z] = s.link.panels[z]) ∧
  (∀ (z : Zone) r, s.zones[z] = some r → ∃ x, t.zones[z] = some x ∧ r.HoldsBecome x (joins z) (leaves z) ∧
    (t.link.panels[z] = s.link.panels[z] ∨
      t.link.panels[z] = (s.link.shows z x (s.alarms.displayFlag z) s.occupancy.warning[z]).panels[z])) ∧
  ((∀ z : Zone, (t.zones[z]).map (fun r => r.state) = (s.zones[z]).map fun r => r.state) → t = { s with zones := t.zones })

theorem HoldsHanded.of_unconfigured {s : State} {joins leaves : Zone → Option Nat}
    (h : ∀ (z : Zone), joins z ≠ none ∨ leaves z ≠ none → s.zones[z] = none) : HoldsHanded s s joins leaves := by
  refine ⟨rfl, rfl, fun _ _ => ⟨rfl, rfl⟩, fun z r hr => ⟨r, hr, ?_, .inl rfl⟩, fun _ => rfl⟩
  have unmoved : joins z = none ∧ leaves z = none := by
    by_contra hne
    have := h z (by tauto)
    rw [hr] at this
    cases this
  rw [unmoved.1, unmoved.2]
  exact r.holdsBecome_self

/-- R161: one zone's set changes. -/
theorem HoldsHanded.of_turns {s t : State} {a : Zone} {r y : ZoneRec} {joins leaves : Zone → Option Nat} (hr : s.zones[a] = some r)
    (h : HoldTurns s t a r y) (moved : joins a ≠ none ∨ leaves a ≠ none) (others : ∀ z, z ≠ a → joins z = none ∧ leaves z = none)
    (becomes : ∀ x : ZoneRec, (∃ m, x = { y with summary := m }) → (y.state = r.state → x = y) →
      r.HoldsBecome x (joins a) (leaves a)) : HoldsHanded s t joins leaves := by
  obtain ⟨frame, warning, apart, same, turned⟩ := h
  have elsewhere {z : Zone} (h : s.zones[z] = none ∨ (joins z = none ∧ leaves z = none)) : z ≠ a := by
    rintro rfl
    obtain h | ⟨hj, hl⟩ := h
    · rw [h] at hr
      cases hr
    · exact moved.elim (absurd hj) (absurd hl)
  by_cases state : y.state = r.state
  · rw [same state]
    refine ⟨rfl, rfl, fun z hz => ⟨Tab.getElem_put_of_ne (elsewhere hz), rfl⟩, fun z w hw => ?_, fun _ => rfl⟩
    by_cases e : z = a
    · subst e
      obtain rfl := Option.some.inj (hw.symm.trans hr)
      exact ⟨y, Tab.getElem_put_self .., becomes y ⟨y.summary, rfl⟩ fun _ => rfl, .inl rfl⟩
    · refine ⟨w, (Tab.getElem_put_of_ne e).trans hw, ?_, .inl rfl⟩
      rw [(others z e).1, (others z e).2]
      exact w.holdsBecome_self
  · obtain ⟨⟨m, here⟩, link⟩ := turned state
    have panels (z : Zone) (hz : z ≠ a) : t.link.panels[z] = s.link.panels[z] := by
      rw [link]
      exact Tab.getElem_put_of_ne hz
    refine ⟨?_, warning, fun z hz => ⟨apart z (elsewhere hz), panels z (elsewhere hz)⟩, fun z w hw => ?_, fun states => ?_⟩
    · have : ({ s.link with panels := t.link.panels } : Link) = t.link := by
        rw [link]
        rfl
      rw [this]
      exact frame
    · by_cases e : z = a
      · subst e
        obtain rfl := Option.some.inj (hw.symm.trans hr)
        exact ⟨_, here, becomes _ ⟨m, rfl⟩ fun e => absurd e state, .inr (by rw [link]; rfl)⟩
      · refine ⟨w, (apart z e).trans hw, ?_, .inl (panels z e)⟩
        rw [(others z e).1, (others z e).2]
        exact w.holdsBecome_self
    · have := states a
      rw [here, hr] at this
      exact absurd (Option.some.inj this) state

/-- R161: sets of different zones change one after the other. -/
theorem HoldsHanded.trans {s u t : State} {joins leaves : Zone → Option Nat} (h : HoldsHanded s u joins fun _ => none)
    (h' : HoldsHanded u t (fun _ => none) leaves) (apart : ∀ z, joins z = none ∨ leaves z = none) : HoldsHanded s t joins leaves := by
  obtain ⟨frame, warning, still, moves, same⟩ := h
  obtain ⟨frame', warning', still', moves', same'⟩ := h'
  have alarms : u.alarms = s.alarms := by rw [frame]
  have link : ({ u.link with panels := t.link.panels } : Link) = { s.link with panels := t.link.panels } := by rw [frame]
  refine ⟨?_, warning'.trans warning, fun z hz => ?_, fun z r hr => ?_, fun states => ?_⟩
  · conv_lhs => rw [frame', link, frame]
  · have first := still z (hz.imp_right fun h => ⟨h.1, rfl⟩)
    have second := still' z (hz.imp (fun h => first.1.trans h) fun h => ⟨rfl, h.2⟩)
    exact ⟨second.1.trans first.1, second.2.trans first.2⟩
  · obtain hj | hl := apart z
    · obtain ⟨zones, panels⟩ := still z (.inr ⟨hj, rfl⟩)
      obtain ⟨x, hx, becomes, shown⟩ := moves' z r (zones.trans hr)
      refine ⟨x, hx, hj ▸ becomes, ?_⟩
      simp only [Link.shows, Tab.getElem_put_self, alarms, warning, panels] at shown ⊢
      exact shown
    · obtain ⟨x, hx, becomes, shown⟩ := moves z r hr
      obtain ⟨zones, panels⟩ := still' z (.inr ⟨rfl, hl⟩)
      exact ⟨x, zones.trans hx, hl ▸ becomes, by rwa [panels]⟩
  · have middle (z : Zone) : (u.zones[z]).map (fun r => r.state) = (s.zones[z]).map fun r => r.state := by
      obtain hj | hl := apart z
      · rw [(still z (.inr ⟨hj, rfl⟩)).1]
      · rw [← (still' z (.inr ⟨rfl, hl⟩)).1]
        exact states z
    have second := same' fun z => (states z).trans (middle z).symm
    rw [same middle] at second
    exact second

/-- R161: the zones whose sets an alarm record joins or leaves. -/
def AlarmRec.holdsAt (r : AlarmRec) (z : Zone) : Option Nat := if r.kind.holds = true ∧ r.zone = some z then some r.number else none

theorem AlarmRec.holdsAt_none {r : AlarmRec} (h : r.kind.holds = false ∨ r.zone = none) : r.holdsAt = fun _ => none := by
  funext z
  refine if_neg fun ⟨holds, zone⟩ => ?_
  obtain h | h := h
  · rw [h] at holds
    cases holds
  · rw [h] at zone
    cases zone

theorem AlarmRec.holdsAt_here {r : AlarmRec} {a : Zone} (holds : r.kind.holds = true) (zone : r.zone = some a) : r.holdsAt a = some r.number :=
  if_pos ⟨holds, zone⟩

theorem AlarmRec.holdsAt_other {r : AlarmRec} {a : Zone} (zone : r.zone = some a) {z : Zone} (h : z ≠ a) : r.holdsAt z = none :=
  if_neg fun ⟨_, e⟩ => h (Option.some.inj (e.symm.trans zone))

/-- R161: an alarm record joins the hold-source set of its zone. -/
theorem State.joinAlarm_handed (s : State) (r : AlarmRec) : HoldsHanded s (s.joinAlarm r) r.holdsAt fun _ => none := by
  unfold State.joinAlarm
  split
  · next a zone =>
    split
    · next holds =>
      cases hx : s.zones[a] with
      | none =>
        rw [State.joinHoldAlarm_none hx]
        refine .of_unconfigured fun z hz => ?_
        by_cases e : z = a
        · exact e ▸ hx
        · exact absurd (AlarmRec.holdsAt_other zone e) (hz.resolve_right fun h => h rfl)
      | some x =>
        refine .of_turns hx (State.joinHoldAlarm_turns hx r.number) (.inl ?_) (fun z e => ⟨AlarmRec.holdsAt_other zone e, rfl⟩) fun y like same => ?_
        · rw [AlarmRec.holdsAt_here holds zone]
          nofun
        · rw [AlarmRec.holdsAt_here holds zone]
          have alarms : y.holdAlarms = (x.joined r.number).holdAlarms := by
            obtain ⟨m, rfl⟩ := like
            rfl
          refine ZoneRec.holdsBecome_of_join (fun m => ?_) ?_ fun counting => ?_
          · rw [alarms, ZoneRec.mem_joined]
            simp
          · obtain ⟨m, rfl⟩ := like
            exact ⟨m, rfl⟩
          · have state : (x.joined r.number).state = x.state := if_neg counting
            rw [same state]
            simp only [ZoneRec.joined, if_neg counting]
    · next holds => exact .of_unconfigured (by simp [AlarmRec.holdsAt_none (.inl (Bool.eq_false_iff.2 holds))])
  · next zone => exact .of_unconfigured (by simp [AlarmRec.holdsAt_none (.inr zone)])

/-- R161: an alarm record leaves the hold-source set of its zone. -/
theorem State.leaveAlarm_handed (s : State) (r : AlarmRec) : HoldsHanded s (s.leaveAlarm r) (fun _ => none) r.holdsAt := by
  unfold State.leaveAlarm
  split
  · next a zone =>
    split
    · next holds =>
      cases hx : s.zones[a] with
      | none =>
        rw [State.leaveHoldAlarm_none hx]
        refine .of_unconfigured fun z hz => ?_
        by_cases e : z = a
        · exact e ▸ hx
        · exact absurd (AlarmRec.holdsAt_other zone e) (hz.resolve_left fun h => h rfl)
      | some x =>
        refine .of_turns hx (State.leaveHoldAlarm_turns hx r.number) (.inr ?_) (fun z e => ⟨rfl, AlarmRec.holdsAt_other zone e⟩) fun y like same => ?_
        · rw [AlarmRec.holdsAt_here holds zone]
          nofun
        · rw [AlarmRec.holdsAt_here holds zone]
          exact ZoneRec.holdsBecome_of_leave like same
    · next holds => exact .of_unconfigured (by simp [AlarmRec.holdsAt_none (.inl (Bool.eq_false_iff.2 holds))])
  · next zone => exact .of_unconfigured (by simp [AlarmRec.holdsAt_none (.inr zone)])

/-- R109: an alarm record leaves a set that another has just joined, which is not empty then. -/
theorem HoldTurns.joined_left {s u : State} {a : Zone} {r : ZoneRec} {n m : Nat} (h : HoldTurns s u a r (r.joined n)) (hne : n ≠ m) :
    HoldTurns s (u.leaveHoldAlarm a m) a r { r.joined n with holdAlarms := (r.joined n).holdAlarms.filter (· != m) } := by
  have stays (w : ZoneRec) (alarms : w.holdAlarms = (r.joined n).holdAlarms) :
      w.left m = { w with holdAlarms := (r.joined n).holdAlarms.filter (· != m) } := by
    have held : n ∈ w.holdAlarms.filter (· != m) := by
      rw [alarms, List.mem_filter, ZoneRec.mem_joined]
      exact ⟨.inl rfl, by simpa using hne⟩
    have full : ¬({ w with holdAlarms := w.holdAlarms.filter (· != m) } : ZoneRec).noHold = true := fun h => by
      simp only [ZoneRec.noHold, Bool.and_eq_true, List.isEmpty_iff] at h
      exact List.ne_nil_of_mem held h.2
    rw [← alarms]
    exact if_neg fun h => full h.2
  obtain ⟨frame, warning, apart, same, turned⟩ := h
  by_cases state : (r.joined n).state = r.state
  · have hu := same state
    have here : u.zones[a] = some (r.joined n) := by rw [hu]; exact Tab.getElem_put_self ..
    obtain ⟨-, -, -, leaves, -⟩ := State.leaveHoldAlarm_turns here m
    rw [leaves (by rw [stays _ rfl]), stays _ rfl, hu]
    simp only [Tab.put_put]
    exact .of_same state
  · obtain ⟨⟨summary, here⟩, link⟩ := turned state
    obtain ⟨w, hw⟩ : ∃ w, w = { r.joined n with summary := summary } := ⟨_, rfl⟩
    rw [← hw] at here
    obtain ⟨-, -, -, leaves, -⟩ := State.leaveHoldAlarm_turns here m
    have left := stays w (by rw [hw])
    rw [leaves (by rw [left]), left]
    refine ⟨?_, warning, fun w hw => (Tab.getElem_put_of_ne hw).trans (apart w hw), fun e => absurd e state, fun _ => ⟨⟨summary, ?_⟩, link⟩⟩
    · conv_lhs => rw [frame]
    · rw [hw]
      exact Tab.getElem_put_self ..

/-- R160, R161: a new record joins its zone's hold-source set, and the one that it replaces leaves it. -/
theorem State.handReplacement_handed (s : State) (old new : AlarmRec) : HoldsHanded s (s.handReplacement old new) new.holdsAt old.holdsAt := by
  by_cases apart : ∀ z, new.holdsAt z = none ∨ old.holdsAt z = none
  · have both : s.handReplacement old new = (s.joinAlarm new).leaveAlarm old := by
      simp only [State.handReplacement]
      split
      · next e =>
        simp only [AlarmRec.holds, Bool.and_eq_true, decide_eq_true_eq, Option.isSome_iff_exists] at e
        obtain ⟨⟨⟨⟨a, zone⟩, holds⟩, same⟩, -⟩ := e
        have : ¬old.kind.holds = true := fun h => by
          obtain e | e := apart a
          · rw [AlarmRec.holdsAt_here holds zone] at e
            cases e
          · rw [AlarmRec.holdsAt_here h (same.trans zone)] at e
            cases e
        simp only [State.leaveAlarm, same, zone, if_neg this]
      · rfl
    rw [both]
    exact (s.joinAlarm_handed new).trans (State.leaveAlarm_handed _ old) apart
  · obtain ⟨a, hj, hl⟩ : ∃ a, new.holdsAt a ≠ none ∧ old.holdsAt a ≠ none := by simpa using apart
    have taken {r : AlarmRec} (h : r.holdsAt a ≠ none) : r.kind.holds = true ∧ r.zone = some a := by
      by_contra hne
      exact h (if_neg hne)
    obtain ⟨holds, zone⟩ := taken hj
    obtain ⟨held, from_⟩ := taken hl
    have others (z : Zone) (h : z ≠ a) : new.holdsAt z = none ∧ old.holdsAt z = none :=
      ⟨AlarmRec.holdsAt_other zone h, AlarmRec.holdsAt_other from_ h⟩
    have joins : s.joinAlarm new = s.joinHoldAlarm a new.number := by simp only [State.joinAlarm, zone, holds, if_true]
    have hands : s.handReplacement old new =
        if old.number = new.number then s.joinHoldAlarm a new.number else (s.joinHoldAlarm a new.number).leaveHoldAlarm a old.number := by
      simp [State.handReplacement, joins, AlarmRec.holds, zone, holds, from_, held, State.leaveAlarm]
    rw [hands]
    cases hx : s.zones[a] with
    | none =>
      have : ∀ z, new.holdsAt z ≠ none ∨ old.holdsAt z ≠ none → s.zones[z] = none := fun z hz => by
        by_cases e : z = a
        · exact e ▸ hx
        · exact absurd (others z e) (by tauto)
      rw [State.joinHoldAlarm_none hx, State.leaveHoldAlarm_none hx, ite_self]
      exact .of_unconfigured this
    | some x =>
      have turns := State.joinHoldAlarm_turns hx new.number
      split
      · next e =>
        refine .of_turns hx turns (.inl hj) others fun y like same => ?_
        rw [AlarmRec.holdsAt_here holds zone, AlarmRec.holdsAt_here held from_, e]
        obtain ⟨summary, rfl⟩ := like
        refine ZoneRec.holdsBecome_of_join (fun m => ?_) ⟨summary, rfl⟩ fun counting => ?_
        · rw [ZoneRec.mem_joined, ne_eq, Option.some_inj]
          tauto
        · have stays : (x.joined new.number).state = x.state := if_neg counting
          rw [same stays]
          simp only [ZoneRec.joined, if_neg counting]
      · next e =>
        refine .of_turns hx (turns.joined_left (Ne.symm e)) (.inl hj) others fun y like same => ?_
        rw [AlarmRec.holdsAt_here holds zone, AlarmRec.holdsAt_here held from_]
        obtain ⟨summary, rfl⟩ := like
        refine ZoneRec.holdsBecome_of_join (fun m => ?_) ⟨summary, rfl⟩ fun counting => ?_
        · simp only [List.mem_filter, ZoneRec.mem_joined, bne_iff_ne, ne_eq, Option.some_inj]
          grind
        · have stays : (x.joined new.number).state = x.state := if_neg counting
          rw [same stays]
          simp only [ZoneRec.joined, if_neg counting]

/-! ## Panels of the zones of alarm records -/

/-- R171: a panel that takes what it shows already is left as it is. -/
theorem PanelRec.show_show (p : PanelRec) (display : Display) (a b : Nat) : (p.show display a).show display b = p.show display b := by
  by_cases same : p.display = display
  · simp only [PanelRec.show, if_pos same]
  · simp only [PanelRec.show, if_neg same, if_true]

/-- R170: the panels after those of an alarm record's zone are found afresh. -/
theorem State.refreshAlarmPanel_panels (s : State) (zone : Option Zone) :
    let t := s.refreshAlarmPanel zone
    t = { s with link := { s.link with panels := t.link.panels } } ∧
      ∀ z : Zone, t.link.panels[z] =
        if zone = some z then
          match s.zones[z] with
          | none => s.link.panels[z]
          | some x => (s.link.shows z x (s.alarms.displayFlag z) s.occupancy.warning[z]).panels[z]
        else s.link.panels[z] := by
  intro t
  cases zone with
  | none => exact ⟨rfl, fun z => (if_neg nofun).symm⟩
  | some a =>
    have ht : t = s.refreshPanel a := rfl
    cases hx : s.zones[a] with
    | none =>
      have same : t = s := by simp only [ht, State.refreshPanel, hx]
      rw [same]
      refine ⟨rfl, fun z => ?_⟩
      split
      · next e =>
        obtain rfl := Option.some.inj e
        rw [hx]
      · rfl
    | some x =>
      have link := State.refreshPanel_link s a x hx
      rw [← ht] at link
      refine ⟨?_, fun z => ?_⟩
      · have : ({ s.link with panels := t.link.panels } : Link) = t.link := by
          rw [link]
          rfl
        rw [this]
        apply State.ext_fields <;> simp [ht]
      · rw [link]
        split
        · next e =>
          obtain rfl := Option.some.inj e
          rw [hx]
        · next e => exact Tab.getElem_put_of_ne fun h => e (h ▸ rfl)

/-- R171: a panel shown what a zone record gives, once more or not, shows it. -/
theorem Link.shows_panels_again {l l' : Link} {z : Zone} {x : ZoneRec} {alarm warning : Bool}
    (h : l'.panels[z] = l.panels[z] ∨ l'.panels[z] = (l.shows z x alarm warning).panels[z]) :
    (l'.shows z x alarm warning).panels[z] = (l.shows z x alarm warning).panels[z] := by
  simp only [Link.shows, Tab.getElem_put_self] at h ⊢
  obtain h | h := h
  · rw [h]
  · rw [h, Option.map_map]
    congr 1
    funext p
    exact p.show_show ..

/-- R170: nothing but panels changes where the panels of two zones are found afresh. -/
theorem State.refreshAlarmPanels (w : State) (before zone : Option Zone) :
    let t := (w.refreshAlarmPanel before).refreshAlarmPanel zone
    t = { w with link := t.link } ∧ t.link = { w.link with panels := t.link.panels } := by
  obtain ⟨u, hu⟩ : ∃ u, u = w.refreshAlarmPanel before := ⟨_, rfl⟩
  obtain ⟨t, ht⟩ : ∃ t, t = u.refreshAlarmPanel zone := ⟨_, rfl⟩
  obtain ⟨first, -⟩ := w.refreshAlarmPanel_panels before
  obtain ⟨second, -⟩ := u.refreshAlarmPanel_panels zone
  rw [← hu] at first
  rw [← ht] at second
  rw [← hu, ← ht]
  have ulink : u.link = { w.link with panels := u.link.panels } := congrArg State.link first
  have link : t.link = { w.link with panels := t.link.panels } := by
    refine (congrArg State.link second).trans ?_
    dsimp only
    rw [ulink]
  refine ⟨?_, link⟩
  rw [link]
  conv_lhs => rw [second, first]

section
variable {s w : State} {joins leaves : Zone → Option Nat} (handed : HoldsHanded s w joins leaves) (before zone : Option Zone)
  (moves : ∀ z, ¬(zone = some z ∨ before = some z) → joins z = none ∧ leaves z = none)
include handed moves

/-- R161, R170: what the panels show once the alarm displays of two zones have been handed over. -/
theorem HoldsHanded.panels (z : Zone) :
    let t := (w.refreshAlarmPanel before).refreshAlarmPanel zone
    t.link.panels[z] =
      if zone = some z ∨ before = some z then
        match t.zones[z] with
        | none => s.link.panels[z]
        | some x => (s.link.shows z x (t.alarms.displayFlag z) s.occupancy.warning[z]).panels[z]
      else s.link.panels[z] := by
  intro t
  obtain ⟨u, hu⟩ : ∃ u, u = w.refreshAlarmPanel before := ⟨_, rfl⟩
  have ht : t = u.refreshAlarmPanel zone := by rw [hu]
  obtain ⟨frame₁, panels₁⟩ := w.refreshAlarmPanel_panels before
  obtain ⟨frame₂, panels₂⟩ := u.refreshAlarmPanel_panels zone
  rw [← ht] at frame₂ panels₂
  rw [← hu] at frame₁ panels₁
  obtain ⟨frame, warning, still, moved, -⟩ := handed
  have uzones : u.zones = w.zones := by rw [frame₁]
  have ualarms : u.alarms = s.alarms := by rw [frame₁, frame]
  have uwarning : u.occupancy.warning = s.occupancy.warning := by rw [frame₁]; exact warning
  have walarms : w.alarms = s.alarms := by rw [frame]
  have tzones : t.zones = w.zones := by rw [frame₂]; exact uzones
  have talarms : t.alarms = s.alarms := by rw [frame₂]; exact ualarms
  have first := panels₁ z
  rw [panels₂ z, uzones, ualarms, uwarning, tzones, talarms]
  rw [walarms, warning] at first
  cases hs : s.zones[z] with
  | none =>
    obtain ⟨zones, panels⟩ := still z (.inl hs)
    have wz : w.zones[z] = none := zones.trans hs
    rw [wz, panels] at first
    have : u.link.panels[z] = s.link.panels[z] := by
      rw [first]
      split <;> rfl
    rw [wz, this, ite_self, ite_self]
  | some r =>
    obtain ⟨x, hx, -, shown⟩ := moved z r hs
    rw [hx] at first ⊢
    dsimp only at first ⊢
    by_cases hb : before = some z
    · rw [if_pos hb] at first
      have again : u.link.panels[z] = (s.link.shows z x (s.alarms.displayFlag z) s.occupancy.warning[z]).panels[z] :=
        first.trans (Link.shows_panels_again shown)
      rw [if_pos (Or.inr hb : zone = some z ∨ before = some z)]
      split
      · exact Link.shows_panels_again (.inr again)
      · exact again
    · rw [if_neg hb] at first
      by_cases hz : zone = some z
      · rw [if_pos hz, if_pos (Or.inl hz : zone = some z ∨ before = some z)]
        exact Link.shows_panels_again (first ▸ shown)
      · rw [if_neg hz, if_neg (by tauto), first]
        exact (still z (.inr (moves z (by tauto)))).2

end

/-- R157, R160, R161: a new record has joined the list, and then the hold-source sets of the zones concerned, and their panels. -/
theorem alarmJoins_of_handed {s v w : State} {kind : AlarmKind} {source : AlarmSource} {zone : Option Zone} {rest : List AlarmRec}
    {old : Option AlarmRec} {n : Nat} (number : FirstFree s.alarms.nextNumber rest n)
    (hv : v = { s with
      alarms :=
        { s.alarms with
          records := rest ++ [⟨n, kind, source, zone, s.nowSec, s.nowSec, false, !kind.latched⟩], nextNumber := (n + 1) % 256 },
      ports := v.ports })
    (told : QueuesGain s v
      (old.toList.map (fun o =>
          .alarmChanged o.number o.kind o.source o.zone .replaced o.acknowledged o.condition o.lastSeen (s.sourceZone o.source))
        ++ [.alarmRaised n kind source zone s.nowSec (!kind.latched) (s.sourceZone source)]))
    {leaves : Zone → Option Nat} (leaving : ∀ z, leaves z = (old.filter fun o => o.kind.holds = true ∧ o.zone = some z).map fun o => o.number)
    (handed : HoldsHanded v w (fun z => if kind.holds = true ∧ zone = some z then some n else none) leaves) :
    AlarmJoins s ((w.refreshAlarmPanel (old.bind fun o => o.zone)).refreshAlarmPanel zone) kind source zone rest old := by
  obtain ⟨before, hb⟩ : ∃ before, before = old.bind fun o => o.zone := ⟨_, rfl⟩
  have moves (z : Zone) (h : ¬(zone = some z ∨ before = some z)) :
      (if kind.holds = true ∧ zone = some z then some n else none) = none ∧ leaves z = none := by
    refine ⟨if_neg fun e => h (.inl e.2), ?_⟩
    rw [leaving z]
    cases old with
    | none => rfl
    | some o =>
      have : o.zone ≠ some z := fun e => h (.inr (hb.trans e))
      simp [Option.filter_some, this]
  have panels := handed.panels before zone moves
  obtain ⟨last, tlink⟩ := w.refreshAlarmPanels before zone
  rw [← hb]
  obtain ⟨t, ht⟩ : ∃ t, t = (w.refreshAlarmPanel before).refreshAlarmPanel zone := ⟨_, rfl⟩
  rw [← ht] at last tlink panels ⊢
  obtain ⟨frame, warning, still, moved, same⟩ := handed
  have vzones : v.zones = s.zones := by rw [hv]
  have vlink : v.link = s.link := by rw [hv]
  have vocc : v.occupancy = s.occupancy := by rw [hv]
  have vtime : v.time = s.time := by rw [hv]
  have tzones : t.zones = w.zones := by rw [last]
  have tports : t.ports = w.ports := by rw [last]
  have any (z : Zone) : (old.any fun o => o.zone = some z) = true ↔ before = some z := by
    rw [hb]
    cases old <;> simp
  refine ⟨n, number, ?_, fun z hz => ?_, fun z r hr => ?_, fun z => ?_, fun states => ?_⟩
  · have tdoors : t.doors = w.doors := by rw [last]
    have tocc : t.occupancy = w.occupancy := by rw [last]
    have tbus : t.bus = w.bus := by rw [last]
    rw [tdoors, tocc, tbus, tzones, tports]
    conv_lhs => rw [last, frame, hv]
  · rw [tzones, (still z (.inl (vzones ▸ hz))).1, vzones, hz]
  · obtain ⟨x, hx, becomes, -⟩ := moved z r (vzones ▸ hr)
    rw [leaving z] at becomes
    exact ⟨x, tzones ▸ hx, becomes⟩
  · have := panels z
    rw [vlink, vocc] at this
    simp only [any]
    exact this
  · have unturned := same fun z => by
      rw [← tzones, vzones]
      exact states z
    have wlink : w.link = s.link := by rw [unturned]; exact vlink
    have wports : w.ports = v.ports := by rw [unturned]
    have talarms : t.alarms = v.alarms := by rw [last, unturned]
    refine ⟨?_, told.congr rfl rfl (tports.trans wports)⟩
    rw [← wlink, ← tlink, talarms, tzones, tports, wports]
    conv_lhs => rw [last, unturned, hv]
    rw [hv]

/-! ## Raises -/

/-- R155: the records of one kind and source are one. -/
theorem Alarms.Sound.eq_of_source {a : Alarms} (h : a.Sound) {r x : AlarmRec} (hr : r ∈ a.records) (hx : x ∈ a.records)
    (kind : x.kind = r.kind) (source : x.source = r.source) : x = r := by
  have sources : (a.records.map fun x => (x.kind, x.source)).Nodup :=
    List.pairwise_map.2 (h.distinct.imp fun d e => d.2 (Prod.mk.inj e))
  exact List.inj_on_of_nodup_map sources hx hr (Prod.ext kind source)

/-- R157: a record replaced by its number is replaced in its place. -/
theorem Alarms.Sound.replace_records {a : Alarms} (h : a.Sound) {old r : AlarmRec} (ho : old ∈ a.records) (number : r.number = old.number) :
    (a.replace r).records = a.records.map fun x => if x = old then r else x := by
  refine List.map_congr_left fun x hx => ?_
  rw [number]
  by_cases e : x = old
  · rw [if_pos e, if_pos (e ▸ rfl)]
  · rw [if_neg e, if_neg fun e' => e (h.eq_of_number ho hx e')]

/-- R160: a record leaves the list alone. -/
theorem Alarms.Sound.drop_records {a : Alarms} (h : a.Sound) {front back : List AlarmRec} {old : AlarmRec}
    (split : a.records = front ++ old :: back) : a.records.filter (·.number != old.number) = front ++ back := by
  have distinct := h.distinct
  rw [split, List.pairwise_append, List.pairwise_cons] at distinct
  obtain ⟨-, ⟨after, -⟩, apart⟩ := distinct
  rw [split, List.filter_append, List.filter_cons]
  simp only [bne_self_eq_false, Bool.false_eq_true, if_false]
  congr 1
  · exact List.filter_eq_self.2 fun x hx => bne_iff_ne.2 (apart x hx old (List.mem_cons_self ..)).1
  · exact List.filter_eq_self.2 fun x hx => bne_iff_ne.2 (after x hx).1.symm

/-- R157: the new record of a raise joins the list. -/
theorem State.appendAlarm_joins {s : State} (rest : s.alarms.records.length ≤ 32) (kind : AlarmKind) (source : AlarmSource) (zone : Option Zone) :
    let n := s.alarms.freeNumber
    let v := s.appendAlarm (s.newAlarm kind source zone)
    FirstFree s.alarms.nextNumber s.alarms.records n ∧
      v = { s with
        alarms :=
          { s.alarms with
            records := s.alarms.records ++ [⟨n, kind, source, zone, s.nowSec, s.nowSec, false, !kind.latched⟩], nextNumber := (n + 1) % 256 },
        ports := v.ports } ∧
      QueuesGain s v [.alarmRaised n kind source zone s.nowSec (!kind.latched) (s.sourceZone source)] := by
  refine ⟨s.alarms.freeNumber_firstFree rest, ?_, ?_⟩
  · apply State.ext_fields <;> simp [State.newAlarm]
    simp [State.appendAlarm]
  · exact (State.notify_gains (s.updAlarms _) _).congr rfl rfl rfl

/-- R155 to R161: all that a raise does. -/
theorem State.raiseAlarm_raises {s : State} (sound : AlarmListSound s) (kind : AlarmKind) (source : AlarmSource) (zone : Option Zone) :
    Raises s (s.raiseAlarm kind source zone) kind source zone := by
  have sound' := (alarmListSound_iff s).1 sound
  refine ⟨fun old ho hk hs => ?_, fun fresh => ?_⟩
  · have found : s.alarms.records.find? (fun r => r.kind = kind && r.source = source) = some old := by
      cases hf : s.alarms.records.find? (fun r => r.kind = kind && r.source = source) with
      | none =>
        rw [List.find?_eq_none] at hf
        simpa [hk, hs] using hf old ho
      | some x =>
        have match_ : x.kind = kind ∧ x.source = source := by simpa using List.find?_some hf
        rw [sound'.eq_of_source ho (List.mem_of_find?_eq_some hf) (match_.1.trans hk.symm) (match_.2.trans hs.symm)]
    subst hk hs
    have repeats : s.raiseAlarm old.kind old.source zone =
        (s.updAlarms (·.replace (old.repeated s.nowSec))).notifyChanged (old.repeated s.nowSec) .repeated := by
      unfold State.raiseAlarm
      rw [found]
    have records := sound'.replace_records (r := old.repeated s.nowSec) ho rfl
    rw [repeats]
    refine ⟨?_, (State.notify_gains (s.updAlarms _) _).congr rfl rfl rfl⟩
    apply State.ext_fields <;> simp [State.notifyChanged]
    rw [← AlarmRec.repeated, ← records]
    rfl
  · have none_ : s.alarms.records.find? (fun r => r.kind = kind && r.source = source) = none := by
      rw [List.find?_eq_none]
      intro r hr
      simpa using fresh r hr
    refine ⟨fun room => ?_, fun full => ⟨fun front old back split replaceable before => ?_, fun stuck => ?_⟩⟩
    · obtain ⟨number, frame, told⟩ := State.appendAlarm_joins (s := s) room.le kind source zone
      have joins : s.raiseAlarm kind source zone =
          ((s.appendAlarm (s.newAlarm kind source zone)).joinAlarm (s.newAlarm kind source zone)).refreshAlarmPanel zone := by
        unfold State.raiseAlarm
        rw [none_]
        exact if_pos room
      rw [joins]
      exact alarmJoins_of_handed (old := none) number frame told (fun _ => rfl) (State.joinAlarm_handed _ _)
    · obtain ⟨s1, hs1⟩ : ∃ s1, s1 = (s.dropAlarm old).notifyChanged old .replaced := ⟨_, rfl⟩
      have found : s.alarms.records.find? (fun r => r.replaceable) = some old := by
        rw [split, List.find?_append, List.find?_cons_of_pos replaceable, List.find?_eq_none.2, Option.none_or]
        exact fun r hr => by rw [before r hr]; nofun
      have alarms : s1.alarms = { s.alarms with records := front ++ back } := by
        rw [← sound'.drop_records split, hs1]
        simp [State.notifyChanged, State.dropAlarm]
      have dropped : QueuesGain s s1 [.alarmChanged old.number old.kind old.source old.zone .replaced old.acknowledged old.condition
          old.lastSeen (s.sourceZone old.source)] := by
        rw [hs1]
        exact (State.notify_gains (s.updAlarms _) _).congr rfl rfl rfl
      have shorter : s1.alarms.records.length ≤ 32 := by
        have := sound'.length
        rw [split] at this
        rw [alarms]
        simp only [List.length_append, List.length_cons] at this ⊢
        omega
      have now : s1.time = s.time := by rw [hs1]; simp
      have zones (x : AlarmSource) : s1.sourceZone x = s.sourceZone x := by rw [hs1]; cases x <;> rfl
      obtain ⟨number, frame, told⟩ := State.appendAlarm_joins shorter kind source zone
      have joins : s.raiseAlarm kind source zone =
          (((s1.appendAlarm (s1.newAlarm kind source zone)).handReplacement old (s1.newAlarm kind source zone)).refreshAlarmPanel
            old.zone).refreshAlarmPanel zone := by
        unfold State.raiseAlarm
        rw [none_, found, hs1]
        exact if_neg (Nat.not_lt.2 full)
      rw [joins]
      have sec : s1.nowSec = s.nowSec := by simp only [State.nowSec, now]
      have handed := State.handReplacement_handed (s1.appendAlarm (s1.newAlarm kind source zone)) old (s1.newAlarm kind source zone)
      obtain ⟨v, hv⟩ : ∃ v, v = s1.appendAlarm (s1.newAlarm kind source zone) := ⟨_, rfl⟩
      obtain ⟨n, hn⟩ : ∃ n, n = s1.alarms.freeNumber := ⟨_, rfl⟩
      have joining : (s1.newAlarm kind source zone).holdsAt = fun z => if kind.holds = true ∧ zone = some z then some n else none := by
        rw [hn]
        rfl
      rw [← hv, joining] at handed
      rw [← hn] at number frame told
      rw [← hv] at frame told ⊢
      rw [alarms] at number
      refine alarmJoins_of_handed (old := some old) number ?_ ?_ (fun z => ?_) handed
      · rw [alarms, sec] at frame
        conv_lhs => rw [frame]
        apply State.ext_fields <;> simp [hs1]
      · have := dropped.trans told now
        rw [sec, zones] at this
        exact this
      · simp only [AlarmRec.holdsAt, Option.filter_some, decide_eq_true_eq]
        split_ifs <;> rfl
    · have noRoom : s.alarms.records.find? (fun r => r.replaceable) = none := by
        rw [List.find?_eq_none]
        intro r hr
        rw [stuck r hr]
        nofun
      have refused : s.raiseAlarm kind source zone = (s.updAlarms fun a => { a with notRecorded := true }).notify
          (.alarmNotRecorded kind source zone s.nowSec (s.sourceZone source)) := by
        unfold State.raiseAlarm
        rw [none_, noRoom]
        exact if_neg (Nat.not_lt.2 full)
      rw [refused]
      refine ⟨?_, (State.notify_gains (s.updAlarms _) _).congr rfl rfl rfl⟩
      apply State.ext_fields <;> simp

end Sys2Proof.Machine

namespace Sys2Proof.Machine

/-! ## The configuration of a zone stands -/

/-- The configuration of a zone. -/
def State.cfgOf (s : State) (z : Zone) : Option ZoneCfg := (s.zones[z]).map fun r => r.cfg

theorem cfg_steady : Steady fun r : ZoneRec => r.cfg := fun _ _ _ _ => rfl

theorem State.updZone_cfgOf (s : State) (z y : Zone) (f : ZoneRec → ZoneRec) (hf : ∀ r, (f r).cfg = r.cfg) :
    (s.updZone z f).cfgOf y = s.cfgOf y := s.updZone_view y.val y.isLt (view := fun r => r.cfg) hf

theorem State.changeZone_cfgOf (s : State) (z y : Zone) (cause : ZoneCause) (f : ZoneRec → ZoneRec) (hf : ∀ r, (f r).cfg = r.cfg) :
    (s.changeZone z cause f).cfgOf y = s.cfgOf y := by
  have := s.changeZone_view y.val y.isLt cfg_steady z cause f
  simp only [hf, ite_self] at this
  exact this

@[simp] theorem State.afterJoin_cfgOf (s : State) (z y : Zone) : (s.afterJoin z).cfgOf y = s.cfgOf y := by
  unfold State.afterJoin
  split
  · exact s.changeZone_cfgOf z y _ _ fun _ => rfl
  · rfl

@[simp] theorem State.afterLeave_cfgOf (s : State) (z y : Zone) : (s.afterLeave z).cfgOf y = s.cfgOf y := by
  unfold State.afterLeave
  split
  · exact s.changeZone_cfgOf z y _ _ fun _ => rfl
  · rfl

@[simp] theorem State.joinAlarm_cfgOf (s : State) (r : AlarmRec) (y : Zone) : (s.joinAlarm r).cfgOf y = s.cfgOf y := by
  unfold State.joinAlarm State.joinHoldAlarm
  split
  · split
    · exact (State.afterJoin_cfgOf ..).trans (s.updZone_cfgOf _ y _ fun _ => rfl)
    · rfl
  · rfl

@[simp] theorem State.leaveAlarm_cfgOf (s : State) (r : AlarmRec) (y : Zone) : (s.leaveAlarm r).cfgOf y = s.cfgOf y := by
  unfold State.leaveAlarm State.leaveHoldAlarm
  split
  · split
    · exact (State.afterLeave_cfgOf ..).trans (s.updZone_cfgOf _ y _ fun _ => rfl)
    · rfl
  · rfl

@[simp] theorem State.handReplacement_cfgOf (s : State) (old new : AlarmRec) (y : Zone) : (s.handReplacement old new).cfgOf y = s.cfgOf y := by
  unfold State.handReplacement
  dsimp only
  split <;> simp

theorem State.cfgOf_congr {s t : State} (h : t.zones = s.zones) (y : Zone) : t.cfgOf y = s.cfgOf y := by
  simp only [State.cfgOf, h]

@[simp] theorem State.refreshAlarmPanel_cfgOf (s : State) (zone : Option Zone) (y : Zone) : (s.refreshAlarmPanel zone).cfgOf y = s.cfgOf y :=
  State.cfgOf_congr (by simp) y

@[simp] theorem State.appendAlarm_cfgOf (s : State) (r : AlarmRec) (y : Zone) : (s.appendAlarm r).cfgOf y = s.cfgOf y :=
  State.cfgOf_congr (by simp) y

@[simp] theorem State.notifyChanged_cfgOf (s : State) (r : AlarmRec) (change : AlarmChange) (y : Zone) :
    (s.notifyChanged r change).cfgOf y = s.cfgOf y := State.cfgOf_congr (by simp) y

@[simp] theorem State.updAlarms_cfgOf (s : State) (f : Alarms → Alarms) (y : Zone) : (s.updAlarms f).cfgOf y = s.cfgOf y := rfl

/-- A raise leaves every zone's configuration. -/
theorem State.raiseAlarm_cfgOf (s : State) (kind : AlarmKind) (source : AlarmSource) (zone : Option Zone) (y : Zone) :
    (s.raiseAlarm kind source zone).cfgOf y = s.cfgOf y := by
  unfold State.raiseAlarm
  split
  · simp
  split
  · simp
  split
  · simp [State.dropAlarm]
  · exact State.cfgOf_congr (by simp) y

/-! ## The times of the Occupancy Unit -/

/-- R88: the warning that the entries of a zone ask for. -/
theorem State.warningDue_eq (s : State) (z : Zone) :
    s.warningDue z = s.occupancy.entries.any fun x => x.zone = z && x.deadline.any (· ≤ s.nowSec + 60) := by
  simp only [State.warningDue, Occupancy.entriesIn, List.any_filter]

/-- R88, R170: a warning found afresh in a configured zone, and its panel. -/
theorem State.refreshWarning_eq {s : State} {z : Zone} {r : ZoneRec} (h : s.zones[z] = some r) :
    s.refreshWarning z = { s with
      occupancy := { s.occupancy with warning := s.occupancy.warning.put z (s.warningDue z) },
      link := s.link.shows z r (s.alarms.displayFlag z) (s.warningDue z) } := by
  obtain ⟨u, hu⟩ : ∃ u, u = s.updOccupancy fun o => { o with warning := o.warning.put z (s.warningDue z) } := ⟨_, rfl⟩
  have link := State.refreshPanel_link u z r (by rw [hu]; exact h)
  have warning : u.occupancy.warning[z] = s.warningDue z := by rw [hu]; exact Tab.getElem_put_self ..
  rw [warning] at link
  have refresh : s.refreshWarning z = u.refreshPanel z := by rw [hu]; rfl
  rw [refresh]
  apply State.ext_fields <;> simp [hu]
  rw [← hu, link, hu]
  rfl

/-- R86: the check-in period of a configured zone, in seconds. -/
theorem State.checkinPeriod_eq {s : State} {z : Zone} {r : ZoneRec} (h : s.zones[z] = some r) : s.checkinPeriod z = r.cfg.checkinPeriod * 60 := by
  simp only [State.checkinPeriod, h, Option.map_some, Option.getD_some]

/-- Settles O24. -/
theorem occupancyTimesAreReached : Obligations.OccupancyTimesAreReached := by
  intro s
  refine ⟨fun p e due z he hd reached hz => ?_, fun p e due z he hd reached hz sound => ?_, fun z p due lone reached sound => ?_⟩
  · have warned : s.warningDue e.zone = true := by
      rw [State.warningDue_iff]
      exact ⟨e, List.mem_of_find?_eq_some he, rfl, due, hd, reached⟩
    have due_ : e.deadline.any (· ≤ s.nowSec + 60) = true := by simp only [hd, Option.any_some, decide_eq_true reached]
    change execCheckinWarningTime p s = _
    unfold execCheckinWarningTime
    rw [he]
    dsimp only
    rw [if_pos due_, State.refreshWarning_eq hz, warned]
  · obtain ⟨u, hu⟩ : ∃ u, u = s.raiseAlarm .missedCheckin (.person p) (some e.zone) := ⟨_, rfl⟩
    have raises := State.raiseAlarm_raises sound .missedCheckin (.person p) (some e.zone)
    obtain ⟨x, hx⟩ : ∃ x, u.zones[e.zone] = some x := by
      have := s.raiseAlarm_cfgOf .missedCheckin (.person p) (some e.zone) e.zone
      rw [← hu, State.cfgOf, State.cfgOf, hz] at this
      obtain ⟨x, hx, -⟩ := Option.map_eq_some_iff.1 this
      exact ⟨x, hx⟩
    have person := Occupancy.entryOf_person he
    obtain ⟨v, hv⟩ : ∃ v, v = u.updOccupancy (·.updEntry p fun y => { y with deadline := some (s.nowSec + z.cfg.checkinPeriod * 60) }) :=
      ⟨_, rfl⟩
    have run : exec (.checkinDeadline p) s = .next (v.refreshWarning e.zone) := by
      have due_ : e.deadline.any (· ≤ s.nowSec) = true := by simp only [hd, Option.any_some, decide_eq_true reached]
      change execCheckinDeadline p s = _
      unfold execCheckinDeadline
      rw [he]
      dsimp only
      rw [if_pos due_, hv, hu, ← person, ← State.checkinPeriod_eq hz]
      rfl
    have entries : v.occupancy.entries = s.occupancy.entries.map fun y =>
        if y.person = p then { y with deadline := some (s.nowSec + z.cfg.checkinPeriod * 60) } else y := by
      rw [hv, hu]
      simp [Occupancy.updEntry]
    have fresh := State.refreshWarning_eq (s := v) (z := e.zone) (r := x) (by rw [hv]; exact hx)
    obtain ⟨t, ht⟩ : ∃ t, t = v.refreshWarning e.zone := ⟨_, rfl⟩
    have due_ := v.warningDue_eq e.zone
    rw [← ht] at run fresh
    have tentries : t.occupancy.entries = v.occupancy.entries := by rw [fresh]
    have now : v.nowSec = s.nowSec := by rw [hv, hu]; simp [State.nowSec]
    rw [now] at due_
    refine ⟨t, run, tentries.trans entries, u, x, hu ▸ raises, hx, ?_⟩
    rw [tentries, ← due_]
    conv_lhs => rw [fresh]
    have warning : u.occupancy.warning = s.occupancy.warning := by rw [hu]; simp
    rw [hv]
    simp only [State.updOccupancy_occupancy, Occupancy.updEntry, warning]
    rfl
  · have run : exec (.loneTimerExpiry z) s =
        .next ((s.setLone z (.expired p)).raiseAlarm .loneOccupant (.person p) (some z)) := by
      change execLoneTimerExpiry z s = _
      unfold execLoneTimerExpiry
      rw [lone]
      exact congrArg _ (if_pos reached)
    exact ⟨_, run, State.raiseAlarm_raises (s := s.setLone z (.expired p)) sound ..⟩

/-! ## Check-ins -/

@[simp] theorem State.handSummary_entries (s : State) (z : Zone) :
    (s.handSummary z).occupancy.entries = s.occupancy.entries ∧ (s.handSummary z).occupancy.uncertain = s.occupancy.uncertain ∧
    (s.handSummary z).occupancy.warning = s.occupancy.warning ∧ (s.handSummary z).occupancy.lone = s.occupancy.lone := by
  unfold State.handSummary
  dsimp only
  repeat' split
  all_goals simp [State.startCountdown]

@[simp] theorem State.announce_entries (s : State) (c : OccChange) :
    (s.announce c).occupancy.entries = s.occupancy.entries ∧ (s.announce c).occupancy.uncertain = s.occupancy.uncertain ∧
    (s.announce c).occupancy.warning = s.occupancy.warning ∧ (s.announce c).occupancy.lone = s.occupancy.lone := by
  simp [State.announce]

/-- R91: a zone that holds its summary already is told, and nothing else. -/
theorem State.announce_same {s : State} {c : OccChange} {r : ZoneRec} (h : s.zones[c.zone] = some r) (same : s.summaryOf c.zone = r.summary) :
    s.announce c = s.notify (s.occupancyTold c.zone c.cause c.persons) := by
  have told : s.occupancyTold c.zone c.cause c.persons = .occupancyChange c.zone c.cause (c.persons.take 16) (s.summaryOf c.zone).count
      (s.summaryOf c.zone).uncertain (s.summaryOf c.zone).load := rfl
  rw [told]
  obtain ⟨u, hu⟩ : ∃ u, u = s.notify (.occupancyChange c.zone c.cause (c.persons.take 16) (s.summaryOf c.zone).count
      (s.summaryOf c.zone).uncertain (s.summaryOf c.zone).load) := ⟨_, rfl⟩
  have here : u.zones[c.zone] = some r := by rw [hu]; simpa using h
  have summary : u.summaryOf c.zone = r.summary := by
    rw [← same, hu]
    exact State.summaryOf_congr (by simp) (by simp)
  have hands : s.announce c = u.handSummary c.zone := by rw [hu]; rfl
  rw [hands, ← hu]
  simp only [State.handSummary, here, summary, if_true]

/-- R90, R91: a summary depends on the zones and the weights of the entries alone. -/
theorem State.summaryOf_map {s t : State} {g : Entry → Entry} (hg : ∀ e, (g e).zone = e.zone ∧ (g e).weight = e.weight)
    (entries : t.occupancy.entries = s.occupancy.entries.map g) (uncertain : t.occupancy.uncertain = s.occupancy.uncertain)
    (reserved : t.occupancy.reserved = s.occupancy.reserved) (z : Zone) (cfg : t.cfgOf z = s.cfgOf z) : t.summaryOf z = s.summaryOf z := by
  have inside : t.occupancy.entriesIn z = (s.occupancy.entriesIn z).map g := by
    simp only [Occupancy.entriesIn, entries, List.filter_map, Function.comp_def, hg]
  have weights : (t.occupancy.entriesIn z).map (·.weight) = (s.occupancy.entriesIn z).map (·.weight) := by
    simp only [inside, List.map_map, Function.comp_def, hg]
  have load : t.uncertainLoad z = s.uncertainLoad z := by
    have := congrArg (Option.map fun c : ZoneCfg => c.uncertainLoad) cfg
    simpa only [State.uncertainLoad, State.cfgOf, Option.map_map, Function.comp_def] using congrArg (Option.getD · 0) this
  have length : (t.occupancy.entriesIn z).length = (s.occupancy.entriesIn z).length := by rw [inside, List.length_map]
  simp only [State.summaryOf, State.egressLoad, length, uncertain, reserved, weights, load]

/-- R79: the entry of a person after one is changed in its place. -/
theorem Occupancy.entryOf_map {o o' : Occupancy} {g : Entry → Entry} (hg : ∀ e, (g e).person = e.person)
    (entries : o'.entries = o.entries.map g) (p : Person) : o'.entryOf p = (o.entryOf p).map g := by
  simp only [Occupancy.entryOf, entries, List.find?_map, Function.comp_def, hg]

/-- R88, R159: a check-in up to its notice: the deadline, the warning, and the condition. -/
theorem State.checkIn_checksIn {s : State} (sound : AlarmListSound s) (p : Person) : ChecksIn s (s.checkIn p) p := by
  refine ⟨fun e he hd => ?_, fun he => ?_, fun e due z he hd hz => ?_⟩
  · simp only [State.checkIn, he, hd, Option.isNone_none, if_true]
  · simp only [State.checkIn, he]
  intro entries warning missed m told
  have person := Occupancy.entryOf_person he
  obtain ⟨g, hg⟩ : ∃ g : Entry → Entry,
      g = fun x => if x.person = p then { x with deadline := some (s.nowSec + z.cfg.checkinPeriod * 60) } else x := ⟨_, rfl⟩
  have keeps (x : Entry) : (g x).zone = x.zone ∧ (g x).weight = x.weight ∧ (g x).person = x.person := by
    rw [hg]
    dsimp only
    split <;> exact ⟨rfl, rfl, rfl⟩
  obtain ⟨u, hu⟩ : ∃ u : State, u = { s with occupancy := { s.occupancy with entries := entries } } := ⟨_, rfl⟩
  have mapped : u.occupancy.entries = s.occupancy.entries.map g := by rw [hu, hg]
  have due_ : u.warningDue e.zone = warning := by
    rw [u.warningDue_eq, hu]
    rfl
  obtain ⟨v, hv⟩ : ∃ v, v = u.refreshWarning e.zone := ⟨_, rfl⟩
  have warned := State.refreshWarning_eq (s := u) (z := e.zone) (r := z) (by rw [hu]; exact hz)
  rw [← hv, due_] at warned
  obtain ⟨w, hw⟩ : ∃ w, w = v.conditionGone .missedCheckin (.person p) := ⟨_, rfl⟩
  have valarms : v.alarms = s.alarms := by rw [warned, hu]
  have ends := State.conditionGone_ends v .missedCheckin (.person p) (by simpa only [AlarmListSound, valarms] using sound)
  rw [← hw] at ends
  have runs : s.checkIn p = w.announce { zone := e.zone, cause := .checkIn, persons := [p] } := by
    rw [hw, hv, hu]
    simp only [State.checkIn, he, hd, Option.isNone_some, Bool.false_eq_true, if_false, State.checkinPeriod_eq hz]
    rfl
  obtain ⟨t, ht⟩ : ∃ t, t = s.checkIn p := ⟨_, rfl⟩
  rw [← ht] at runs ⊢
  have wocc : w.occupancy = v.occupancy := by rw [hw]; simp
  have vocc : v.occupancy = { s.occupancy with entries := entries, warning := s.occupancy.warning.put e.zone warning } := by rw [warned, hu]
  have talarms : t.alarms = w.alarms := by rw [runs]; simp
  have sources : v.sourceZone (.person p) = some e.zone := by
    have found := Occupancy.entryOf_map (o' := v.occupancy) (g := g) (fun x => (keeps x).2.2) (by rw [vocc, hg]) p
    rw [State.sourceZone, State.personZone, found, he, Option.map_some, Option.map_some, (keeps e).1]
  obtain ⟨unmissed, gone⟩ := ends
  simp only [valarms, sources] at unmissed gone
  have wzones : w.zones = s.zones := by rw [hw, warned, hu]; simp
  have wlink : w.link = s.link.shows e.zone z (s.alarms.displayFlag e.zone) warning := by rw [hw, warned, hu]; simp
  have told_ (summary : z.summary = m) : t = w.notify (s.occupancyTold e.zone .checkIn [p]) := by
    have here : w.summaryOf e.zone = m :=
      State.summaryOf_map (s := s) (g := g) (fun x => ⟨(keeps x).1, (keeps x).2.1⟩) (by rw [wocc, vocc, hg]) (by rw [wocc, vocc])
        (by rw [wocc, vocc]) e.zone (by simp only [State.cfgOf, wzones])
    have body : w.occupancyTold e.zone .checkIn [p] = s.occupancyTold e.zone .checkIn [p] := by
      simp only [State.occupancyTold, here, m]
    rw [runs, State.announce_same (r := z) (by rw [wzones]; exact hz) (here.trans summary.symm)]
    exact congrArg _ body
  have silent : QueuesGain s v [] := .of_ports (by rw [warned, hu])
  have vtime : v.time = s.time := by rw [warned, hu]
  have wtime : w.time = s.time := by rw [hw]; simpa using vtime
  refine ⟨?_, ?_, ?_, fun none_ => ?_, fun r hr hm => ?_, fun summary => ⟨?_, fun none_ => ?_, fun r hr hm => ?_⟩⟩
  · apply State.ext_fields <;> simp [runs, hw, warned, hu]
  · rw [runs]; simp [wocc, vocc]
  · rw [runs]; simp [wocc, vocc]
  · rw [talarms, unmissed none_, valarms]
  · have := congrArg State.alarms (gone r hr hm).1
    rw [talarms]
    exact this
  · apply State.ext_fields <;> simp [told_ summary, wocc, vocc, wzones, wlink]
    all_goals simp [hw, warned, hu]
  · rw [told_ summary, unmissed none_]
    exact (silent.trans (v.notify_gains _) vtime)
  · have := (silent.trans (gone r hr hm).2 vtime).notify wtime (s.occupancyTold e.zone .checkIn [p])
    rw [told_ summary]
    exact this

end Sys2Proof.Machine

namespace Sys2Proof.Machine

/-! ## Pendant telegrams -/

/-- The first item of a table that gives something. -/
theorem findSome?_finRange {α : Type} {n : Nat} {f : Fin n → Option α} {i : Fin n} {x : α} (here : f i = some x)
    (before : ∀ j < i, f j = none) : (List.finRange n).findSome? f = some x := by
  induction n with
  | zero => exact i.elim0
  | succ n ih =>
    rw [List.finRange_succ, List.findSome?_cons]
    cases i using Fin.cases with
    | zero => rw [here]
    | succ i =>
      rw [before 0 (Fin.succ_pos i)]
      dsimp only
      rw [List.findSome?_map]
      exact ih (f := f ∘ Fin.succ) here fun j hj => before j.succ (Fin.succ_lt_succ_iff.2 hj)

/-- R153: the bytes that a slot covers. -/
theorem Pattern.covers_eq (p : Pattern) (telegram : List Byte) : coveredBytes p.mask telegram = p.covers telegram := by
  induction telegram using List.reverseRecOn with
  | nil => rfl
  | append_singleton l b ih =>
    have within : (List.range l.length).filterMap (fun i => if p.mask.getLsbD i = true then (l ++ [b])[i]? else none) = p.covers l :=
      List.filterMap_congr fun i hi => by rw [List.getElem?_append_left (List.mem_range.1 hi)]
    have last : coveredBytes p.mask (l ++ [b]) = coveredBytes p.mask l ++ if p.mask.getLsbD l.length = true then [b] else [] := by
      simp only [coveredBytes, List.zipIdx_append, List.filter_append, List.map_append]
      congr 1
      by_cases h : p.mask.getLsbD l.length = true
      · simp [h]
      · simp [h]
    rw [last, ih]
    conv_rhs => rw [Pattern.covers, List.length_append, List.length_singleton, List.range_succ, List.filterMap_append, within]
    congr 1
    by_cases h : p.mask.getLsbD l.length = true
    · simp [h]
    · simp [h]

theorem numberOf_three (a b c : Byte) : numberOf [a, b, c] = a.toNat * 65536 + b.toNat * 256 + c.toNat := by
  simp only [numberOf, List.foldl_cons, List.foldl_nil]
  ring

/-- R152: the pendant id lies within a telegram. -/
theorem identity_iff (telegram : List Byte) (offset id : Nat) :
    (∃ a b c : Byte, telegram[offset]? = some a ∧ telegram[offset + 1]? = some b ∧ telegram[offset + 2]? = some c ∧
      id = a.toNat * 65536 + b.toNat * 256 + c.toNat) ↔
    offset + 3 ≤ telegram.length ∧ id = numberOf ((telegram.drop offset).take 3) := by
  by_cases h : offset + 3 ≤ telegram.length
  · have bytes : (telegram.drop offset).take 3 = [telegram[offset], telegram[offset + 1], telegram[offset + 2]] := by
      rw [List.drop_eq_getElem_cons (by omega), List.drop_eq_getElem_cons (by omega), List.drop_eq_getElem_cons (by omega)]
      rfl
    rw [bytes]
    simp only [List.getElem?_eq_getElem (show offset < telegram.length by omega),
      List.getElem?_eq_getElem (show offset + 1 < telegram.length by omega),
      List.getElem?_eq_getElem (show offset + 2 < telegram.length by omega), Option.some.injEq, numberOf_three, h,
      true_and]
    constructor
    · rintro ⟨a, b, c, rfl, rfl, rfl, e⟩
      exact e
    · exact fun e => ⟨_, _, _, rfl, rfl, rfl, e⟩
  · have : telegram[offset + 2]? = none := List.getElem?_eq_none (by omega)
    simp [this, h]

/-- R152, R153: a slot is tried. -/
theorem Pattern.tryMatch_iff (p : Pattern) (telegram : List Byte) (kind : PendantKind) (id : Nat) :
    p.tryMatch telegram = some (kind, id) ↔ p.Matches telegram id ∧ p.kind = kind := by
  have identity := identity_iff telegram p.offset id
  simp only [Pattern.tryMatch, Pattern.covers_eq, Pattern.Matches, identity, List.isEmpty_iff]
  by_cases empty : p.covers telegram = []
  · simp [empty]
  by_cases crc : crc16 (p.covers telegram) = p.crc
  · by_cases short : telegram.length < p.offset + 3
    · simp [empty, crc, short, Nat.not_le.2 short]
    · simp [empty, crc, short, Nat.not_lt.1 short, eq_comm, and_comm]
  · simp [empty, crc]

theorem Pattern.tryMatch_none {p : Pattern} {telegram : List Byte} (h : ∀ id, ¬p.Matches telegram id) : p.tryMatch telegram = none := by
  cases hm : p.tryMatch telegram with
  | none => rfl
  | some x => exact absurd ((p.tryMatch_iff telegram x.1 x.2).1 hm).1 (h x.2)

/-- R153: the first slot to match decides. -/
theorem Alarms.matchTelegram_of_brings {a : Alarms} {telegram : List Byte} {kind : PendantKind} {id : Nat} (h : a.Brings telegram kind id) :
    a.matchTelegram telegram = some (kind, id) := by
  obtain ⟨i, matches_, hkind, first⟩ := h
  exact findSome?_finRange ((Pattern.tryMatch_iff ..).2 ⟨matches_, hkind⟩) fun j hj => Pattern.tryMatch_none (first j hj)

theorem Alarms.matchTelegram_none {a : Alarms} {telegram : List Byte} (h : ∀ kind id, ¬a.Brings telegram kind id) :
    a.matchTelegram telegram = none := by
  have unmatched (i : Fin 4) (id : Nat) : ¬(a.slots[i]).Matches telegram id := fun matches_ => by
    obtain ⟨j, ⟨other, hj⟩, least⟩ := WellFounded.has_min (wellFounded_lt (α := Fin 4)) {i | ∃ id, (a.slots[i]).Matches telegram id} ⟨i, id, matches_⟩
    exact h _ other ⟨j, hj, rfl, fun k hk id' hm => least k ⟨id', hm⟩ hk⟩
  rw [Alarms.matchTelegram, List.findSome?_eq_none_iff]
  exact fun i _ => Pattern.tryMatch_none (unmatched i)

/-- Settles O34. -/
theorem pendantTelegramIsHandled : Obligations.PendantTelegramIsHandled := by
  intro s b n bytes rx full u brings handled
  have run : exec (.pendantTelegram b) s = .next (u.takeTelegram (bytes ++ [b])) := by
    change execPendantTelegram b s = _
    unfold execPendantTelegram
    rw [rx]
    exact congrArg _ (if_pos full)
  have takes {kind : PendantKind} {id : Nat} (h : brings kind id) : exec (.pendantTelegram b) s = .next (u.handleTelegram kind id) := by
    have : u.alarms.matchTelegram (bytes ++ [b]) = some (kind, id) := Alarms.matchTelegram_of_brings (a := s.alarms) h
    rw [run, State.takeTelegram, this]
  refine ⟨fun none_ => ?_, fun id => ⟨fun h => ?_, fun kind alarm which h sound => ?_, fun h sound => ?_⟩⟩
  · have : u.alarms.matchTelegram (bytes ++ [b]) = none := Alarms.matchTelegram_none (a := s.alarms) none_
    rw [run, State.takeTelegram, this]
  · refine ⟨_, takes h, ?_, ?_⟩
    · exact State.notify_only u _
    · exact (u.notify_gains _).congr rfl rfl rfl
  · have raises (source : AlarmSource) (zone : Option Zone) := State.raiseAlarm_raises (s := u) sound alarm source zone
    have runs : exec (.pendantTelegram b) s =
        .next (u.raiseAlarm alarm (pendantSource id (s.byPendant id)) ((s.byPendant id).bind s.personZone)) := by
      rw [takes h]
      obtain ⟨rfl, rfl⟩ | ⟨rfl, rfl⟩ := which <;> rfl
    refine ⟨fun unknown => ?_, fun p known => ?_⟩
    · rw [unknown] at runs
      exact ⟨_, runs, raises ..⟩
    · rw [known] at runs
      exact ⟨_, runs, raises ..⟩
  · have runs : exec (.pendantTelegram b) s = .next (match s.byPendant id with | none => u | some p => u.checkIn p) := takes h
    refine ⟨fun unknown => ?_, fun p known => ?_⟩
    · rw [runs, unknown]
    · rw [known] at runs
      exact ⟨_, runs, State.checkIn_checksIn (s := u) sound p⟩

end Sys2Proof.Machine

namespace Sys2Proof.Machine

/-! ## ACK_ALARM and CLEAR_ALARM -/

/-- R163: the record that holds a number, once the record of a number has been replaced in its place. -/
theorem Alarms.numbered_replace {a b : Alarms} {r x : AlarmRec} {n : Nat} (h : a.numbered n = some r) (number : x.number = n)
    (records : b.records = (a.replace x).records) : b.numbered n = some x := by
  have found : r.number = n := by simpa using List.find?_some h
  have mapped : b.records = a.records.map fun y => if y.number = n then x else y := by rw [records, ← number]; rfl
  have keeps (y : AlarmRec) : (if y.number = n then x else y).number = y.number := by
    split
    · next e => rw [number, e]
    · rfl
  rw [Alarms.numbered] at h ⊢
  rw [mapped, List.find?_map]
  simp only [Function.comp_def, keeps, h, Option.map_some, found, if_true]

theorem decideAckAlarm_byte {s : State} {n : Nat} {r : AlarmRec} (h : s.alarms.numbered n = some r) (lt : n < 256) (p : Port) :
    decideAckAlarm s p [byteOf n] = ackReply (if r.acknowledged then s else s.acknowledgeAlarm r) n := by
  simp only [decideAckAlarm, readNumber_singleton, byteOf_toNat, Nat.mod_eq_of_lt lt, h]

theorem decideClearAlarm_byte {s : State} {n : Nat} {r : AlarmRec} (h : s.alarms.numbered n = some r) (lt : n < 256) (p : Port) :
    decideClearAlarm s p [byteOf n] = s.clearRecord r := by
  simp only [decideClearAlarm, readNumber_singleton, byteOf_toNat, Nat.mod_eq_of_lt lt, h]

/-- R160, R163: all that acknowledging a record does. -/
theorem State.acknowledgeAlarm_becomes (s : State) (old : AlarmRec) :
    let x : AlarmRec := { old with acknowledged := true }
    let t := s.acknowledgeAlarm old
    t = { s with alarms := t.alarms, ports := t.ports } ∧
      t.alarms = { s.alarms with records := (s.alarms.replace x).records, notRecorded := s.alarms.notRecorded && !t.alarms.hasRoom } ∧
      QueuesGain s t
        [.alarmChanged old.number old.kind old.source old.zone .acknowledged true old.condition old.lastSeen (s.sourceZone old.source)] := by
  intro x t
  refine ⟨?_, ?_, (State.notify_gains (s.updAlarms _) _).congr rfl rfl rfl⟩
  · apply State.ext_fields <;> simp [t]
  · simp [t, State.acknowledgeAlarm, State.settleNotRecorded, State.notifyChanged, Alarms.hasRoom, Alarms.replace, x]

/-- R160, R164: a record leaves the list with its notice; then the hold-source set, the panel and the room follow. -/
theorem State.clearAlarm_becomes (s : State) (r : AlarmRec) :
    let t := s.clearAlarm r
    t = { s with
        doors := t.doors, occupancy := t.occupancy, zones := t.zones, bus := t.bus, link := t.link, alarms := t.alarms, ports := t.ports } ∧
      t.alarms =
        { s.alarms with
          records := s.alarms.records.filter fun x => x.number ≠ r.number,
          notRecorded := s.alarms.notRecorded && !t.alarms.hasRoom } ∧
      ∃ v, v = { s with alarms := v.alarms, ports := v.ports } ∧
        QueuesGain s v [.alarmChanged r.number r.kind r.source r.zone .cleared r.acknowledged r.condition r.lastSeen (s.sourceZone r.source)] ∧
        t = ((v.leaveAlarm r).refreshAlarmPanel r.zone).settleNotRecorded := by
  intro t
  refine ⟨?_, ?_, (s.dropAlarm r).notifyChanged r .cleared, ?_, (State.notify_gains (s.updAlarms _) _).congr rfl rfl rfl, rfl⟩
  · apply State.ext_fields <;> simp [t]
  · have filtered : s.alarms.records.filter (fun x => x.number != r.number) = s.alarms.records.filter fun x => x.number ≠ r.number :=
      List.filter_congr fun x _ => Bool.eq_iff_iff.2 (by simp)
    simp only [t, State.clearAlarm, State.settleNotRecorded, State.updAlarms_alarms, Alarms.hasRoom]
    simp only [State.notifyChanged, State.dropAlarm, State.refreshAlarmPanel_frame, State.leaveAlarm_frame, State.notify_frame,
      State.updAlarms_alarms, filtered]
  · apply State.ext_fields <;> simp

/-- Settles O52. -/
theorem alarmsAreAcknowledgedAndCleared : Obligations.AlarmsAreAcknowledgedAndCleared := by
  intro s b code f n r ready lt payload hn
  have number : r.number = n := by simpa using List.find?_some hn
  have here : (s.hunting .console).alarms.numbered n = some r := hn
  refine ⟨?_, ?_⟩
  · rintro rfl
    have run (u : State) (hu : (if r.acknowledged then s.hunting .console else (s.hunting .console).acknowledgeAlarm r) = u) :
        exec (.ackAlarm .console b) s = .next ((ackReply u n).answerTo .console f) := by
      change Host.Outcome.next (s.takeRequest .console b 0x30 false (.only .console) decideAckAlarm) = _
      rw [State.takeRequest_decided ready false _ decideAckAlarm rfl, payload, decideAckAlarm_byte here lt, hu]
    refine ⟨fun ack => ?_, fun raised => ?_⟩
    · have content : ackReply (s.hunting .console) n = ⟨s.hunting .console, .ok, 1 :: flag1 r.condition⟩ := by
        simp only [ackReply, here, ack]
        rfl
      rw [run _ (if_pos ack), content, State.answerTo_hunting]
    · obtain ⟨frame, alarms, gains⟩ := (s.hunting .console).acknowledgeAlarm_becomes r
      obtain ⟨u, hu⟩ : ∃ u, u = (s.hunting .console).acknowledgeAlarm r := ⟨_, rfl⟩
      rw [← hu] at frame alarms gains
      have content : ackReply u n = ⟨u, .ok, 1 :: flag1 r.condition⟩ := by
        have := Alarms.numbered_replace (b := u.alarms) (x := { r with acknowledged := true }) here number (by rw [alarms])
        simp only [ackReply, this]
        rfl
      have go := run u ((if_neg (by rw [raised]; nofun)).trans hu.symm)
      rw [content] at go
      refine ⟨_, go, ?_, ?_, ?_⟩
      · rw [Reply.answerTo_eq]
        conv_lhs => rw [frame]
        rfl
      · rw [← number]
        exact alarms
      · rw [← number]
        exact Reply.answerTo_ports gains
  · rintro rfl
    have run (reply : Reply) (hr : (s.hunting .console).clearRecord r = reply) :
        exec (.clearAlarm .console b) s = .next (reply.answerTo .console f) := by
      change Host.Outcome.next (s.takeRequest .console b 0x31 false (.only .console) decideClearAlarm) = _
      rw [State.takeRequest_decided ready false _ decideClearAlarm rfl, payload, decideClearAlarm_byte here lt, hr]
    refine ⟨fun raised => ?_, fun ack present => ?_, fun ack ended => ?_⟩
    · have refused : (s.hunting .console).clearRecord r = (s.hunting .console).reply .notAcknowledged := by simp [State.clearRecord, raised]
      rw [run _ refused]
      exact congrArg _ (State.answerTo_hunting ..)
    · have refused : (s.hunting .console).clearRecord r = (s.hunting .console).reply .stillActive := by simp [State.clearRecord, ack, present]
      rw [run _ refused]
      exact congrArg _ (State.answerTo_hunting ..)
    · intro gone
      have clears : (s.hunting .console).clearRecord r = ((s.hunting .console).clearAlarm r).reply .ok := by simp [State.clearRecord, ack, ended]
      obtain ⟨frame, alarms, v, hv, told, ht⟩ := (s.hunting .console).clearAlarm_becomes r
      obtain ⟨u, hu⟩ : ∃ u, u = (s.hunting .console).clearAlarm r := ⟨_, rfl⟩
      rw [← hu] at frame alarms ht clears
      rw [number, ack, ended] at told
      have uports : u.ports = (v.leaveAlarm r).ports := by rw [ht]; simp [State.settleNotRecorded]
      have uzones : u.zones = (v.leaveAlarm r).zones := by rw [ht]; simp [State.settleNotRecorded]
      have answers (same : (v.leaveAlarm r).ports = v.ports) :
          PortsAnswer s ((u.reply .ok).answerTo .console f) .console f .ok [] [gone] :=
        Reply.answerTo_ports (r := u.reply .ok) (told.congr rfl rfl (uports.trans same))
      refine ⟨_, run _ clears, ?_, ?_, fun nowhere => ?_, fun z x hz hx => ⟨fun idle => ?_, fun held holds lines alarms_ _ => ?_⟩⟩
      · rw [Reply.answerTo_eq]
        conv_lhs => rw [frame]
        rfl
      · rw [← number]
        exact alarms
      · have stays : v.leaveAlarm r = v := by simp only [State.leaveAlarm, nowhere]
        refine ⟨?_, answers (congrArg State.ports stays)⟩
        have same : u = v.settleNotRecorded := by
          rw [ht, stays, nowhere]
          rfl
        rw [Reply.answerTo_eq]
        conv_lhs => rw [same, State.settleNotRecorded, State.updAlarms, hv]
        rw [same]
        rfl
      · have vx : v.zones[z] = some x := by rw [hv]; exact hx
        obtain ⟨y, hy⟩ : ∃ y, y = if r.kind.holds then { x with holdAlarms := x.holdAlarms.filter (· ≠ n) } else x := ⟨_, rfl⟩
        have leaves : v.leaveAlarm r = { v with zones := v.zones.put z (some y) } := by
          by_cases holds : r.kind.holds = true
          · obtain ⟨-, -, -, stays, -⟩ := State.leaveHoldAlarm_turns vx n
            have left : x.left n = y := by
              rw [hy, if_pos holds]
              have filtered : x.holdAlarms.filter (· != n) = x.holdAlarms.filter (· ≠ n) :=
                List.filter_congr fun m _ => Bool.eq_iff_iff.2 (by simp)
              rw [← filtered]
              exact if_neg fun h => idle h.1
            have joined : v.leaveAlarm r = v.leaveHoldAlarm z n := by simp only [State.leaveAlarm, hz, holds, if_true, number]
            rw [joined, stays (by rw [left, hy, if_pos holds]), left]
          · have same : v.zones.put z (some y) = v.zones := put_eq_self (by rw [hy, if_neg holds, vx])
            rw [same]
            simp only [State.leaveAlarm, hz, if_neg holds]
        refine ⟨?_, answers (by rw [leaves]), ?_⟩
        · have udoors : u.doors = (v.leaveAlarm r).doors := by rw [ht]; simp [State.settleNotRecorded]
          refine udoors.trans ?_
          rw [leaves, hv]
          rfl
        · refine (congrArg (·[z]) (uzones.trans (congrArg State.zones leaves))).trans ?_
          rw [← hy]
          exact Tab.getElem_put_self ..
      · have vx : v.zones[z] = some x := by rw [hv]; exact hx
        have leaves : v.leaveAlarm r = v.leaveHoldAlarm z n := by simp only [State.leaveAlarm, hz, holds, if_true, number]
        obtain ⟨-, -, -, -, turned⟩ := State.leaveHoldAlarm_turns vx n
        have freed : x.left n = ({ x with holdAlarms := [] } : ZoneRec).resumed := by
          simp [ZoneRec.left, held, ZoneRec.noHold, lines, alarms_]
        obtain ⟨⟨m, after⟩, -⟩ := turned (by rw [freed, held]; nofun)
        rw [freed] at after
        refine ⟨{ ({ x with holdAlarms := [] } : ZoneRec).resumed with summary := m }, ?_, rfl, rfl, rfl, rfl, rfl⟩
        exact (congrArg (·[z]) (uzones.trans (congrArg State.zones leaves))).trans after

end Sys2Proof.Machine

namespace Sys2Proof.Machine

/-! ## Reports of lines that are no contact lines -/

/-- R4, R5: a scan that reports a class hands the change over. -/
theorem exec_lineScan_reports {s : State} {l : Line} {code : Byte} {r : LineRec} {k : LineClass} (h : ScanReports s l code r k) :
    let u : State := { s with lines := s.linesReported l code r k }
    exec (.lineScan l code) s =
      .next ((u.notifyLineFault l r.cfg.role r.reported k).handReport l r.cfg.role r.reported k s.nowMs) := by
  intro u
  obtain ⟨running, hr, due, measured, fresh, candidate, count⟩ := h
  have scanned : r.scanned code s.nowMs =
      { r with code := some code, measured := some k, lastScan := some s.nowMs, reported := some k, candidate := none, count := 0 } := by
    simp only [LineRec.scanned, measured, LineRec.debounced, if_neg fresh, candidate, if_true]
    exact if_pos count.ge
  have lines : s.updLine l (fun _ => r.scanned code s.nowMs) = u := by
    rw [State.updLine, hr, scanned]
    rfl
  rw [exec_lineScan_due code running hr due, State.scanLine, lines, State.reportScan, scanned]
  exact congrArg _ (if_neg fresh)

/-- R12: the LINE_FAULT notice of a report. -/
theorem State.notifyLineFault_tells (u : State) (l : Line) (r : LineRec) (k : LineClass) (role : ∀ o, r.cfg.role ≠ .valveFeedback o) :
    let v := u.notifyLineFault l r.cfg.role r.reported k
    v = { u with ports := v.ports } ∧ QueuesGain u v (lineFaultTold l r k) := by
  intro v
  have due : lineFaultDue r.cfg.role r.reported k = true ↔
      (k = .short ∨ k = .openCircuit) ∨ r.reported = some .short ∨ r.reported = some .openCircuit := by
    have fault (c : LineClass) : c.isFault = true ↔ c = .short ∨ c = .openCircuit := by cases c <;> simp [LineClass.isFault]
    have : lineFaultDue r.cfg.role r.reported k = (k.isFault || r.reported.any (·.isFault)) := by
      unfold lineFaultDue
      split
      · next o h => exact absurd h (role o)
      · rfl
    rw [this, Bool.or_eq_true, fault, Option.any_eq_true]
    simp only [fault]
    constructor
    · rintro (h | ⟨c, h, rfl | rfl⟩)
      · exact .inl h
      · exact .inr (.inl h)
      · exact .inr (.inr h)
    · rintro (h | h | h)
      · exact .inl h
      · exact .inr ⟨_, h, .inl rfl⟩
      · exact .inr ⟨_, h, .inr rfl⟩
  by_cases h : lineFaultDue r.cfg.role r.reported k = true
  · have hv : v = u.notify (.lineFault l r.cfg.role k r.reported k.isFault) := if_pos h
    have told : lineFaultTold l r k = [.lineFault l r.cfg.role k r.reported k.isFault] := by
      rw [lineFaultTold, if_pos (due.1 h)]
      cases k <;> rfl
    rw [hv, told]
    exact ⟨State.notify_only .., u.notify_gains _⟩
  · have hv : v = u := if_neg h
    have told : lineFaultTold l r k = [] := if_neg (mt due.2 h)
    rw [hv, told]
    exact ⟨rfl, .of_ports rfl⟩

/-- R40: a zone ordered where no door's grant is taken back. -/
theorem ZoneOrdered.unordered {s t : State} {z : Zone} {r x : ZoneRec} {cause : ZoneCause} (h : ZoneOrdered s t z r x cause)
    (unordered : ∀ d y, s.doors[(d : Door)] = some y → y.cfg.inside = z → y.ordered x.state = none) :
    t = { s with zones := s.zones.put z (some x), doors := t.doors, bus := t.bus, link := t.link, ports := t.ports } ∧
      t.link = s.link.shows z x (s.alarms.displayFlag z) s.occupancy.warning[z] ∧
      (s.noneWaiting z → QueuesGain s t [zoneStateBody z x r.state cause]) := by
  obtain ⟨frame, same, -, bodies, withdraws, gains⟩ := h
  have zones := same fun ⟨d, y, hy, hin, ho⟩ => ho (unordered d y hy hin)
  have occupancy := withdraws.occupancy_of_unordered unordered
  have link : t.link = s.link.shows z x (s.alarms.displayFlag z) s.occupancy.warning[z] := by rw [frame]
  refine ⟨?_, link, fun none_ => ?_⟩
  · rw [link, ← zones]
    conv_lhs => rw [frame, occupancy]
  · obtain ⟨rfl, -⟩ := withdraws.of_noneWaiting none_
    exact gains

/-- R108, R109: an abort line joins a zone's set. -/
theorem State.joinHoldLine_becomes {s : State} {z : Zone} {x : ZoneRec} (hx : s.zones[z] = some x) (l : Line) :
    let t := s.joinHoldLine z l
    let lines := insertAscending l x.holdLines
    (x.state = .countdown → s.grantsFit z →
      let y : ZoneRec := { x with state := .held, holdLines := lines }
      t = { s with zones := s.zones.put z (some y), doors := t.doors, bus := t.bus, link := t.link, ports := t.ports } ∧
        t.link = s.link.shows z y (s.alarms.displayFlag z) s.occupancy.warning[z] ∧
        (s.noneWaiting z → QueuesGain s t [zoneStateBody z y x.state .hold])) ∧
      (x.state ≠ .countdown → t = { s with zones := s.zones.put z (some { x with holdLines := lines }) }) := by
  intro t lines
  obtain ⟨w, hw⟩ : ∃ w : ZoneRec, w = { x with holdLines := lines } := ⟨_, rfl⟩
  obtain ⟨u, hu⟩ : ∃ u : State, u = { s with zones := s.zones.put z (some w) } := ⟨_, rfl⟩
  have joins : t = u.afterJoin z := by
    simp only [t, State.joinHoldLine, hu, hw, State.updZone, hx, Option.map_some, lines]
  have here : u.zones[z] = some w := by rw [hu]; exact Tab.getElem_put_self ..
  refine ⟨fun counting fit => ?_, fun other => ?_⟩
  · intro y
    have turns : t = u.changeZone z .hold fun w => { w with state := .held } := by
      simp [joins, State.afterJoin, here, hw, counting]
    have ordered := State.changeZone_orders (f := fun w => { w with state := .held }) here .hold rfl (by rw [hw, counting]; nofun)
    have after : ({ w with state := .held } : ZoneRec) = y := by rw [hw]
    have before : w.state = x.state := by rw [hw]
    have same := ordered.unordered fun d r hr hin => by
      rw [hu] at hr
      exact fit.unordered hx (by rw [counting]; rfl) (by rw [counting]; rfl) _ hr hin
    rw [← turns, after, before, hu] at same
    simp only [Tab.put_put] at same
    exact same
  · have stays : u.afterJoin z = u := by simp [State.afterJoin, here, hw, other]
    rw [joins, stays, hu, hw]

/-- R108, R113: an abort line leaves a zone's set. -/
theorem State.leaveHoldLine_becomes {s : State} {z : Zone} {x : ZoneRec} (hx : s.zones[z] = some x) (l : Line) :
    let t := s.leaveHoldLine z l
    let lines := x.holdLines.filter (· ≠ l)
    let delay := x.cfg.egressDelay x.summary.load
    (x.state = .held → lines = [] → x.holdAlarms = [] → s.grantsFit z →
      let y : ZoneRec :=
        { x with state := .countdown, holdLines := [], delay := some delay, remaining := some (max (x.remaining.getD 0) delay) }
      t = { s with zones := s.zones.put z (some y), doors := t.doors, bus := t.bus, link := t.link, ports := t.ports } ∧
        t.link = s.link.shows z y (s.alarms.displayFlag z) s.occupancy.warning[z] ∧
        (s.noneWaiting z → QueuesGain s t [zoneStateBody z y x.state .holdReleased])) ∧
      (x.state ≠ .held ∨ lines ≠ [] ∨ x.holdAlarms ≠ [] → t = { s with zones := s.zones.put z (some { x with holdLines := lines }) }) := by
  intro t lines delay
  obtain ⟨w, hw⟩ : ∃ w : ZoneRec, w = { x with holdLines := lines } := ⟨_, rfl⟩
  obtain ⟨u, hu⟩ : ∃ u : State, u = { s with zones := s.zones.put z (some w) } := ⟨_, rfl⟩
  have filtered : x.holdLines.filter (· != l) = lines := List.filter_congr fun m _ => Bool.eq_iff_iff.2 (by simp)
  have leaves : t = u.afterLeave z := by
    simp only [t, State.leaveHoldLine, hu, hw, State.updZone, hx, Option.map_some, filtered]
  have here : u.zones[z] = some w := by rw [hu]; exact Tab.getElem_put_self ..
  have freed : (w.state == .held && w.noHold) = true ↔ x.state = .held ∧ lines = [] ∧ x.holdAlarms = [] := by
    rw [hw]
    simp [ZoneRec.noHold]
  refine ⟨fun held none_ alarms fit => ?_, fun other => ?_⟩
  · intro y
    have turns : t = u.changeZone z .holdReleased (·.resumed) := by
      rw [leaves, State.afterLeave, here]
      exact if_pos (freed.2 ⟨held, none_, alarms⟩)
    have ordered := State.changeZone_orders (f := (·.resumed)) here .holdReleased rfl (by rw [hw, held]; nofun)
    have after : w.resumed = y := by rw [hw, none_]; rfl
    have before : w.state = x.state := by rw [hw]
    have same := ordered.unordered fun d r hr hin => by
      rw [hu] at hr
      exact fit.unordered hx (by rw [held]; rfl) (by rw [held]; rfl) _ hr hin
    rw [← turns, after, before, hu] at same
    simp only [Tab.put_put] at same
    exact same
  · have stays : u.afterLeave z = u := by
      rw [State.afterLeave, here]
      exact if_neg fun h => by
        obtain ⟨a, b, c⟩ := freed.1 h
        tauto
    rw [leaves, stays, hu, hw]

/-! ### A valve's feedback -/

/-- R121, R126 to R129: a report that records the feedback of output `o` and sets its path fault, without a check. -/
theorem State.feedbackFault_becomes (u : State) (o : Output) (k : LineClass) (fault : Option PathFault) :
    OutputBecomes u ((u.updOutput o fun x => { x with feedback := some k }).setPathFault o fault none) o
      { u.valves.outputs[o] with feedback := some k, fault := fault } u.valves.tests none [] :=
  u.setPathFault_becomes o (fun x => { x with feedback := some k }) fault none rfl

/-- R126, R127: a report while a check is pending. -/
theorem State.feedbackReport_checks {u : State} {o : Output} {k : LineClass} {check : Check}
    (service : (u.valves.outputs[o]).inService = true) (supervised : (u.valves.outputs[o]).feedbackLine ≠ none)
    (pending : (u.valves.outputs[o]).check = some check) :
    let x : OutputRec := { u.valves.outputs[o] with feedback := some k }
    (k ≠ check.kind.wanted → OutputBecomes u (u.feedbackReport o k) o x u.valves.tests none []) ∧
      (k = check.kind.wanted → ∃ v, OutputBecomes u v o { x with check := none, fault := none } u.valves.tests none [] ∧
        u.feedbackReport o k = v.testChecked o check.kind true) := by
  intro x
  obtain ⟨v, hv⟩ : ∃ v, v = u.updOutput o fun x => { x with feedback := some k } := ⟨_, rfl⟩
  have here : v.valves.outputs[o] = x := by rw [hv]; simp [x]
  have judged : u.feedbackReport o k = v.judgeCheck o := by
    have line : (u.valves.outputs[o]).feedbackLine.isNone = false := by simpa [Option.isSome_iff_ne_none] using supervised
    simp only [State.feedbackReport, service, line, pending, Option.isSome_some, if_true, Bool.not_true, Bool.or_self, Bool.false_eq_true,
      if_false, hv]
  refine ⟨fun other => ?_, fun wanted => ?_⟩
  · have waits : v.judgeCheck o = v := by
      simp only [State.judgeCheck, here, x, pending]
      exact if_neg fun e => other (Option.some.inj e)
    rw [judged, waits, hv]
    exact u.updOutput_becomes o (fun x => { x with feedback := some k }) none rfl
  · have passes : v.judgeCheck o = v.passCheck o check.kind := by
      simp only [State.judgeCheck, here, x, pending]
      exact if_pos (congrArg some wanted)
    have becomes := u.setPathFault_becomes o (fun x => { x with feedback := some k, check := none }) none none rfl
    refine ⟨_, becomes, ?_⟩
    rw [judged, passes, State.passCheck, hv, State.updOutput_updOutput]

section
variable {u : State} {o : Output} {k : LineClass} (service : (u.valves.outputs[o]).inService = true)
  (supervised : (u.valves.outputs[o]).feedbackLine ≠ none) (idle : (u.valves.outputs[o]).check = none)
include service supervised idle

/-- R128: a report out of ACTIVE while an output is ON. -/
theorem State.feedbackReport_fails {fault : PathFault} (on : (u.valves.outputs[o]).drive = true)
    (active : (u.valves.outputs[o]).feedback = some .active) (hf : faultWhileOn k = some fault) :
    OutputBecomes u (u.feedbackReport o k) o { u.valves.outputs[o] with feedback := some k, fault := some fault } u.valves.tests none [] := by
  have line : (u.valves.outputs[o]).feedbackLine.isNone = false := by simpa [Option.isSome_iff_ne_none] using supervised
  have sets : u.feedbackReport o k = (u.updOutput o fun x => { x with feedback := some k }).setPathFault o (some fault) none := by
    simp only [State.feedbackReport, service, line, idle, on, active, hf, Option.isSome_none, Bool.not_true, Bool.or_self,
      Bool.false_eq_true, if_false, if_true]
  rw [sets]
  exact u.feedbackFault_becomes o k _

/-- R128: any other report while an output is ON. -/
theorem State.feedbackReport_stands (on : (u.valves.outputs[o]).drive = true)
    (other : (u.valves.outputs[o]).feedback ≠ some .active ∨ k = .active) :
    OutputBecomes u (u.feedbackReport o k) o { u.valves.outputs[o] with feedback := some k } u.valves.tests none [] := by
  have line : (u.valves.outputs[o]).feedbackLine.isNone = false := by simpa [Option.isSome_iff_ne_none] using supervised
  have records : u.feedbackReport o k = u.updOutput o fun x => { x with feedback := some k } := by
    simp only [State.feedbackReport, service, line, idle, on, Option.isSome_none, Bool.not_true, Bool.or_self, Bool.false_eq_true, if_false,
      if_true]
    split
    · next f active hf =>
      obtain other | rfl := other
      · exact absurd active other
      · cases hf
    · rfl
  rw [records]
  exact u.updOutput_becomes o (fun x => { x with feedback := some k }) none rfl

/-- R129: a report while an output is OFF. -/
theorem State.feedbackReport_rests (off : (u.valves.outputs[o]).drive = false) :
    OutputBecomes u (u.feedbackReport o k) o { u.valves.outputs[o] with feedback := some k, fault := faultAtRest k } u.valves.tests none [] := by
  have line : (u.valves.outputs[o]).feedbackLine.isNone = false := by simpa [Option.isSome_iff_ne_none] using supervised
  have sets : u.feedbackReport o k = (u.updOutput o fun x => { x with feedback := some k }).setPathFault o (faultAtRest k) none := by
    simp only [State.feedbackReport, service, line, idle, off, Option.isSome_none, Bool.not_true, Bool.or_self, Bool.false_eq_true,
      if_false]
  rw [sets]
  exact u.feedbackFault_becomes o k _

end

/-- R8: an egress handle's report. -/
theorem State.handleReport_eq (s : State) (d : Door) (k : LineClass) (stamp : Nat) :
    s.handleReport d k stamp =
      { s with
        doors := if k = .active then s.doors.put d ((s.doors[d]).map fun x => { x with handleActive := some stamp }) else s.doors } := by
  unfold State.handleReport
  split
  · rfl
  · rfl

/-- R132: a check that passes is taken by the test release of its zone, where one waits for it. -/
theorem OutputBecomes.testChecked {u v : State} {z : Zone} {x : OutputRec}
    (h : OutputBecomes u v (selectorOf z) x u.valves.tests none []) (kind : CheckKind) :
    let t := v.testChecked (selectorOf z) kind true
    match kind, u.valves.tests[z] with
    | .onCheck, some ⟨start, .first _⟩ =>
      OutputBecomes u t (selectorOf z) x (u.valves.tests.put z (some ⟨start, .first true⟩)) none []
    | .offCheck, some ⟨_, .second onPassed⟩ =>
      OutputBecomes u t (selectorOf z) x (u.valves.tests.put z none) none [.testResult z onPassed true false]
    | .onCheck, _ | .offCheck, _ => OutputBecomes u t (selectorOf z) x u.valves.tests none [] := by
  intro t
  have tests : v.valves.tests = u.valves.tests := by rw [h.1]
  cases running : u.valves.tests[z] with
  | none =>
    have same : t = v := State.testChecked_none (by rw [tests]; exact running) ..
    rw [same]
    cases kind <;> exact h
  | some test =>
    obtain ⟨start, stage⟩ := test
    cases stage with
    | first was =>
      have taken : t = _ := State.testChecked_first (by rw [tests]; exact running) ..
      rw [taken]
      cases kind with
      | onCheck => exact h.setTest z _
      | offCheck => exact h
    | second on =>
      have taken : t = _ := State.testChecked_second (by rw [tests]; exact running) ..
      rw [taken]
      cases kind with
      | onCheck => exact h
      | offCheck => exact (h.setTest z none).notify _

/-- Settles O15: the LINE_FAULT notice aside, each role's rule alone acts, by the lemmas above. -/
theorem otherLineReportsAreHandedOn : Obligations.OtherLineReportsAreHandedOn := by
  intro s l code r k reports u faults completes onlyTells
  have fresh : r.reported ≠ some k := reports.2.2.2.2.1
  have told (role : ∀ o, r.cfg.role ≠ .valveFeedback o) :
      ∃ ps, exec (.lineScan l code) s = .next (({ u with ports := ps } : State).handReport l r.cfg.role r.reported k s.nowMs) ∧
        QueuesGain u { u with ports := ps } faults := by
    obtain ⟨frame, gains⟩ := State.notifyLineFault_tells u l r k role
    have run : exec (.lineScan l code) s =
        .next ((u.notifyLineFault l r.cfg.role r.reported k).handReport l r.cfg.role r.reported k s.nowMs) := exec_lineScan_reports reports
    rw [frame] at run gains
    exact ⟨_, run, gains⟩
  refine ⟨fun role => ?_, fun d role => ?_, fun z role => ?_, fun z role => ?_, fun o role => ?_⟩
  · rw [role] at told
    obtain ⟨ps, run, gains⟩ := told nofun
    exact ⟨_, run, rfl, gains⟩
  · rw [role] at told
    obtain ⟨ps, run, gains⟩ := told nofun
    have handled := State.handleReport_eq { u with ports := ps } d k s.nowMs
    change exec (.lineScan l code) s = .next (State.handleReport { u with ports := ps } d k s.nowMs) at run
    rw [handled] at run
    exact ⟨_, run, rfl, gains.congr rfl rfl rfl⟩
  · rw [role] at told
    obtain ⟨ps, run, gains⟩ := told nofun
    obtain ⟨v, hv⟩ : ∃ v : State, v = { u with ports := ps } := ⟨_, rfl⟩
    rw [← hv] at run gains
    have frame : v = { u with ports := v.ports } := by rw [hv]
    refine ⟨fun nowhere => ?_, fun other before => ?_, fun x hx => ?_⟩
    · have stays : v.handReport l (.abortStation z) r.reported k s.nowMs = v := by
        rw [hv]
        exact if_neg (by rw [Option.isSome_iff_ne_none]; exact not_not_intro nowhere)
      exact ⟨v, stays ▸ run, frame, gains⟩
    · have stays : v.handReport l (.abortStation z) r.reported k s.nowMs = v := by
        simp only [State.handReport, State.abortReport, if_neg other, if_neg before, ite_self]
      exact ⟨v, stays ▸ run, frame, gains⟩
    · have handed : v.handReport l (.abortStation z) r.reported k s.nowMs = v.abortReport z l r.reported k := by
        rw [hv]
        exact if_pos (Option.isSome_iff_exists.2 ⟨x, hx⟩)
      rw [handed] at run
      subst hv
      intro keeps turns
      have turned {y : ZoneRec} {cause : ZoneCause} {t : State} (run : exec (.lineScan l code) s = .next t)
          (same : t = { u with
            zones := s.zones.put z (some y), doors := t.doors, bus := t.bus, link := t.link, ports := t.ports })
          (link : t.link = s.link.shows z y (s.alarms.displayFlag z) s.occupancy.warning[z])
          (more : s.noneWaiting z → QueuesGain { u with ports := ps } t [zoneStateBody z y x.state cause]) : turns y cause :=
        ⟨t, run, same, link, fun none_ => gains.trans (more none_) rfl⟩
      refine ⟨fun active => ?_, fun before => ?_⟩
      · intro lines
        have joins : State.abortReport { u with ports := ps } z l r.reported k = State.joinHoldLine { u with ports := ps } z l := if_pos active
        rw [joins] at run
        obtain ⟨counting, other⟩ := State.joinHoldLine_becomes (s := { u with ports := ps }) (z := z) (x := x) hx l
        refine ⟨fun h fit => ?_, fun h => ?_⟩
        · obtain ⟨same, link, more⟩ := counting h fit
          exact turned run same link more
        · have same := other h
          rw [same] at run
          exact ⟨_, run, rfl, gains.congr rfl rfl rfl⟩
      · intro lines delay
        have inactive : k ≠ .active := fun e => fresh (e ▸ before)
        have leaves : State.abortReport { u with ports := ps } z l r.reported k = State.leaveHoldLine { u with ports := ps } z l :=
          (if_neg inactive).trans (if_pos before)
        rw [leaves] at run
        obtain ⟨freed, other⟩ := State.leaveHoldLine_becomes (s := { u with ports := ps }) (z := z) (x := x) hx l
        refine ⟨fun held none_ alarms fit => ?_, fun h => ?_⟩
        · obtain ⟨same, link, more⟩ := freed held none_ alarms fit
          exact turned run same link more
        · have same := other h
          rw [same] at run
          exact ⟨_, run, rfl, gains.congr rfl rfl rfl⟩
  · rw [role] at told
    obtain ⟨ps, run, gains⟩ := told nofun
    obtain ⟨v, hv⟩ : ∃ v : State, v = { u with ports := ps } := ⟨_, rfl⟩
    rw [← hv] at run gains
    have frame : v = { u with ports := v.ports } := by rw [hv]
    refine ⟨fun nowhere => ?_, fun other before => ?_, fun here sound => ?_⟩
    · have stays : v.handReport l (.alarmButton z) r.reported k s.nowMs = v := by
        rw [hv]
        exact if_neg (by rw [Option.isSome_iff_ne_none]; exact not_not_intro nowhere)
      exact ⟨v, stays ▸ run, frame, gains⟩
    · have stays : v.handReport l (.alarmButton z) r.reported k s.nowMs = v := by
        simp only [State.handReport, State.buttonReport, if_neg other, if_neg before, ite_self]
      exact ⟨v, stays ▸ run, frame, gains⟩
    · have handed : v.handReport l (.alarmButton z) r.reported k s.nowMs = v.buttonReport z l r.reported k := by
        rw [hv]
        exact if_pos (Option.isSome_iff_ne_none.2 here)
      have sound : AlarmListSound v := by
        rw [hv]
        exact sound
      rw [handed] at run
      intro hands
      refine ⟨fun active => ?_, fun before => ?_⟩
      · have raises : v.buttonReport z l r.reported k = v.raiseAlarm .alarmButton (.line l) (some z) := if_pos active
        exact ⟨_, raises ▸ run, v, frame, gains, State.raiseAlarm_raises sound ..⟩
      · have inactive : k ≠ .active := fun e => fresh (e ▸ before)
        have gone : v.buttonReport z l r.reported k = v.conditionGone .alarmButton (.line l) :=
          (if_neg inactive).trans (if_pos before)
        exact ⟨_, gone ▸ run, v, frame, gains, v.conditionGone_ends _ _ sound⟩
  · have run : exec (.lineScan l code) s = .next (u.feedbackReport o k) := by
      have quiet : u.notifyLineFault l r.cfg.role r.reported k = u := by
        rw [role]
        rfl
      have run : exec (.lineScan l code) s =
          .next ((u.notifyLineFault l r.cfg.role r.reported k).handReport l r.cfg.role r.reported k s.nowMs) :=
        exec_lineScan_reports reports
      rw [quiet, role] at run
      exact run
    intro w x tests settles
    refine ⟨fun out => ?_, fun service supervised => ⟨fun check pending => ?_, fun idle on => ⟨fun active fault h => ?_, fun h => ?_⟩,
      fun idle off fault h => ?_⟩⟩
    · have ignores : u.feedbackReport o k = u := if_pos (by
        rw [Bool.or_eq_true, Bool.not_eq_true', Option.isNone_iff_eq_none]
        exact out)
      rw [run, ignores]
    · obtain ⟨waits, passes⟩ := State.feedbackReport_checks (u := u) (o := o) (k := k) service supervised pending
      intro wanted passed
      refine ⟨fun other => ⟨_, run, waits other⟩, fun same => ?_⟩
      obtain ⟨v, becomes, judged⟩ := passes same
      rw [judged] at run
      refine ⟨fun bank main => ?_, fun z selector => ?_⟩
      · subst main
        rw [State.testChecked_mainValve] at run
        exact ⟨v, run, becomes⟩
      · subst selector
        have taken := becomes.testChecked check.kind
        obtain ⟨kind, edge, expiry⟩ := check
        have settled {after : Tab (Option TestRec) 8} {more : List NoticeBody}
            (h : OutputBecomes u (v.testChecked (selectorOf z) kind true) (selectorOf z) passed after none more) : settles passed after more :=
          ⟨_, run, h⟩
        have stands : tests[z] = u.valves.tests[z] := rfl
        revert taken
        rw [stands]
        cases u.valves.tests[z] with
        | none => cases kind <;> exact settled
        | some test =>
          obtain ⟨start, stage⟩ := test
          cases stage <;> cases kind <;> exact settled
    · have hf : faultWhileOn k = some fault := by
        obtain ⟨rfl, rfl⟩ | ⟨rfl, rfl⟩ | ⟨rfl, rfl⟩ := h <;> rfl
      exact ⟨_, run, State.feedbackReport_fails (u := u) service supervised idle on active hf⟩
    · exact ⟨_, run, State.feedbackReport_stands (u := u) service supervised idle on h⟩
    · have hf : fault = faultAtRest k := by
        obtain ⟨rfl, rfl⟩ | ⟨rfl, rfl⟩ | ⟨rfl, rfl⟩ | ⟨rfl, rfl⟩ := h <;> rfl
      rw [hf]
      exact ⟨_, run, State.feedbackReport_rests (u := u) service supervised idle off⟩

end Sys2Proof.Machine

namespace Sys2Proof.Machine

/-! ## The installation of a grant -/

/-- R78, R91: places are reserved, and the summary as it then stands is recorded: all it does. -/
theorem State.reservePlaces_eq (s : State) (z : Zone) (n : Nat) :
    s.reservePlaces z n =
      { s with
        occupancy := { s.occupancy with reserved := s.occupancy.reserved.put z (s.occupancy.reserved[z] + n) },
        zones := s.zones.put z ((s.zones[z]).map fun r => { r with summary := (s.reservePlaces z n).summaryOf z }) } := by
  have same : (s.reservePlaces z n).summaryOf z =
      (s.updOccupancy fun o => { o with reserved := o.reserved.put z (o.reserved[z] + n) }).summaryOf z :=
    State.summaryOf_congr rfl (by simp [State.reservePlaces, State.recordSummary, Function.comp_def])
  rw [same]
  rfl

/-- R45: the first person of a superseded pairing record is told where the grant does not carry them. -/
theorem State.supersedePairing_gains (u : State) (d : Door) (r : DoorRec) (g : Grant) :
    QueuesGain u (u.supersedePairing d r g)
      ((r.pairing.toList.filter fun x => g.kind ≠ .exit ∧ ∀ y ∈ g.persons, y.person ≠ x.first.person).map
        fun x => .accessWithdrawn d .superseded none (some x.first)) := by
  unfold State.supersedePairing
  cases r.pairing with
  | none => exact .refl u
  | some p =>
    by_cases exit : g.kind = .exit
    · simp only [exit, if_true]
      simpa using QueuesGain.refl u
    · simp only [if_neg exit]
      split
      · next carried =>
        obtain ⟨y, hy, same⟩ := List.any_eq_true.1 carried
        have none_ : ([p].filter fun x => g.kind ≠ .exit ∧ ∀ y ∈ g.persons, y.person ≠ x.first.person) = [] :=
          List.filter_eq_nil_iff.2 fun x hx h => by
            obtain rfl := List.mem_singleton.1 hx
            exact (of_decide_eq_true h).2 y hy (of_decide_eq_true same)
        rw [Option.toList_some, none_]
        exact .of_ports rfl
      · next uncarried =>
        have kept : ([p].filter fun x => g.kind ≠ .exit ∧ ∀ y ∈ g.persons, y.person ≠ x.first.person) = [p] :=
          List.filter_eq_self.2 fun x hx => by
            obtain rfl := List.mem_singleton.1 hx
            exact decide_eq_true ⟨exit, fun y hy same => uncarried (List.any_eq_true.2 ⟨y, hy, decide_eq_true same⟩)⟩
        rw [Option.toList_some, kept]
        exact (State.notify_gains _ _).congr rfl rfl rfl

/-- R34, R45, R47, R68, R78: all that the installation of a grant does. -/
theorem State.installGrant_installs {s : State} {d : Door} {r : DoorRec} (hr : s.doors[d] = some r) (secure : r.state = .secure)
    (kind : GrantKind) (persons : List GrantPerson) (places : Nat) :
    Installs s (s.installGrant d r kind persons places) d r kind persons places := by
  unfold Installs
  intro g y
  obtain ⟨u, hu⟩ : ∃ u, u = s.reservePlaces r.cfg.inside places := ⟨_, rfl⟩
  obtain ⟨v, hv⟩ : ∃ v, v = u.supersedePairing d r g := ⟨_, rfl⟩
  obtain ⟨w, hw⟩ : ∃ w, w = v.updDoor d fun x => { x with state := .unlocked, grant := some g, withdrawnEnd := none } := ⟨_, rfl⟩
  obtain ⟨told, ht⟩ : ∃ b : NoticeBody, b = .doorState d .unlocked .secure .grant (some g) none := ⟨_, rfl⟩
  have udoors : u.doors[d] = some r := by rw [hu, State.reservePlaces_eq]; exact hr
  have wdoors : w.doors = s.doors.put d (some y) := by
    rw [hw, State.updDoor_doors, hv, State.supersedePairing_doors u d r g udoors, hu, State.reservePlaces_eq, Tab.getElem_put_self,
      Option.map_some, Tab.put_put]
  have here : w.doors[d] = some y := by rw [wdoors]; exact Tab.getElem_put_self ..
  have gains : QueuesGain s (w.notify told)
      ((r.pairing.toList.filter fun x => kind ≠ .exit ∧ ∀ y ∈ persons, y.person ≠ x.first.person).map
        (fun x => .accessWithdrawn d .superseded none (some x.first)) ++ [told]) := by
    have first := (u.supersedePairing_gains d r g).congr (s' := s) (t' := w) (by rw [hu, State.reservePlaces_eq])
      (by rw [hu, State.reservePlaces_eq]) (by rw [hw, hv]; rfl)
    exact first.notify (by simp [hw, hv, hu]) told
  have zones : w.zones = u.zones := by simp [hw, hv]
  have bars : (w.notify told).bars r.cfg.inside = s.bars r.cfg.inside := by simp [hw, hv, hu]
  obtain ⟨shape, drives, gains⟩ := State.refreshDrive_told (u := w.notify told) (d := d) (r := r) (y := y) (by simp [wdoors]) rfl
    (by simp [hw, hv, hu]) (by simp [hw, hv, hu]) bars gains (.accessGranted d g)
  have installs : s.installGrant d r kind persons places = ((w.notify told).refreshDrive d).notify (.accessGranted d g) := by
    have notified : w.notifyDoor d r.state .grant (some g) = w.notify told := by
      rw [State.notifyDoor_eq here, ht, secure]
      rfl
    rw [← notified, hw, hv, hu]
    rfl
  rw [installs]
  refine ⟨?_, drives, by rw [List.append_assoc] at gains; rw [ht] at gains ⊢; exact gains⟩
  have summary : (((w.notify told).refreshDrive d).notify (.accessGranted d g)).summaryOf r.cfg.inside = u.summaryOf r.cfg.inside :=
    State.summaryOf_congr (by simp [hw, hv]) (by simp [zones])
  have uzones : u.zones = s.zones.put r.cfg.inside ((s.zones[r.cfg.inside]).map fun z => { z with summary := u.summaryOf r.cfg.inside }) := by
    rw [hu]
    exact congrArg State.zones (State.reservePlaces_eq ..)
  have uoccupancy : u.occupancy =
      { s.occupancy with reserved := s.occupancy.reserved.put r.cfg.inside (s.occupancy.reserved[r.cfg.inside] + places) } := by
    rw [hu, State.reservePlaces_eq]
  rw [summary, ← uzones, ← uoccupancy]
  conv_lhs => rw [shape]
  apply State.ext_fields <;> simp [hw, hv, hu]

/-! ## Requests that install a grant -/

theorem DoorState.faulty_iff (x : DoorState) : x.faulty = true ↔ x = .offline ∨ x = .fault := by
  cases x <;> simp [DoorState.faulty]

/-- R34: at a SECURE door without a grant, its partner SECURE and its zone permitting the kind, a grant offered is installed. -/
theorem State.offerGrant_installs {s : State} {r : DoorRec} {kind : GrantKind} (secure : r.state = .secure) (free : r.grant = none)
    (partner : s.partnerSecure r.cfg = true) (permits : s.zonePermits r.cfg.inside kind = true) (d : Door) (persons : List GrantPerson)
    (places : Nat) : s.offerGrant d r kind persons places = (s.installGrant d r kind persons places, none) := by
  rw [State.offerGrant, State.installRefusal_none.2 ⟨secure, free, partner, permits⟩]

/-- R34: at any other door that is neither OFFLINE nor in FAULT it is refused DOOR_BUSY. -/
theorem State.offerGrant_busy {s : State} {r : DoorRec} (sound : r.state.faulty = false) (busy : r.state ≠ .secure ∨ r.grant ≠ none)
    (d : Door) (kind : GrantKind) (persons : List GrantPerson) (places : Nat) :
    s.offerGrant d r kind persons places = (s, some .doorBusy) := by
  have : (r.state != .secure || r.grant.isSome) = true := by
    rw [Bool.or_eq_true, bne_iff_ne, Option.isSome_iff_ne_none]
    exact busy
  rw [State.offerGrant, State.installRefusal, sound, if_neg (by decide), if_pos this]

/-- The persons of a grant that a superseded first person is none of. -/
theorem GrantPerson.others (persons : List GrantPerson) (kind : GrantKind) (h : kind ≠ .exit) (l : List Pairing) :
    (l.filter fun x => kind ≠ .exit ∧ ∀ y ∈ persons, y.person ≠ x.first.person) =
      l.filter fun x => persons.all fun y => y.person ≠ x.first.person :=
  List.filter_congr fun x _ => Bool.eq_iff_iff.2 (by simp [h])

/-- R76, R166: what a request answered with an installed grant comes to. -/
theorem Installs.answers {s t : State} {p : Port} {f : Frame} {d : Door} {r : DoorRec} {z : ZoneRec} {kind : GrantKind}
    {persons : List GrantPerson} {places : Nat} (h : Installs (s.hunting p) t d r kind persons places)
    (hz : s.zones[r.cfg.inside] = some z) (entering : kind ≠ .exit) :
    let g : Grant := ⟨kind, persons, s.nowMs + r.cfg.unlockWindow * 1000, places⟩
    let y : DoorRec := { r with state := .unlocked, grant := some g, pairing := none, withdrawnEnd := none }
    let a := (t.reply .ok).answerTo p f
    a = { s with
        doors := s.doors.put d (some (y.driven (zoneBars z))),
        occupancy :=
          { s.occupancy with reserved := s.occupancy.reserved.put r.cfg.inside (s.occupancy.reserved[r.cfg.inside] + places) },
        zones := s.zones.put r.cfg.inside (some { z with summary := a.summaryOf r.cfg.inside }),
        bus := a.bus, ports := a.ports } ∧
    DoorDrives s a y (zoneBars z) ∧
    PortsAnswer s a p f .ok []
      ((r.pairing.toList.filter fun x => persons.all fun y => y.person ≠ x.first.person).map
          (fun x => .accessWithdrawn d .superseded none (some x.first))
        ++ [.doorState d .unlocked .secure .grant (some g) none, .accessGranted d g]) := by
  intro g y a
  have bars : (s.hunting p).bars r.cfg.inside = zoneBars z := by
    show (s.zones[r.cfg.inside]).any zoneBars = zoneBars z
    rw [hz, Option.any_some]
  have zone : (s.hunting p).zones[r.cfg.inside] = some z := hz
  unfold Installs at h
  simp only [if_neg entering, bars, GrantPerson.others persons kind entering, zone, Option.map_some] at h
  obtain ⟨frame, drives, gains⟩ := h
  refine ⟨?_, drives.congr rfl rfl rfl, Reply.answerTo_ports gains⟩
  have answer : a = { t with ports := a.ports } := Reply.answerTo_eq ..
  have summary : a.summaryOf r.cfg.inside = t.summaryOf r.cfg.inside := State.summaryOf_congr rfl rfl
  have bus : a.bus = t.bus := rfl
  rw [summary, bus]
  conv_lhs => rw [answer, frame]
  rfl

/-- R166: one door, and nobody or one person. -/
theorem readResponse_nobody (n : Byte) : readResponse [n, 0] = some (n.toNat, none) := by
  simp only [readResponse, Payload.number_cons]
  rfl

theorem readResponse_person (n x y : Byte) : readResponse [n, 1, x, y] = some (n.toNat, some (numberOf [x, y])) := by
  simp only [readResponse, Payload.number_cons]
  rfl

/-- A mark is 0 or 1. -/
theorem Payload.mark_eq_none {b : Byte} (zero : b ≠ 0) (one : b ≠ 1) (rest : List Byte) : Payload.mark (b :: rest) = none := by
  simp only [Payload.mark, Payload.number_cons, Option.bind_eq_bind, Option.bind_some]
  split
  · next h => exact absurd (BitVec.eq_of_toNat_eq h) zero
  · next h => exact absurd (BitVec.eq_of_toNat_eq h) one
  · rfl

/-- R166: every other payload is none. -/
theorem readResponse_eq_none {l : List Byte} (nobody : ∀ n, l ≠ [n, 0]) (person : ∀ n x y, l ≠ [n, 1, x, y]) : readResponse l = none := by
  match l, nobody, person with
  | [], _, _ => rfl
  | [n], _, _ =>
    simp only [readResponse, Payload.number_cons]
    rfl
  | n :: b :: rest, nobody, person =>
    simp only [readResponse, Payload.number_cons, Option.bind_eq_bind, Option.bind_some]
    by_cases zero : b = 0
    · subst zero
      match rest, nobody with
      | [], nobody => exact absurd rfl (nobody n)
      | _ :: _, _ => rfl
    by_cases one : b = 1
    · subst one
      match rest, person with
      | [], _ | [_], _ => rfl
      | [x, y], person => exact absurd rfl (person n x y)
      | _ :: _ :: _ :: _, _ => rfl
    · simp only [Payload.opt, Payload.mark_eq_none zero one]
      rfl

/-- R76, R184: the first case that applies refuses a DOOR_PULSE, or the COMMAND grant is installed. -/
theorem State.pulseDoor_eq (s : State) (d : Door) {r : DoorRec} {z : ZoneRec} (hz : s.zones[r.cfg.inside] = some z)
    (unlocked : r.state = .unlocked ↔ r.grant ≠ none) :
    ∀ refusal : Option (Status × List Byte), refusal =
      (if r.state = .offline ∨ r.state = .fault then some (.wrongState, [0])
      else if zoneBars z = true then some (.wrongState, [2])
      else if s.entryCondition r.cfg [] = false then some (.wrongState, [3])
      else if s.partnerSecure r.cfg = false then some (.interlock, [])
      else if r.state ≠ .secure then some (.wrongState, [1])
      else none) →
    s.pulseDoor d r = (refusal.map fun x => ⟨s, x.1, x.2⟩).getD ((s.installGrant d r .command [] 0).reply .ok) := by
  rintro refusal rfl
  have bars : s.bars r.cfg.inside = zoneBars z := by rw [State.bars, hz, Option.any_some]
  simp only [State.pulseDoor, bars, Bool.not_eq_true', ← DoorState.faulty_iff]
  by_cases faulty : r.state.faulty = true
  · rw [if_pos faulty, if_pos faulty]
    rfl
  rw [if_neg faulty, if_neg faulty]
  by_cases barred : zoneBars z = true
  · rw [if_pos barred, if_pos barred]
    rfl
  rw [if_neg barred, if_neg barred]
  by_cases condition : s.entryCondition r.cfg [] = false
  · rw [if_pos condition, if_pos condition]
    rfl
  rw [if_neg condition, if_neg condition]
  by_cases partner : s.partnerSecure r.cfg = false
  · rw [if_pos partner, if_pos partner]
    rfl
  rw [if_neg partner, if_neg partner]
  by_cases secure : r.state = .secure
  · have free : r.grant = none := by simpa [secure] using unlocked
    have permits : s.zonePermits r.cfg.inside .command = true := by
      show (!s.bars r.cfg.inside) = true
      rw [bars, Bool.not_eq_true', Bool.eq_false_iff]
      exact barred
    rw [if_neg (not_not_intro secure),
      State.offerGrant_installs secure free (by simpa using partner) permits]
    rfl
  · rw [if_pos secure, State.offerGrant_busy (by simpa using faulty) (.inl secure)]
    rfl

/-- R77, R166, R184: the first case that applies refuses a RESPONSE_ENTRY, or the RESPONSE grant is installed. -/
theorem State.respond_eq (s : State) (d : Door) {r : DoorRec} {z : ZoneRec} (hz : s.zones[r.cfg.inside] = some z)
    (unlocked : r.state = .unlocked ↔ r.grant ≠ none) (named : Option Person) :
    ∀ refusal : Option (Status × List Byte), refusal =
      (if named.any (fun i => s.personAt i = none) = true then some (.notFound, [])
      else if s.alarms.inZone r.cfg.inside = [] then some (.wrongState, [4])
      else if ¬((z.state = .isolated ∧ z.entryHold = false) ∨ z.state = .guarded ∨ z.state = .occupiedHold) then
        some (.wrongState, [2])
      else if r.state = .offline ∨ r.state = .fault then some (.wrongState, [0])
      else if r.state ≠ .secure then some (.wrongState, [1])
      else if s.partnerSecure r.cfg = false then some (.interlock, [])
      else if named ≠ none ∧ s.placesFree r.cfg.inside 1 = false then some (.zoneFull, [])
      else none) →
    let persons : List GrantPerson := named.toList.map fun i => ⟨i, false⟩
    s.respond d r named =
      (refusal.map fun x => ⟨s, x.1, x.2⟩).getD ((s.installGrant d r .response persons persons.length).reply .ok) := by
  rintro refusal rfl persons
  have enters : responseMayEnter z = true ↔ (z.state = .isolated ∧ z.entryHold = false) ∨ z.state = .guarded ∨ z.state = .occupiedHold := by
    unfold responseMayEnter
    cases z.state <;> simp
  have zone : (s.zones[r.cfg.inside]).any responseMayEnter = responseMayEnter z := by rw [hz, Option.any_some]
  have unknown : (named.any fun i => (s.personAt i).isNone) = named.any fun i => Decidable.decide (s.personAt i = none) := by
    cases named with
    | none => rfl
    | some i =>
      simp only [Option.any_some]
      cases s.personAt i <;> simp
  simp only [State.respond, zone, unknown, List.isEmpty_iff, Bool.not_eq_true', ← DoorState.faulty_iff, ← enters]
  by_cases missing : (named.any fun i => Decidable.decide (s.personAt i = none)) = true
  · rw [if_pos missing, if_pos missing]
    rfl
  rw [if_neg missing, if_neg missing]
  by_cases quiet : s.alarms.inZone r.cfg.inside = []
  · rw [if_pos quiet, if_pos quiet]
    rfl
  rw [if_neg quiet, if_neg quiet]
  by_cases mayEnter : responseMayEnter z = true
  swap
  · rw [if_pos (by simpa using mayEnter), if_pos mayEnter]
    rfl
  rw [if_neg (by simpa using mayEnter), if_neg (not_not_intro mayEnter)]
  by_cases faulty : r.state.faulty = true
  · rw [if_pos faulty, if_pos faulty]
    rfl
  rw [if_neg faulty, if_neg faulty]
  by_cases secure : r.state = .secure
  swap
  · rw [if_pos (by simpa using secure), if_pos secure]
    rfl
  rw [if_neg (by simpa using secure), if_neg (not_not_intro secure)]
  by_cases partner : s.partnerSecure r.cfg = false
  · rw [if_pos partner, if_pos partner]
    rfl
  rw [if_neg partner, if_neg partner]
  have free : r.grant = none := by simpa [secure] using unlocked
  have permits : s.zonePermits r.cfg.inside .response = true := by
    show (!(s.zones[r.cfg.inside]).any fun x => stateBarsResponse x.state) = true
    rw [hz, Option.any_some]
    obtain ⟨h, -⟩ | h | h := enters.1 mayEnter <;> rw [h] <;> rfl
  cases named with
  | none =>
    rw [if_neg (by simp), if_neg (by simp), State.offerResponse, State.offerGrant_installs secure free (by simpa using partner) permits]
    rfl
  | some p =>
    by_cases full : s.placesFree r.cfg.inside 1 = false
    · rw [if_pos (by simpa using full), if_pos ⟨nofun, full⟩]
      rfl
    · rw [if_neg (by simpa using full), if_neg (by simpa using full), State.offerResponse,
        State.offerGrant_installs secure free (by simpa using partner) permits]
      rfl

/-- Settles O46: the refusals in their order by `pulseDoor_eq` and `respond_eq`, and the installation by `installGrant_installs`. -/
theorem grantsAreInstalledByRequest : Obligations.GrantsAreInstalledByRequest := by
  intro s b f pulsed responded noDoor
  refine ⟨fun ready => ⟨fun long => ?_, fun n payload none_ => ?_⟩, fun ready => ⟨fun nobody person => ?_, fun n payload none_ => ?_⟩,
    fun d r z hr hz unlocked => ?_⟩
  · exact congrArg _ (ready.answers (u := s) false rfl (by simp only [decideDoorPulse, readNumber_eq_none long]; rfl))
  · have named : (s.hunting .access).doorNamed n.toNat = none := State.doorNamed_eq_none none_
    exact congrArg _ (ready.answers (u := s) false rfl (by simp only [decideDoorPulse, payload, readNumber_singleton, named]; rfl))
  · exact congrArg _ (ready.answers (u := s) false rfl (by simp only [decideResponseEntry, readResponse_eq_none nobody person]; rfl))
  · have named : (s.hunting .console).doorNamed n.toNat = none := State.doorNamed_eq_none none_
    refine congrArg _ (ready.answers (u := s) false rfl ?_)
    obtain payload | ⟨x, y, payload⟩ := payload
    · simp only [decideResponseEntry, payload, readResponse_nobody, named]
      rfl
    · simp only [decideResponseEntry, payload, readResponse_person, named]
      rfl
  · have named (p : Port) : (s.hunting p).doorNamed (byteOf d.val).toNat = some (d, r) := by
      rw [State.doorNamed_of_eq (d := d) (door_byte d).symm]
      exact congrArg (Option.map fun r => (d, r)) hr
    intro faulty installs
    refine ⟨fun ready payload => ?_, fun ready person payload => ?_⟩
    · intro refusal
      have decided : decideDoorPulse (s.hunting .access) .access f.payload = (s.hunting .access).pulseDoor d r := by
        simp only [decideDoorPulse, payload, readNumber_singleton, named]
      replace decided := decided.trans ((s.hunting .access).pulseDoor_eq d hz unlocked refusal rfl)
      refine ⟨fun status content h => ?_, fun h => ?_⟩
      · refine congrArg _ (ready.answers (u := s) false rfl (decided.trans ?_))
        rw [h]
        rfl
      · have secure : r.state = .secure := by
          simp only [refusal] at h
          split_ifs at h with faulty barred condition partner busy
          exact not_not.1 busy
        have answer : exec (.doorPulse .access b) s =
            .next ((((s.hunting .access).installGrant d r .command [] 0).reply .ok).answerTo .access f) := by
          refine congrArg _ ((State.takeRequest_decided ready false _ _ rfl).trans (congrArg (Reply.answerTo · .access f) (decided.trans ?_)))
          rw [h]
          rfl
        exact ⟨_, answer, (State.installGrant_installs (s := s.hunting .access) hr secure .command [] 0).answers hz nofun⟩
    · intro refusal
      have read : readResponse f.payload = some ((byteOf d.val).toNat, person) := by
        obtain ⟨rfl, payload⟩ | ⟨i, small, rfl, payload⟩ := payload
        · rw [payload, readResponse_nobody]
        · rw [payload, num2, readResponse_person]
          have := numberOf_num2 i
          rw [num2, Nat.mod_eq_of_lt small] at this
          rw [this]
      have decided : decideResponseEntry (s.hunting .console) .console f.payload = (s.hunting .console).respond d r person := by
        simp only [decideResponseEntry, read, named]
      replace decided := decided.trans ((s.hunting .console).respond_eq d hz unlocked person refusal rfl)
      refine ⟨fun status content h => ?_, fun h => ?_⟩
      · refine congrArg _ (ready.answers (u := s) false rfl (decided.trans ?_))
        rw [h]
        rfl
      · have secure : r.state = .secure := by
          simp only [refusal] at h
          split_ifs at h with missing quiet barred faulty busy partner full
          exact not_not.1 busy
        have answer : exec (.responseEntry .console b) s = .next
            ((((s.hunting .console).installGrant d r .response (person.toList.map fun i => ⟨i, false⟩)
              (person.toList.map fun i => (⟨i, false⟩ : GrantPerson)).length).reply .ok).answerTo .console f) := by
          refine congrArg _ ((State.takeRequest_decided ready false _ _ rfl).trans (congrArg (Reply.answerTo · .console f) (decided.trans ?_)))
          rw [h]
          rfl
        exact ⟨_, answer, (State.installGrant_installs (s := s.hunting .console) hr secure .response _ _).answers hz nofun⟩

end Sys2Proof.Machine

namespace Sys2Proof.Machine

/-! ## What the tests of a decision ask -/

theorem State.doorState_secure_iff (s : State) (p : Door) : s.doorState p = .secure ↔ ∃ x, s.doors[p] = some x ∧ x.state = .secure := by
  unfold State.doorState
  cases s.doors[p] with
  | none => simp
  | some x => simp

theorem State.partnerSecure_iff (s : State) (cfg : DoorCfg) :
    s.partnerSecure cfg = true ↔ ∀ p, cfg.partner = some p → ∃ x, s.doors[p] = some x ∧ x.state = .secure := by
  simp only [State.partnerSecure, Option.all_eq_true, decide_eq_true_eq, State.doorState_secure_iff]

/-- R48: what each entry condition asks. -/
theorem State.entryCondition_iff (s : State) (cfg : DoorCfg) (persons : List Person) : s.entryCondition cfg persons = true ↔
    match cfg.condition with
    | .any => True
    | .never => False
    | .work => s.schedules.modes[cfg.inside] = .working
    | .after => s.schedules.modes[cfg.inside] = .after
    | .empty => (∀ e ∈ s.occupancy.entries, e.zone ≠ cfg.inside) ∧ s.occupancy.uncertain[cfg.inside] = false
    | .peopled => ∃ e ∈ s.occupancy.entries, e.zone = cfg.inside
    | .quiet => ∀ a ∈ s.alarms.records, a.zone ≠ some cfg.inside
    | .agent => ∃ r, s.zones[cfg.inside] = some r ∧ (s.banks[bankIndex r.cfg.bank]).state = .available
    | .responder => persons ≠ [] ∧ ∀ p ∈ persons, ∃ who, s.personAt p = some who ∧ who.responder = true := by
  have empty : (s.occupancy.entriesIn cfg.inside).isEmpty = true ↔ ∀ e ∈ s.occupancy.entries, e.zone ≠ cfg.inside := by
    simp [Occupancy.entriesIn]
  unfold State.entryCondition
  cases cfg.condition with
  | any => simp
  | never => simp
  | work => exact decide_eq_true_iff
  | after => exact decide_eq_true_iff
  | empty =>
    show (_ && !s.occupancy.uncertain[cfg.inside]) = true ↔ _
    rw [Bool.and_eq_true, empty, Bool.not_eq_true']
  | peopled =>
    show (!_) = true ↔ _
    rw [Bool.not_eq_true', ← Bool.not_eq_true, empty]
    push Not
    rfl
  | quiet => simp [Alarms.inZone]
  | agent =>
    simp only [State.bankOf]
    cases s.zones[cfg.inside] with
    | none => simp
    | some r => simp
  | responder => simp [Option.any_eq_true]

/-- R55. -/
theorem State.withinValidity_iff (s : State) (who : PersonRec) : s.withinValidity who = true ↔
    match s.time.tod with
    | none => who.validFrom = none ∧ who.validTo = none
    | some now => (∀ d, who.validFrom = some d → d.le now.date = true) ∧ ∀ d, who.validTo = some d → now.date.le d = true := by
  unfold State.withinValidity
  cases s.time.tod with
  | none => simp
  | some now => simp [Option.all_eq_true]

/-- R58. -/
theorem State.groupsPermit_iff (s : State) (who : PersonRec) (z : Zone) : s.groupsPermit who z = true ↔
    ∃ g : Fin 16, g.val ∈ who.groups ∧
      ((s.personnel.groups[g])[z] = .always ∨ ∃ n, (s.personnel.groups[g])[z] = .schedule n ∧ s.scheduleActive n = true) := by
  have permits (x : Permission) : s.permits x = true ↔ x = .always ∨ ∃ n, x = .schedule n ∧ s.scheduleActive n = true := by
    cases x <;> simp [State.permits]
  simp only [State.groupsPermit, List.any_eq_true, ← permits]
  constructor
  · rintro ⟨g, hg, h⟩
    split at h
    · next small => exact ⟨⟨g, small⟩, hg, h⟩
    · cases h
  · rintro ⟨g, hg, h⟩
    exact ⟨g.val, hg, by rw [dif_pos g.isLt]; exact h⟩

theorem pinRequired_iff (rule : PinRule) (mode : Mode) : pinRequired rule mode = true ↔ rule = .always ∨ (rule = .afterHours ∧ mode = .after) := by
  cases rule <;> cases mode <;> simp [pinRequired]

/-- R70: the duress variant raises the last digit. -/
theorem duressVariant_append (front : List Nat) (last : Nat) : duressVariant (front ++ [last]) = front ++ [(last + 1) % 10] := by
  induction front with
  | nil => rfl
  | cons d front ih =>
    cases front with
    | nil => rfl
    | cons e rest => exact congrArg (d :: ·) ih

/-- R70: keyed digits against a stored PIN. -/
theorem pinTest_digits (required : Bool) (front : List Nat) (last : Nat) (keyed : List Nat) :
    pinTest required (some (front ++ [last])) (.digits keyed) =
      if keyed = front ++ [(last + 1) % 10] then some true
      else if keyed = front ++ [last] ∨ required = false then some false
      else none := by
  simp only [pinTest, duressVariant_append, Bool.or_eq_true, decide_eq_true_eq, Bool.not_eq_true']

/-- R70: without a stored PIN or keyed digits. -/
theorem pinTest_without (required : Bool) (stored : Option (List Nat)) (keyed : KeyedPin)
    (h : stored = none ∨ keyed = .absent ∨ keyed = .malformed) : pinTest required stored keyed = if required = true then none else some false := by
  unfold pinTest
  split
  · obtain h | h | h := h <;> cases h
  · rfl

theorem State.noPassback_iff (s : State) (cfg : DoorCfg) (p : Person) :
    s.noPassback cfg p = true ↔ ∀ e, s.occupancy.entryOf p = some e → cfg.outside = some e.zone := by
  unfold State.noPassback State.personZone
  cases s.occupancy.entryOf p with
  | none => simp
  | some e => simp

theorem State.placesFree_iff (s : State) (z : Zone) (need : Nat) : s.placesFree z need = true ↔ ∃ r, s.zones[z] = some r ∧
    (s.occupancy.entriesIn z).length + s.occupancy.reserved[z] + need ≤ r.cfg.limit ∧
    s.occupancy.entries.length + s.occupancy.reserved.toList.sum + need ≤ 64 := by
  unfold State.placesFree State.totalPlaces
  cases s.zones[z] with
  | none => simp
  | some r => simp

theorem zoneBars_iff (r : ZoneRec) : zoneBars r = true ↔
    r.state = .occupiedHold ∨ r.state = .countdown ∨ r.state = .held ∨ r.state = .discharge ∨ r.state = .discharged ∨
      r.entryHold = true := by
  unfold zoneBars
  cases r.state <;> simp [stateBars]

theorem State.bars_iff (s : State) (z : Zone) : s.bars z = true ↔ ∃ r, s.zones[z] = some r ∧ zoneBars r = true := by
  simp only [State.bars, Option.any_eq_true]

theorem State.twoPersonApplies_iff (s : State) (z : Zone) : s.twoPersonApplies z = true ↔
    s.schedules.modes[z] = .after ∧ ∃ r, s.zones[z] = some r ∧ r.cfg.twoPerson = true := by
  simp only [State.twoPersonApplies, Bool.and_eq_true, decide_eq_true_eq, Option.any_eq_true]

/-- R55: the lookups in the personnel table. -/
theorem State.lookups_ask (s : State) (n : Nat) :
    (∀ x, s.byCredential n = some x → x ∈ s.personnel.table ∧ x.2.credential = n) ∧
    (s.byCredential n = none → ∀ x ∈ s.personnel.table, x.2.credential ≠ n) ∧
    (∀ p, s.byPendant n = some p → ∃ who, (p, who) ∈ s.personnel.table ∧ who.pendant = some n) ∧
    (s.byPendant n = none → ∀ x ∈ s.personnel.table, x.2.pendant ≠ some n) := by
  refine ⟨fun x h => ⟨List.mem_of_find?_eq_some h, by simpa using List.find?_some h⟩, fun h => by simpa [State.byCredential] using h,
    fun p h => ?_, fun h => by simpa [State.byPendant] using h⟩
  obtain ⟨⟨q, who⟩, found, rfl⟩ := Option.map_eq_some_iff.1 h
  exact ⟨who, List.mem_of_find?_eq_some found, by simpa using List.find?_some found⟩

theorem State.tests_ask (s : State) : TestsAsk s :=
  ⟨s.partnerSecure_iff, s.entryCondition_iff, s.withinValidity_iff, s.groupsPermit_iff, pinRequired_iff, pinTest_digits, pinTest_without,
    s.noPassback_iff, s.placesFree_iff, zoneBars_iff, s.bars_iff, s.twoPersonApplies_iff, s.lookups_ask⟩

/-! ## What a decision does -/

/-- R46, R47, R68: all that a denied presentation does. -/
theorem State.denyPresentation_denies {s : State} {d : Door} {r : DoorRec} (hr : s.doors[d] = some r) (x : Presentation)
    (person : Option Person) (reason : DenialReason) (duress : Bool) :
    Denies s (s.denyPresentation d x person reason duress) d r x.reader x.credential person reason duress := by
  unfold Denies
  intro y
  obtain ⟨v, hv⟩ : ∃ v, v = s.notify (.accessDenied d x.reader x.credential person reason duress) := ⟨_, rfl⟩
  have denied : s.denyPresentation d x person reason duress = v.startDenial d := by rw [hv]; rfl
  have vdoors : v.doors = s.doors.put d (some r) := by
    rw [hv, (State.notify_frame _ _).2.2.2.2.1]
    exact (put_eq_self hr.symm).symm
  obtain ⟨shape, drives⟩ := State.startDenial_becomes (r := r) vdoors rfl (by simp [hv]) (by simp [hv]) (by simp [hv])
  have ports : (v.startDenial d).ports = v.ports := by simp
  rw [denied]
  refine ⟨?_, drives, (s.notify_gains _).congr rfl rfl (by rw [ports, hv])⟩
  conv_lhs => rw [shape]
  rw [ports]
  apply State.ext_fields <;> simp [hv, y]

/-- R72: all that the creation of a pairing record does. -/
theorem State.createPairing_begins {s : State} {d : Door} {r : DoorRec} (hr : s.doors[d] = some r) (first : GrantPerson) :
    PairingBegins s (s.createPairing d r first) d r first := by
  unfold PairingBegins
  intro expiry y
  have doors : (s.updDoor d fun x => { x with pairing := some ⟨first, expiry⟩ }).doors = s.doors.put d (some y) := by
    simp only [State.updDoor_doors, hr, Option.map_some, y]
  exact State.refreshDrive_told (r := r) doors rfl rfl rfl rfl (.of_ports rfl) (.pairingStarted d first expiry)

/-- R68: a presentation whose decision is known, at a configured door. -/
theorem State.present_eq {s : State} {d : Door} {r : DoorRec} (hr : s.doors[d] = some r) {x : Presentation} {decision : Decision}
    {person : Option Person} {duress : Bool} (h : s.decide r x = (decision, person, duress)) :
    s.present d x = (s.applyDecision d r x person duress decision).raiseDuress r.cfg.inside person duress := by
  simp only [State.present, hr, h]

/-- R70: without a duress mark nothing is raised. -/
theorem State.raiseDuress_unmarked (s : State) (z : Zone) (person : Option Person) : s.raiseDuress z person false = s := by
  cases person <;> rfl

/-- R68: a presentation denied without a duress mark. -/
theorem State.present_denies {s : State} {d : Door} {r : DoorRec} (hr : s.doors[d] = some r) {x : Presentation} {reason : DenialReason}
    {person : Option Person} (h : s.decide r x = (.deny reason, person, false)) :
    Denies s (s.present d x) d r x.reader x.credential person reason false := by
  rw [State.present_eq hr h, State.raiseDuress_unmarked]
  exact State.denyPresentation_denies hr ..

/-- Step 1 of R69, at every reader. -/
theorem State.decide_faulty (s : State) {r : DoorRec} (x : Presentation) (faulty : r.state.faulty = true) :
    s.decide r x = (.deny .doorFault, (s.byCredential x.credential).map (·.1), false) := by
  unfold State.decide
  cases x.reader with
  | entryRead => exact if_pos faulty
  | exitRead => exact if_pos faulty
  | checkin => exact if_pos faulty

/-- Step 2 of R69, at every reader. -/
theorem State.decide_unknown (s : State) {r : DoorRec} (x : Presentation) (sound : r.state.faulty = false)
    (unknown : s.byCredential x.credential = none) : s.decide r x = (.deny .unknownCredential, none, false) := by
  unfold State.decide State.decideEntryRead State.decideExitRead State.decideCheckin
  rw [sound, unknown]
  cases x.reader with
  | entryRead => rfl
  | exitRead => rfl
  | checkin => rfl

section
variable {s : State} {r : DoorRec} {x : Presentation} {p : Person} {who : PersonRec} (sound : r.state.faulty = false)
  (known : s.byCredential x.credential = some (p, who))
include sound known

/-- R69, steps 3 and 4. -/
theorem State.decideEntryRead_known : s.decideEntryRead r x =
    if s.withinValidity who = false then (.deny .expired, some p, false)
    else
      match pinTest (pinRequired r.cfg.pinRule s.schedules.modes[r.cfg.inside]) who.pin x.pin with
      | none => (.deny .badPin, some p, false)
      | some duress => (s.decideEntry r ⟨p, duress⟩ who, some p, duress) := by
  simp only [State.decideEntryRead, sound, known, Bool.false_eq_true, if_false, Bool.not_eq_true'] <;> rfl

/-- R74. -/
theorem State.decideExitRead_known : s.decideExitRead r x =
    if s.withinValidity who = false then (.deny .expired, some p, false)
    else if s.partnerSecure r.cfg = false then (.deny .interlock, some p, false)
    else (.grant .exit [⟨p, false⟩] 0, some p, false) := by
  simp only [State.decideExitRead, sound, known, Bool.false_eq_true, if_false, Bool.not_eq_true']

/-- R75. -/
theorem State.decideCheckin_known : s.decideCheckin r x =
    if ∃ e, s.occupancy.entryOf p = some e ∧ e.zone = r.cfg.inside ∧ e.deadline ≠ none then (.checkIn p, some p, false)
    else (.deny .checkinRefused, some p, false) := by
  have here : ((s.occupancy.entryOf p).any fun e => Decidable.decide (e.zone = r.cfg.inside) && e.deadline.isSome) = true ↔
      ∃ e, s.occupancy.entryOf p = some e ∧ e.zone = r.cfg.inside ∧ e.deadline ≠ none := by
    simp [Option.any_eq_true, Option.isSome_iff_ne_none]
  simp only [State.decideCheckin, sound, known, Bool.false_eq_true, if_false, here]

end

/-- R72: the persons a presentation of `me` decides for: a waiting other person before it, where the two-person step applies. -/
theorem State.completes_append (s : State) (r : DoorRec) (me : GrantPerson) :
    (s.completes r me.person).toList ++ [me] =
      match r.pairing with
      | some x => if s.twoPersonApplies r.cfg.inside = true ∧ x.first.person ≠ me.person then [x.first, me] else [me]
      | none => [me] := by
  unfold State.completes
  cases r.pairing with
  | none => simp
  | some x =>
    by_cases pairs : s.twoPersonApplies r.cfg.inside = true
    · by_cases same : x.first.person = me.person <;> simp [pairs, same, Option.filter_some]
    · simp [pairs]

/-- R69, steps 5 to 12, R34: what denies the presentation of `me` once the PIN test has passed, or what it comes to. -/
theorem State.decideEntry_applies (s : State) (d : Door) (r : DoorRec) (x : Presentation) (me : GrantPerson) (who : PersonRec)
    (sound : r.state.faulty = false) :
    let z := r.cfg.inside
    let pairs := s.twoPersonApplies z = true
    let persons := (s.completes r me.person).toList ++ [me]
    let alone := pairs ∧ persons = [me]
    let applied := s.applyDecision d r x (some me.person) me.duress (s.decideEntry r me who)
    ∀ reason : Option DenialReason, reason =
      (if s.bars z = true then some .zoneBarred
      else if s.groupsPermit who z = false then some .notPermitted
      else if s.entryCondition r.cfg (persons.map (·.person)) = false then some .condition
      else if ∃ y ∈ persons, s.noPassback r.cfg y.person = false then some .passback
      else if s.placesFree z persons.length = false then some .zoneFull
      else if s.partnerSecure r.cfg = false then some .interlock
      else if alone ∧ r.pairing ≠ none then some .samePerson
      else if alone ∧ r.state = .secure then none
      else if r.state ≠ .secure ∨ r.grant ≠ none then some .doorBusy
      else none) →
    (∀ why, reason = some why → applied = s.denyPresentation d x (some me.person) why me.duress) ∧
    (reason = none → alone → applied = s.createPairing d r me) ∧
    (reason = none → ¬alone → r.state = .secure ∧ applied = s.installGrant d r .entry persons persons.length) := by
  intro z pairs persons alone applied reason found
  have denies {why : DenialReason} (first : reason = some why) (decided : s.decideEntry r me who = .deny why) :
      (∀ why, reason = some why → applied = s.denyPresentation d x (some me.person) why me.duress) ∧
      (reason = none → alone → applied = s.createPairing d r me) ∧
      (reason = none → ¬alone → r.state = .secure ∧ applied = s.installGrant d r .entry persons persons.length) := by
    rw [first]
    refine ⟨fun other h => ?_, nofun, nofun⟩
    obtain rfl := Option.some.inj h
    exact congrArg (s.applyDecision d r x (some me.person) me.duress) decided
  have all : (((s.completes r me.person).toList ++ [me]).all fun g => s.noPassback r.cfg g.person) = false ↔
      ∃ y ∈ persons, s.noPassback r.cfg y.person = false := by
    rw [List.all_eq_false]
    simp only [Bool.not_eq_true]
    rfl
  have single : (s.twoPersonApplies r.cfg.inside && (s.completes r me.person).isNone) = true ↔ alone := by
    rw [Bool.and_eq_true, Option.isNone_iff_eq_none]
    refine and_congr_right fun _ => ?_
    show _ ↔ (s.completes r me.person).toList ++ [me] = [me]
    cases s.completes r me.person <;> simp
  have step : s.decideEntry r me who =
      (if s.bars z = true then .deny .zoneBarred
      else if s.groupsPermit who z = false then .deny .notPermitted
      else if s.entryCondition r.cfg (persons.map (·.person)) = false then .deny .condition
      else if ∃ y ∈ persons, s.noPassback r.cfg y.person = false then .deny .passback
      else if s.placesFree z persons.length = false then .deny .zoneFull
      else if s.partnerSecure r.cfg = false then .deny .interlock
      else if alone then
        if r.pairing ≠ none then .deny .samePerson else if r.state = .secure then .pair me else .deny .doorBusy
      else .grant .entry persons persons.length) := by
    unfold State.decideEntry
    simp only [Bool.not_eq_true', Option.isSome_iff_ne_none, all, single]
    rfl
  by_cases barred : s.bars z = true
  · rw [if_pos barred] at found step
    exact denies found step
  rw [if_neg barred] at found step
  by_cases forbidden : s.groupsPermit who z = false
  · rw [if_pos forbidden] at found step
    exact denies found step
  rw [if_neg forbidden] at found step
  by_cases condition : s.entryCondition r.cfg (persons.map (·.person)) = false
  · rw [if_pos condition] at found step
    exact denies found step
  rw [if_neg condition] at found step
  by_cases passback : ∃ y ∈ persons, s.noPassback r.cfg y.person = false
  · rw [if_pos passback] at found step
    exact denies found step
  rw [if_neg passback] at found step
  by_cases full : s.placesFree z persons.length = false
  · rw [if_pos full] at found step
    exact denies found step
  rw [if_neg full] at found step
  by_cases partner : s.partnerSecure r.cfg = false
  · rw [if_pos partner] at found step
    exact denies found step
  rw [if_neg partner] at found step
  by_cases single : alone
  · rw [if_pos single] at step
    by_cases waits : r.pairing ≠ none
    · rw [if_pos ⟨single, waits⟩] at found
      rw [if_pos waits] at step
      exact denies found step
    rw [if_neg fun h => waits h.2] at found
    rw [if_neg waits] at step
    by_cases secure : r.state = .secure
    · rw [if_pos ⟨single, secure⟩] at found
      rw [if_pos secure] at step
      refine ⟨fun why h => absurd (found.symm.trans h) nofun, fun _ _ => ?_, fun _ other => absurd single other⟩
      exact congrArg (s.applyDecision d r x (some me.person) me.duress) step
    · rw [if_neg fun h => secure h.2, if_pos (.inl secure)] at found
      rw [if_neg secure] at step
      exact denies found step
  · rw [if_neg fun h => single h.1, if_neg fun h => single h.1] at found
    rw [if_neg single] at step
    have offered : applied = match s.offerGrant d r .entry persons persons.length with
        | (t, none) => t
        | (t, some why) => t.denyPresentation d x (some me.person) why me.duress :=
      congrArg (s.applyDecision d r x (some me.person) me.duress) step
    by_cases busy : r.state ≠ .secure ∨ r.grant ≠ none
    · rw [if_pos busy] at found
      rw [State.offerGrant_busy sound busy] at offered
      refine ⟨fun why h => ?_, fun h => absurd (found.symm.trans h) nofun, fun h => absurd (found.symm.trans h) nofun⟩
      obtain rfl := Option.some.inj (found.symm.trans h)
      exact offered
    · rw [if_neg busy] at found
      obtain ⟨secure, free⟩ := not_or.1 busy
      have permits : s.zonePermits z .entry = true := by
        show (!s.bars z) = true
        rw [Bool.not_eq_true', Bool.eq_false_iff]
        exact barred
      rw [State.offerGrant_installs (not_not.1 secure) (not_not.1 free) (by simpa using partner) permits] at offered
      exact ⟨fun why h => absurd (found.symm.trans h) nofun, fun _ h => absurd h single, fun _ _ => ⟨not_not.1 secure, offered⟩⟩

/-- R69: whatever an ENTRY_READ comes to, the alarm list stands. -/
theorem State.decideEntry_alarms (s : State) (d : Door) {r : DoorRec} (x : Presentation) (me : GrantPerson) (who : PersonRec)
    (sound : r.state.faulty = false) :
    (s.applyDecision d r x (some me.person) me.duress (s.decideEntry r me who)).alarms = s.alarms := by
  obtain ⟨reason, found⟩ : ∃ reason : Option DenialReason, reason = _ := ⟨_, rfl⟩
  obtain ⟨denied, paired, installed⟩ := s.decideEntry_applies d r x me who sound reason found
  cases hr : reason with
  | some why =>
    rw [denied why hr]
    simp
  | none =>
    by_cases alone : s.twoPersonApplies r.cfg.inside = true ∧ (s.completes r me.person).toList ++ [me] = [me]
    · rw [paired hr alone]
      simp
    · rw [(installed hr alone).2]
      simp

/-- R70: the DURESS_PIN raise of a marked presentation. -/
theorem State.raiseDuress_raises {u : State} (sound : AlarmListSound u) (z : Zone) (p : Person) (duress : Bool) :
    if duress = true then Raises u (u.raiseDuress z (some p) duress) .duressPin (.person p) (some z)
    else u.raiseDuress z (some p) duress = u := by
  cases duress with
  | true => exact State.raiseAlarm_raises sound ..
  | false => rfl

/-- Settles O20: what the tests ask by `tests_ask`, each denial by `present_denies`, and the rest by the lemma of what the decision does. -/
theorem entryReadInstallsGrant : Obligations.EntryReadInstallsGrant := by
  refine ⟨State.tests_ask, fun s d r credential pin hr alarms => ?_⟩
  intro z presented known faulty busy
  have sound_of (h : ¬faulty) : r.state.faulty = false := by
    rw [Bool.eq_false_iff]
    exact mt (DoorState.faulty_iff _).1 h
  refine ⟨fun reader => ⟨fun h => ?_, fun h unknown => ?_⟩, fun p who sane hk => ?_⟩
  · exact State.present_denies hr (s.decide_faulty _ ((DoorState.faulty_iff _).2 h))
  · exact State.present_denies hr (s.decide_unknown _ (sound_of h) unknown)
  have sound := sound_of sane
  intro denied
  have entry := State.decideEntryRead_known (x := ⟨.entryRead, credential, pin⟩) sound hk
  have exit := State.decideExitRead_known (x := ⟨.exitRead, credential, pin⟩) sound hk
  have checkin := State.decideCheckin_known (x := ⟨.checkin, credential, pin⟩) sound hk
  refine ⟨fun expired => ?_, fun valid => ?_, fun e he here due => ?_, fun refused => ?_⟩
  · rw [if_pos expired] at entry exit
    exact ⟨State.present_denies hr entry, State.present_denies hr exit⟩
  · have valid : ¬s.withinValidity who = false := by simp [valid]
    rw [if_neg valid] at entry exit
    intro tested
    refine ⟨fun bad => ?_, fun duress passed => ?_, fun partner => ?_, fun partner h => ?_, fun partner free => ?_⟩
    · have bad : pinTest (pinRequired r.cfg.pinRule s.schedules.modes[r.cfg.inside]) who.pin pin = none := bad
      simp only [bad] at entry
      exact State.present_denies hr entry
    · have passed : pinTest (pinRequired r.cfg.pinRule s.schedules.modes[r.cfg.inside]) who.pin pin = some duress := passed
      simp only [passed] at entry
      obtain ⟨u, hu⟩ : ∃ u, u = s.applyDecision d r ⟨.entryRead, credential, pin⟩ (some p) duress (s.decideEntry r ⟨p, duress⟩ who) :=
        ⟨_, rfl⟩
      have outcome : presented .entryRead = u.raiseDuress z (some p) duress := by
        rw [hu]
        exact State.present_eq hr entry
      refine ⟨u, ?_, ?_⟩
      · have same : u.alarms = s.alarms := by
          rw [hu]
          exact s.decideEntry_alarms d _ ⟨p, duress⟩ who sound
        have alarms : AlarmListSound u := by
          unfold AlarmListSound
          rw [same]
          exact alarms
        rw [outcome]
        exact State.raiseDuress_raises alarms z p duress
      intro me pairs persons alone reason
      have joined : (s.completes r me.person).toList ++ [me] = persons := s.completes_append r me
      have applies := s.decideEntry_applies d r ⟨.entryRead, credential, pin⟩ me who sound
      simp only [joined] at applies
      obtain ⟨denied, paired, installed⟩ := applies reason rfl
      refine ⟨fun why h => ?_, fun h single => ?_, fun h several => ?_⟩
      · rw [hu, denied why h]
        exact State.denyPresentation_denies hr ..
      · rw [hu, paired h single]
        exact State.createPairing_begins hr me
      · obtain ⟨secure, installs⟩ := installed h several
        rw [hu, installs]
        exact State.installGrant_installs hr secure ..
    · rw [if_pos partner] at exit
      exact State.present_denies hr exit
    · rw [if_neg (by simp [partner])] at exit
      have denies : presented .exitRead = s.denyPresentation d ⟨.exitRead, credential, pin⟩ (some p) .doorBusy false := by
        rw [show presented .exitRead = _ from State.present_eq hr exit, State.raiseDuress_unmarked, State.applyDecision,
          State.offerGrant_busy sound h]
      show Denies s (presented .exitRead) d r .exitRead credential (some p) .doorBusy false
      rw [denies]
      exact State.denyPresentation_denies hr ..
    · rw [if_neg (by simp [partner])] at exit
      obtain ⟨secure, free⟩ := not_or.1 free
      have installs : presented .exitRead = s.installGrant d r .exit [⟨p, false⟩] 0 := by
        rw [show presented .exitRead = _ from State.present_eq hr exit, State.raiseDuress_unmarked, State.applyDecision,
          State.offerGrant_installs (not_not.1 secure) (not_not.1 free) partner rfl]
      rw [installs]
      exact State.installGrant_installs hr (not_not.1 secure) ..
  · rw [if_pos ⟨e, he, here, due⟩] at checkin
    have accepted : presented .checkin = s.checkIn p :=
      (State.present_eq (x := ⟨.checkin, credential, pin⟩) hr checkin).trans (State.raiseDuress_unmarked ..)
    rw [accepted]
    exact State.checkIn_checksIn alarms p
  · rw [if_neg (by rintro ⟨e, he, here, due⟩; exact (refused e he).elim (· here) due)] at checkin
    exact State.present_denies hr checkin

end Sys2Proof.Machine

namespace Sys2Proof.Machine

/-! ## A door is lost -/

/-- R43, R44, R78: all that the removal of a door's grant does, where it has one. -/
theorem State.withdrawGrant_becomes {s : State} {d : Door} {y : DoorRec} (h : s.doors[d] = some y) (cause : WithdrawCause) :
    let z := y.cfg.inside
    let u := s.withdrawGrant d cause
    u = { s with
        doors := s.doors.put d (some { y with grant := none }),
        occupancy :=
          { s.occupancy with
            reserved := s.occupancy.reserved.put z (s.occupancy.reserved[z] - (y.grant.map (·.places)).getD 0) },
        zones := u.zones, ports := u.ports } ∧
      (y.grant = none → u.zones = s.zones) ∧
      (y.grant ≠ none → u.zones = s.zones.put z ((s.zones[z]).map fun x => { x with summary := u.summaryOf z })) ∧
      QueuesGain s u (y.grant.toList.map fun g => .accessWithdrawn d cause (some g) none) := by
  intro z u
  cases hg : y.grant with
  | none =>
    have same : u = s := by simp only [u, State.withdrawGrant, h, hg]
    have door : { y with grant := none } = y := by rw [← hg]
    rw [same]
    refine ⟨?_, fun _ => rfl, fun other => absurd rfl other, .refl s⟩
    rw [door, ← h, Tab.put_self, Option.map_none, Option.getD_none, Nat.sub_zero, Tab.put_self]
  | some g =>
    obtain ⟨frame, gains⟩ := State.withdrawGrant_only h hg cause
    have zones : u.zones = s.zones.put z ((s.zones[z]).map fun x => { x with summary := u.summaryOf z }) := congrArg State.zones frame
    refine ⟨?_, nofun, fun _ => zones, gains⟩
    rw [zones]
    exact frame

/-- R43, R44, R47: all that becoming OFFLINE or FAULT does to a door. -/
theorem State.doorLost_loses {s : State} {d : Door} {y : DoorRec} (h : s.doors[d] = some y) (state : DoorState) (cause : DoorCause)
    (shut : state ≠ .opened) :
    let z := y.cfg.inside
    let t := s.doorLost d y state cause
    let lost : DoorRec :=
      { y with
        state := state, grant := none, pairing := none, withdrawnEnd := none, openingKind := none, openSince := none,
        leftOffline := y.leftOffline || y.state == .offline }
    t = { s with
        doors := s.doors.put d (some (lost.driven (s.bars z))),
        occupancy :=
          { s.occupancy with
            reserved := s.occupancy.reserved.put z (s.occupancy.reserved[z] - (y.grant.map (·.places)).getD 0) },
        zones := t.zones, bus := t.bus, ports := t.ports } ∧
      DoorDrives s t lost (s.bars z) ∧
      (y.grant = none → t.zones = s.zones) ∧
      (y.grant ≠ none → t.zones = s.zones.put z ((s.zones[z]).map fun x => { x with summary := t.summaryOf z })) ∧
      QueuesGain s t
        (y.grant.toList.map (fun g => .accessWithdrawn d .doorFault (some g) none)
          ++ y.pairing.toList.map (fun p => .accessWithdrawn d .doorFault none (some p.first)) ++ [.doorState d state y.state cause none none]) := by
  intro z t lost
  obtain ⟨u, hu⟩ : ∃ u, u = s.withdrawGrant d .doorFault := ⟨_, rfl⟩
  obtain ⟨v, hv⟩ : ∃ v, v = u.withdrawPairing d .doorFault := ⟨_, rfl⟩
  obtain ⟨w, hw⟩ : ∃ w, w = v.updDoor d fun x =>
      { x with
        state := state, withdrawnEnd := none, openingKind := none, openSince := none,
        leftOffline := x.leftOffline || y.state == .offline } := ⟨_, rfl⟩
  obtain ⟨frame, kept, recorded, gains⟩ := State.withdrawGrant_becomes h .doorFault
  rw [← hu] at frame kept recorded gains
  have here : u.doors[d] = some { y with grant := none } := by rw [frame]; exact Tab.getElem_put_self ..
  obtain ⟨frame', gains'⟩ := State.withdrawPairing_only here .doorFault
  rw [← hv] at frame' gains'
  have doors : w.doors = s.doors.put d (some lost) := by
    rw [hw, State.updDoor_doors, frame', frame]
    simp only [Tab.getElem_put_self, Option.map_some, Tab.put_put, lost]
  have time : w.time = s.time := by simp [hw, hv, hu]
  have bus : w.bus = s.bus := by simp [hw, hv, hu]
  have bars : w.bars z = s.bars z := by simp [hw, hv, hu]
  have wzones : w.zones = u.zones := by simp [hw, hv]
  have lostGains := (gains.trans gains' (by simp [hu])).congr (s' := s) (t' := w) rfl rfl (by rw [hw]; rfl)
  obtain ⟨shape, drives, told⟩ := State.refreshDrive_told (r := y) doors rfl bus time bars lostGains (.doorState d state y.state cause none none)
  have ends : t = (w.refreshDrive d).notify (.doorState d state y.state cause none none) := by
    have notified := State.notifyDoor_driven (s := s) (r := y) doors rfl bus time bars y.state cause none
    have none_ : (if lost.state = .opened then lost.openingKind else none) = none := if_neg shut
    rw [none_] at notified
    simp only [t, State.doorLost, ← hu, ← hv, ← hw]
    exact notified
  rw [← ends] at shape drives told
  have tzones : t.zones = u.zones := by rw [← wzones, shape]
  refine ⟨?_, drives, fun none_ => tzones.trans (kept none_), fun some_ => ?_, told⟩
  · rw [tzones]
    have occupancy : u.occupancy =
        { s.occupancy with
          reserved := s.occupancy.reserved.put z (s.occupancy.reserved[z] - (y.grant.map (·.places)).getD 0) } := by rw [frame]
    rw [← occupancy]
    conv_lhs => rw [shape]
    apply State.ext_fields <;> simp [hw, hv, hu, z]
  · have summary : t.summaryOf z = u.summaryOf z :=
      State.summaryOf_congr (by rw [shape]; simp [hw, hv]) (by rw [tzones])
    rw [tzones, summary]
    exact recorded some_

/-! ## What stays of the bus -/

/-- R21: a drive that joins the pending ones is of its module. -/
theorem mem_withDrive {queue : List (Module × Drive)} {m : Module} {d : Drive} {e : Module × Drive} (h : e ∈ withDrive queue m d) :
    e ∈ queue ∨ e.1 = m := by
  unfold withDrive at h
  split at h
  · obtain ⟨x, hx, rfl⟩ := List.mem_map.1 h
    split
    · exact .inr rfl
    · exact .inl hx
  · obtain h | h := List.mem_append.1 h
    · exact .inl h
    · exact .inr (by rw [List.mem_singleton.1 h])

/-- R21, R22: on a busy bus the drive of a door at most joins the pending ones, of a module that is ONLINE. -/
theorem DoorDrives.busy {s t : State} {y : DoorRec} {barred : Bool} (h : DoorDrives s t y barred) (busy : s.bus.tx ≠ .idle) :
    t.bus = s.bus ∨ ∃ k x d, y.module = some k ∧ s.bus.modules[k] = some x ∧ x.online = true ∧
      t.bus = { s.bus with queue := withDrive s.bus.queue k d } := by
  obtain ⟨hands, rests⟩ := h
  by_cases due : y.chirpOwed = true ∨
      ∀ last, y.lastDrive = some last → last.lock ≠ doorLock y ∨ last.indicator ≠ doorIndicator y barred
  · obtain ⟨discards, joins⟩ := hands due
    by_cases online : ∃ k, y.module = some k ∧ ∃ x, s.bus.modules[k] = some x ∧ x.online = true
    · obtain ⟨k, hk, x, hx, ho⟩ := online
      exact .inr ⟨k, x, _, hk, hx, ho, (joins k hk ⟨x, hx, ho⟩).1 busy⟩
    · exact .inl (discards fun k hk ho => online ⟨k, hk, ho⟩)
  · exact .inl (rests due)

/-- R20: the arbitration leaves of a module all but the time of its last POLL. -/
theorem BusChooses.module {s t : State} {m : Module} {r : ModuleRec} (h : BusChooses s t) (hr : s.bus.modules[m] = some r) :
    ∃ stamp, t.bus.modules[m] = some { r with lastPoll := stamp } := by
  unfold BusChooses at h
  cases hq : s.bus.queue with
  | cons e rest =>
    rw [hq] at h
    rw [h]
    exact ⟨r.lastPoll, hr⟩
  | nil =>
    rw [hq] at h
    obtain ⟨k, -, -, -, h⟩ | ⟨-, h⟩ := h
    · rw [h]
      by_cases same : s.bus.position + 1 + Fin.ofNat 16 k = m
      · refine ⟨some s.nowMs, ?_⟩
        rw [same]
        show (s.bus.modules.put m _)[m] = _
        rw [Tab.getElem_put_self, hr]
        rfl
      · refine ⟨r.lastPoll, ?_⟩
        show (s.bus.modules.put _ _)[m] = _
        rw [Tab.getElem_put_of_ne (Ne.symm same), hr]
    · rw [h]
      exact ⟨r.lastPoll, hr⟩

/-- R20, R21: the arbitration adds no pending drive. -/
theorem BusChooses.queue {s t : State} (h : BusChooses s t) {e : Module × Drive} (he : e ∈ t.bus.queue) : e ∈ s.bus.queue := by
  unfold BusChooses at h
  cases hq : s.bus.queue with
  | cons x rest =>
    rw [hq] at h
    rw [h] at he
    exact List.mem_cons_of_mem _ he
  | nil =>
    rw [hq] at h
    obtain ⟨k, -, -, -, h⟩ | ⟨-, h⟩ := h
    · rw [h] at he
      exact hq ▸ he
    · rw [h] at he
      exact hq ▸ he

/-! ## A failed exchange -/

/-- R43: a module that becomes OFFLINE loses no door that is OFFLINE or in FAULT already. -/
theorem State.doorModuleOffline_stays {s : State} {d : Door} (h : ∀ y, s.doors[d] = some y → y.state = .offline ∨ y.state = .fault) :
    s.doorModuleOffline d = s := by
  unfold State.doorModuleOffline
  cases hy : s.doors[d] with
  | none => rfl
  | some y =>
    obtain e | e := h y hy
    · simp only [e]
    · simp only [e]

/-- R43: any other door is lost. -/
theorem State.doorModuleOffline_loses {s : State} {d : Door} {y : DoorRec} (hy : s.doors[d] = some y) (offline : y.state ≠ .offline)
    (fault : y.state ≠ .fault) : s.doorModuleOffline d = s.doorLost d y .offline .moduleOffline := by
  simp only [State.doorModuleOffline, hy]
  cases e : y.state with
  | offline => exact absurd e offline
  | fault => exact absurd e fault
  | secure => rfl
  | unlocked => rfl
  | opened => rfl
  | heldOpen => rfl
  | forced => rfl

/-- R43: no other door is touched. -/
theorem State.doorModuleOffline_other (s : State) {d e : Door} (h : e ≠ d) : (s.doorModuleOffline d).doors[e] = s.doors[e] := by
  by_cases lost : ∃ y, s.doors[d] = some y ∧ y.state ≠ .offline ∧ y.state ≠ .fault
  · obtain ⟨y, hy, ho, hf⟩ := lost
    rw [State.doorModuleOffline_loses hy ho hf, State.doorLost_doors, Tab.getElem_put_of_ne h]
  · rw [State.doorModuleOffline_stays fun y hy => ?_]
    by_contra h
    obtain ⟨ho, hf⟩ := not_or.1 h
    exact lost ⟨y, hy, ho, hf⟩

/-- R22: the bus once a module has become OFFLINE: its pending drives are dropped. -/
def Bus.without (u : Bus) (m : Module) (r : ModuleRec) : Bus :=
  { u with
    modules := u.modules.put m (some { r with online := false, failures := 3, tamper := none, lockFeedback := none }),
    queue := u.queue.filter fun e => e.1 ≠ m }

/-- R22, R43: what becomes of the bus when the door of a module that has become OFFLINE is lost: at most a drive of another module joins. -/
theorem State.doorModuleOffline_bus {u : State} {d : Door} {m : Module} {x : ModuleRec} (busy : u.bus.tx ≠ .idle)
    (hx : u.bus.modules[m] = some x) (offline : x.online = false) (others : ∀ e ∈ u.bus.queue, e.1 ≠ m) :
    ∃ queue, (u.doorModuleOffline d).bus = { u.bus with queue := queue } ∧ (∀ e ∈ queue, e.1 ≠ m) ∧
      ((∀ y, u.doors[d] = some y → y.module = some m) → queue = u.bus.queue) := by
  by_cases lost : ∃ y, u.doors[d] = some y ∧ y.state ≠ .offline ∧ y.state ≠ .fault
  · obtain ⟨y, hy, ho, hf⟩ := lost
    rw [State.doorModuleOffline_loses hy ho hf]
    obtain ⟨-, drives, -⟩ := State.doorLost_loses hy .offline .moduleOffline nofun
    obtain same | ⟨k, w, drive, hk, hw, online, joined⟩ := drives.busy busy
    · exact ⟨_, same, others, fun _ => rfl⟩
    · have other : k ≠ m := by
        rintro rfl
        obtain rfl := Option.some.inj (hx.symm.trans hw)
        simp [offline] at online
      refine ⟨_, joined, fun e he => ?_, fun own => absurd (Option.some.inj (hk.symm.trans (own y hy))) other⟩
      obtain he | he := mem_withDrive he
      · exact others e he
      · rw [he]
        exact other
  · have stays : u.doorModuleOffline d = u := State.doorModuleOffline_stays fun y hy => by
      by_contra h
      obtain ⟨ho, hf⟩ := not_or.1 h
      exact lost ⟨y, hy, ho, hf⟩
    rw [stays]
    exact ⟨_, rfl, others, fun _ => rfl⟩

/-- R19 to R22, R26, R43: a failed exchange is counted, and the next transaction starts. -/
theorem State.countFailure_fails {s : State} {m : Module} {r : ModuleRec} (busy : s.bus.tx ≠ .idle) (hr : s.bus.modules[m] = some r)
    (failure : PollFailure) : PollFails s (s.countFailure m failure).busFree m r failure := by
  refine ⟨fun few => ?_, fun online third => ?_⟩
  · have counted : s.countFailure m failure = s.updModule m fun x => { x with failures := min 3 (x.failures + 1) } := by
      have few : ¬(r.online && Decidable.decide (3 ≤ r.failures + 1)) = true := by
        rw [Bool.and_eq_true, decide_eq_true_eq]
        rintro ⟨online, third⟩
        obtain offline | few := few
        · simp [online] at offline
        · omega
      simp only [State.countFailure, hr, if_neg few]
    have idle : ({ s.updModule m (fun x => { x with failures := min 3 (x.failures + 1) }) with
        bus := { (s.updModule m fun x => { x with failures := min 3 (x.failures + 1) }).bus with tx := .idle } } : State) =
        s.busIdle m { r with failures := min 3 (r.failures + 1) } := by
      simp only [State.updModule, hr, Option.map_some]
      rfl
    rw [counted, ← idle]
    exact State.busFree_chooses _
  · intro told
    obtain ⟨u, hu⟩ : ∃ u : State, u = { s with bus := s.bus.without m r } := ⟨_, rfl⟩
    obtain ⟨v, hv⟩ : ∃ v, v = u.doorModuleOffline r.door := ⟨_, rfl⟩
    have here : u.bus.modules[m] = some { r with online := false, failures := 3, tamper := none, lockFeedback := none } := by
      rw [hu]
      exact Tab.getElem_put_self ..
    obtain ⟨queue, vbus, others, own⟩ := State.doorModuleOffline_bus (u := u) (d := r.door) (m := m) (by rw [hu]; exact busy) here rfl
      (by rw [hu]; exact fun e he => of_decide_eq_true (List.mem_filter.1 he).2)
    rw [← hv] at vbus
    have counted : s.countFailure m failure = v.notify told := by
      have third : (r.online && Decidable.decide (3 ≤ r.failures + 1)) = true := by
        rw [Bool.and_eq_true, decide_eq_true_eq]
        exact ⟨online, by omega⟩
      have offline : s.moduleOffline m r failure = v.notifyModule m (some failure) := by
        have dropped : (s.bus.queue.filter fun e => e.1 != m) = s.bus.queue.filter fun e => e.1 ≠ m :=
          List.filter_congr fun e _ => Bool.eq_iff_iff.2 (by simp)
        simp only [State.moduleOffline, State.updModule, hr, Option.map_some, dropped]
        rw [hv, hu]
        rfl
      have notified : v.notifyModule m (some failure) = v.notify told := by
        have : v.bus.modules[m] = u.bus.modules[m] := by rw [vbus]
        simp only [State.notifyModule, this.trans here]
        rfl
      simp only [State.countFailure, hr, if_pos third, offline, notified]
    obtain ⟨t, ht⟩ : ∃ t, t = (v.notify told).busFree := ⟨_, rfl⟩
    have chooses := (v.notify told).busFree_chooses
    rw [← ht] at chooses
    rw [counted, ← ht]
    have vbus : v.bus = { s.bus.without m r with queue := queue } := by rw [vbus, hu]
    have wbus : (v.notify told).bus = v.bus := by simp
    have frame : t = { v.notify told with bus := t.bus } := chooses.frame
    have tdoors : t.doors = v.doors := by rw [frame]; simp
    have toccupancy : t.occupancy = v.occupancy := by rw [frame]; simp
    have tzones : t.zones = v.zones := by rw [frame]; simp
    have tports : t.ports = (v.notify told).ports := by rw [frame]
    have arbitrated : ({ v.notify told with bus := { (v.notify told).bus with tx := .idle } } : State) =
        { t with
          bus :=
            { s.bus with
              modules := s.bus.modules.put m (some { r with online := false, failures := 3, tamper := none, lockFeedback := none }),
              queue := queue, tx := .idle } } := by
      conv_rhs => rw [frame]
      rw [wbus, vbus]
      rfl
    rw [arbitrated] at chooses
    have doorsOf : u.doors = s.doors := by rw [hu]
    refine ⟨?_, ⟨queue, chooses, others, fun all => (own (by rw [doorsOf]; exact all)).trans (by rw [hu]; rfl)⟩, ?_,
      fun e he => others e (chooses.queue he), fun d other => ?_, fun shut => ?_, fun y hy offline fault => ?_⟩
    · conv_lhs => rw [frame]
      rw [tdoors, toccupancy, tzones, tports]
      apply State.ext_fields <;> simp [hv, hu]
    · obtain ⟨stamp, hx⟩ := chooses.module (m := m) (Tab.getElem_put_self ..)
      exact ⟨_, hx, rfl, rfl, rfl, rfl, rfl, rfl⟩
    · rw [tdoors, hv, State.doorModuleOffline_other u other, doorsOf]
    · have stays : v = u := by
        rw [hv]
        exact State.doorModuleOffline_stays (by rw [doorsOf]; exact shut)
      rw [tdoors, toccupancy, tzones, stays]
      refine ⟨doorsOf, by rw [hu], by rw [hu], (u.notify_gains told).congr (by rw [hu]) (by rw [hu]) (by rw [tports, stays])⟩
    · intro z lost
      have uy : u.doors[r.door] = some y := by rw [doorsOf]; exact hy
      have lose := State.doorModuleOffline_loses uy offline fault
      obtain ⟨shape, -, kept, recorded, gains⟩ := State.doorLost_loses uy .offline .moduleOffline nofun
      rw [← lose, ← hv] at shape kept recorded gains
      have record : (y.leftOffline || y.state == .offline) = y.leftOffline := by simp [offline]
      have bars : u.bars z = s.bars z := State.bars_of_zones s (by rw [hu]) z
      have vdoors : v.doors = s.doors.put r.door (some (lost.driven (s.bars z))) := by
        rw [shape, doorsOf, record, bars]
      have summary : t.summaryOf z = v.summaryOf z := State.summaryOf_congr toccupancy (by rw [tzones])
      refine ⟨by rw [tdoors, vdoors]; exact Tab.getElem_put_self .., ?_, fun none_ => ?_, fun some_ => ?_, _,
        ((gains.notify (by rw [shape]) told).congr (by rw [hu]) (by rw [hu]) tports), .refl _⟩
      · rw [toccupancy, shape, hu]
      · rw [tzones, kept none_, hu]
      · rw [tzones, summary, recorded some_, hu]

/-- Settles O17: the window's end names the failure, and it is counted by `countFailure_fails`. -/
theorem pollFailureIsCounted : Obligations.PollFailureIsCounted := by
  intro s ninthBegun m kind received bad r tx hr failure
  have named : windowFailure received.length ninthBegun = failure := by
    simp only [windowFailure, failure, List.length_eq_zero_iff, Bool.and_eq_true, decide_eq_true_eq]
  have run : exec (.pollWindowExpiry ninthBegun) s = .next (s.countFailure m failure).busFree := by
    simp only [exec, execPollWindowExpiry, tx, named]
  exact ⟨_, run, State.countFailure_fails (by rw [tx]; nofun) hr failure⟩

end Sys2Proof.Machine

namespace Sys2Proof.Machine

/-! ## A good answer -/

/-- R20: a bus that carries something starts nothing. -/
theorem State.chooseNext_busy {s : State} (busy : s.bus.tx ≠ .idle) : s.chooseNext = s := by
  unfold State.chooseNext
  cases h : s.bus.tx with
  | idle => exact absurd h busy
  | poll => rfl
  | drive => rfl

/-- R21: on a busy bus a drive of an ONLINE module joins the pending ones. -/
theorem State.handDrive_busy {s : State} {m : Module} {x : ModuleRec} (busy : s.bus.tx ≠ .idle) (hx : s.bus.modules[m] = some x)
    (online : x.online = true) (d : Drive) :
    s.handDrive (some m) d = { s with bus := { s.bus with queue := withDrive s.bus.queue m d } } := by
  have taken : (s.bus.modules[m]).any (·.online) = true := by rw [hx]; exact online
  simp only [State.handDrive, if_pos taken, queueDrive_eq_withDrive]
  exact State.chooseNext_busy busy

/-- R21: of two drives of a module only the later one waits. -/
theorem withDrive_withDrive (queue : List (Module × Drive)) (m : Module) (first second : Drive) :
    withDrive (withDrive queue m first) m second = withDrive queue m second := by
  have there : ∃ e ∈ withDrive queue m first, e.1 = m := by
    unfold withDrive
    split
    · next h =>
      obtain ⟨e, he, rfl⟩ := h
      exact ⟨(e.1, first), List.mem_map.2 ⟨e, he, if_pos rfl⟩, rfl⟩
    · exact ⟨(m, first), List.mem_append_right _ (List.mem_singleton_self _), rfl⟩
  rw [withDrive, if_pos there]
  unfold withDrive
  split
  · rw [List.map_map]
    refine List.map_congr_left fun e _ => ?_
    by_cases h : e.1 = m <;> simp [h]
  · next none_ =>
    have kept : (queue.map fun e => if e.1 = m then (m, second) else e) = queue :=
      (List.map_congr_left fun e he => if_neg fun h => none_ ⟨e, he, h⟩).trans (List.map_id' queue)
    rw [List.map_append, kept]
    simp

/-- The record of a module, written over the one written before. -/
theorem State.updModule_put {t : State} {base : Tab (Option ModuleRec) 16} {m : Module} {x : ModuleRec}
    (h : t.bus.modules = base.put m (some x)) (f : ModuleRec → ModuleRec) :
    t.updModule m f = { t with bus := { t.bus with modules := base.put m (some (f x)) } } := by
  simp only [State.updModule, h, Tab.getElem_put_self, Option.map_some, Tab.put_put]

/-- R33, R43: a door that is not OFFLINE, or whose contact is not classified, stays as it is. -/
theorem State.doorModuleBack_stays {s : State} {d : Door} (h : ∀ y, s.doors[d] = some y → y.state ≠ .offline ∨ y.contactOpen = none) :
    s.doorModuleBack d = s := by
  unfold State.doorModuleBack
  cases hy : s.doors[d] with
  | none => rfl
  | some y =>
    dsimp only
    split
    · next offline known =>
      obtain e | e := h y hy
      · exact absurd offline e
      · rw [e] at known
        cases known
    · rfl

/-- R33, R43: any other leaves OFFLINE. -/
theorem State.doorModuleBack_leaves {s : State} {d : Door} {y : DoorRec} {opened : Bool} (hy : s.doors[d] = some y)
    (offline : y.state = .offline) (known : y.contactOpen = some opened) : s.doorModuleBack d = s.leaveOffline d y opened := by
  simp only [State.doorModuleBack, hy, offline, known]

/-- R33, R43: the record of a door that has left OFFLINE. -/
def DoorRec.back (y : DoorRec) (opened : Bool) (now : Nat) : DoorRec :=
  if opened = true then { y with state := .opened, openingKind := some .foundOpen, openSince := some now, leftOffline := true }
  else { y with state := .secure, openingKind := none, openSince := none, leftOffline := true }

@[simp] theorem DoorRec.back_cfg (y : DoorRec) (opened : Bool) (now : Nat) : (y.back opened now).cfg = y.cfg := by cases opened <;> rfl
@[simp] theorem DoorRec.back_module (y : DoorRec) (opened : Bool) (now : Nat) : (y.back opened now).module = y.module := by
  cases opened <;> rfl
@[simp] theorem DoorRec.driven_module (y : DoorRec) (barred : Bool) : (y.driven barred).module = y.module := by rw [driven_eq]

/-- R33, R43, R47: all that leaving OFFLINE does. -/
theorem State.leaveOffline_becomes {s : State} {d : Door} {y : DoorRec} (hy : s.doors[d] = some y) (opened : Bool) :
    let t := s.leaveOffline d y opened
    let x := y.back opened s.nowMs
    t = { s with doors := s.doors.put d (some (x.driven (s.bars y.cfg.inside))), bus := t.bus, ports := t.ports } ∧
      DoorDrives s t x (s.bars y.cfg.inside) ∧
      QueuesGain s t
        [.doorState d x.state y.state (if y.leftOffline = true then .moduleOnline else .firstClassified) none
          (if opened = true then some .foundOpen else none)] := by
  intro t x
  obtain ⟨u, hu⟩ : ∃ u, u = s.updDoor d fun x => { x.atContact opened s.nowMs with leftOffline := true } := ⟨_, rfl⟩
  have record : ({ y.atContact opened s.nowMs with leftOffline := true } : DoorRec) = x := by cases opened <;> rfl
  have doors : u.doors = s.doors.put d (some x) := by rw [hu, State.updDoor_doors, hy, Option.map_some, record]
  have kind : (if x.state = .opened then x.openingKind else none) = if opened = true then some .foundOpen else none := by
    cases opened <;> rfl
  have told := State.notifyDoor_driven (r := y) doors (DoorRec.back_cfg ..) (by rw [hu]; rfl) (by rw [hu]; rfl) (by rw [hu]; rfl) y.state
    (if y.leftOffline = true then .moduleOnline else .firstClassified) none
  have becomes := State.refreshDrive_told (r := y) doors (DoorRec.back_cfg ..) (by rw [hu]; rfl) (by rw [hu]; rfl) (by rw [hu]; rfl)
    (QueuesGain.of_ports (by rw [hu]; rfl))
    (.doorState d x.state y.state (if y.leftOffline = true then .moduleOnline else .firstClassified) none
          (if opened = true then some .foundOpen else none))
  rw [kind] at told
  have leaves : t = (u.refreshDrive d).notifyDoor d y.state (if y.leftOffline = true then .moduleOnline else .firstClassified) none := by
    rw [hu]
    rfl
  replace leaves := leaves.trans told
  rw [← leaves, List.nil_append] at becomes
  obtain ⟨shape, drives, gains⟩ := becomes
  refine ⟨?_, drives, gains⟩
  conv_lhs => rw [shape, hu]
  rfl

/-! ### Its steps -/

/-- R25, R41: the record of a module's door once lock feedback has been handed over. -/
def DoorRec.fedBack (y : DoorRec) (before : Option LockFeedback) (now : LockFeedback) : DoorRec :=
  if now = .thrown ∧ before ≠ some .thrown then { y with withdrawnEnd := none } else y

@[simp] theorem DoorRec.fedBack_module (y : DoorRec) (before : Option LockFeedback) (now : LockFeedback) :
    (y.fedBack before now).module = y.module := by
  unfold fedBack
  split <;> rfl

/-- R26: the MODULE_STATE notice of a good answer. -/
def answerTold (m : Module) (r : ModuleRec) (tamper : Bool) : List NoticeBody :=
  if r.online = true ∧ r.tamper = some tamper then [] else [.moduleState m r.door true (some tamper) none]

/-- R24, R43: presence. -/
theorem State.answerPresence_becomes {s : State} {m : Module} {r : ModuleRec} (busy : s.bus.tx ≠ .idle) (hr : s.bus.modules[m] = some r) :
    let p := s.answerPresence m r
    ∃ queue,
      p = { s with
        bus := { s.bus with modules := s.bus.modules.put m (some { r with online := true, failures := 0 }), queue := queue },
        doors := p.doors, ports := p.ports } ∧
      (∀ d, d ≠ r.door → p.doors[d] = s.doors[d]) ∧
      (r.online = true ∨ (∀ y, s.doors[r.door] = some y → y.state ≠ .offline ∨ y.contactOpen = none) →
        queue = s.bus.queue ∧ p.doors = s.doors ∧ p.ports = s.ports) ∧
      ∀ y opened, r.online = false → s.doors[r.door] = some y → y.state = .offline → y.contactOpen = some opened →
        p.doors = s.doors.put r.door (some ((y.back opened s.nowMs).driven (s.bars y.cfg.inside))) ∧
        (queue = s.bus.queue ∨ ∃ k d, y.module = some k ∧ queue = withDrive s.bus.queue k d) ∧
        QueuesGain s p
          [.doorState r.door (y.back opened s.nowMs).state .offline (if y.leftOffline = true then .moduleOnline else .firstClassified) none
            (if opened = true then some .foundOpen else none)] := by
  intro p
  obtain ⟨u, hu⟩ : ∃ u : State, u =
      { s with bus := { s.bus with modules := s.bus.modules.put m (some { r with online := true, failures := 0 }) } } := ⟨_, rfl⟩
  have present : p = if r.online = true then u else u.doorModuleBack r.door := by
    have updated : s.updModule m (fun x => { x with online := true, failures := 0 }) = u := by
      rw [hu]
      exact State.updModule_put (hr ▸ (Tab.put_self ..).symm : s.bus.modules = s.bus.modules.put m (some r)) _
    simp only [p, State.answerPresence, updated]
  have doors : u.doors = s.doors := by rw [hu]
  by_cases back : ∃ y opened, r.online = false ∧ s.doors[r.door] = some y ∧ y.state = .offline ∧ y.contactOpen = some opened
  · obtain ⟨y, opened, gone, hy, offline, known⟩ := back
    have leaves : p = u.leaveOffline r.door y opened := by
      rw [present, if_neg (by simp [gone]), State.doorModuleBack_leaves (by rw [doors]; exact hy) offline known]
    obtain ⟨shape, drives, gains⟩ := State.leaveOffline_becomes (s := u) (by rw [doors]; exact hy) opened
    rw [← leaves] at shape drives gains
    have now : u.nowMs = s.nowMs := by rw [hu]; rfl
    have bars : u.bars y.cfg.inside = s.bars y.cfg.inside := State.bars_of_zones s (by rw [hu]) _
    rw [now, offline] at gains
    have pdoors : p.doors = s.doors.put r.door (some ((y.back opened s.nowMs).driven (s.bars y.cfg.inside))) := by
      rw [shape, doors, now, bars]
    have queued : ∃ queue, p.bus = { u.bus with queue := queue } ∧
        (queue = s.bus.queue ∨ ∃ k d, y.module = some k ∧ queue = withDrive s.bus.queue k d) := by
      obtain same | ⟨k, x, d, hk, -, -, joined⟩ := drives.busy (by rw [hu]; exact busy)
      · exact ⟨s.bus.queue, by rw [same, hu], .inl rfl⟩
      · exact ⟨_, joined, .inr ⟨k, d, by simpa using hk, by rw [hu]⟩⟩
    obtain ⟨queue, pbus, queued⟩ := queued
    refine ⟨queue, ?_, fun d other => by rw [pdoors, Tab.getElem_put_of_ne other], ?_, ?_⟩
    · rw [hu] at pbus
      conv_lhs => rw [shape, pbus, hu]
      rw [shape, hu]
    · rintro (online | stays)
      · simp [gone] at online
      · obtain h | h := stays y hy
        · exact absurd offline h
        · rw [h] at known
          cases known
    · intro y' opened' _ hy' _ known'
      obtain rfl := Option.some.inj (hy.symm.trans hy')
      obtain rfl := Option.some.inj (known.symm.trans known')
      exact ⟨pdoors, queued, gains.congr (by rw [hu]) (by rw [hu]) rfl⟩
  · have stays : p = u := by
      rw [present]
      split
      · rfl
      · next gone =>
        refine State.doorModuleBack_stays fun y hy => ?_
        rw [doors] at hy
        by_contra h
        obtain ⟨offline, known⟩ := not_or.1 h
        obtain ⟨opened, known⟩ := Option.ne_none_iff_exists'.1 known
        exact back ⟨y, opened, by simpa using gone, hy, not_not.1 offline, known⟩
    refine ⟨s.bus.queue, by rw [stays, hu], fun d _ => by rw [stays, doors], fun _ => by rw [stays, hu]; exact ⟨rfl, rfl, rfl⟩,
        fun y opened gone hy offline known => ?_⟩
    exact absurd ⟨y, opened, gone, hy, offline, known⟩ back

section
variable {t : State} {base : Tab (Option ModuleRec) 16} {m : Module} {x r : ModuleRec} (a : PollAnswer)
  (hx : t.bus.modules = base.put m (some x))
include hx

/-- R26: tamper. -/
theorem State.answerTamper_becomes (online : x.online = true) (door : x.door = r.door) :
    let v := t.answerTamper m r a
    v = { t with bus := { t.bus with modules := base.put m (some { x with tamper := some a.tamper }) }, ports := v.ports } ∧
      QueuesGain t v (answerTold m r a.tamper) := by
  intro v
  obtain ⟨u, hu⟩ : ∃ u : State, u = { t with bus := { t.bus with modules := base.put m (some { x with tamper := some a.tamper }) } } :=
    ⟨_, rfl⟩
  have updated : t.updModule m (fun x => { x with tamper := some a.tamper }) = u := by
    rw [hu]
    exact State.updModule_put hx _
  have here : u.bus.modules[m] = some { x with tamper := some a.tamper } := by
    rw [hu]
    exact Tab.getElem_put_self ..
  have told : v = if r.online = true ∧ r.tamper = some a.tamper then u else u.notify (.moduleState m r.door true (some a.tamper) none) := by
    have notified : u.notifyModule m none = u.notify (.moduleState m r.door true (some a.tamper) none) := by
      simp only [State.notifyModule, here, online, door]
    simp only [v, State.answerTamper, updated, notified, Bool.and_eq_true, decide_eq_true_eq]
  rw [answerTold, told]
  split
  · rw [hu]
    exact ⟨rfl, .of_ports rfl⟩
  · refine ⟨?_, (u.notify_gains _).congr (by rw [hu]) (by rw [hu]) rfl⟩
    conv_lhs => rw [State.notify_only]
    rw [hu]

/-- R25, R41: lock feedback. -/
theorem State.answerLockFeedback_eq (recorded : x.lockFeedback = r.lockFeedback) :
    t.answerLockFeedback m r a =
      { t with
        bus := { t.bus with modules := base.put m (some { x with lockFeedback := some a.lockFeedback }) },
        doors := t.doors.put r.door ((t.doors[r.door]).map fun y => y.fedBack r.lockFeedback a.lockFeedback) } := by
  have kept (h : ¬(a.lockFeedback = .thrown ∧ r.lockFeedback ≠ some .thrown)) :
      t.doors.put r.door ((t.doors[r.door]).map fun y => y.fedBack r.lockFeedback a.lockFeedback) = t.doors := by
    have same : (fun y : DoorRec => y.fedBack r.lockFeedback a.lockFeedback) = id := funext fun y => if_neg h
    rw [same, Option.map_id, id, Tab.put_self]
  unfold State.answerLockFeedback
  split
  · next same =>
    have record : { x with lockFeedback := some a.lockFeedback } = x := by rw [← same, ← recorded]
    rw [kept (by rintro ⟨thrown, other⟩; exact other (same.trans (congrArg some thrown))), record, ← hx]
  · next changed =>
    rw [State.updModule_put hx]
    cases h : a.lockFeedback with
    | thrown =>
      rw [h] at changed
      have fed : (fun y : DoorRec => y.fedBack r.lockFeedback .thrown) = fun y => { y with withdrawnEnd := none } :=
        funext fun y => if_pos ⟨rfl, changed⟩
      rw [fed]
      rfl
    | retracted =>
      rw [h] at kept
      rw [kept fun e => nomatch e.1]
      rfl

/-- R23: the recovery drive. -/
theorem State.answerRecovery_eq (online : x.online = true) (busy : t.bus.tx ≠ .idle) :
    t.answerRecovery m r a =
      { t with
        bus :=
          { t.bus with
            queue :=
              if r.online = false ∨ a.freshStart = true then
                match t.doors[r.door] with
                | none => t.bus.queue
                | some w =>
                  withDrive t.bus.queue m
                    { lock := doorLock w, indicator := doorIndicator w (t.bars w.cfg.inside), chirp := false }
              else t.bus.queue } } := by
  have here : t.bus.modules[m] = some x := by
    rw [hx]
    exact Tab.getElem_put_self ..
  have recovers : (!r.online || a.freshStart) = true ↔ r.online = false ∨ a.freshStart = true := by simp
  simp only [State.answerRecovery, recovers]
  split
  · unfold State.recoveryDrive
    cases t.doors[r.door] with
    | none => rfl
    | some w => exact State.handDrive_busy busy here online _
  · rfl

end

/-- R24 to R28: the record of a module once a good answer has been handled. -/
def ModuleRec.answered (r : ModuleRec) (a : PollAnswer) : ModuleRec :=
  { r with
    online := true, failures := 0, tamper := some a.tamper, lockFeedback := some a.lockFeedback, toggle := some a.toggle }

/-- R29: a good answer up to the handing over of its reader event. -/
def State.beforeEvent (s : State) (m : Module) (r : ModuleRec) (a : PollAnswer) : State :=
  ((((s.answerPresence m r).answerTamper m r a).answerLockFeedback m r a).answerRecovery m r a).updModule m fun x =>
    { x with toggle := some a.toggle }

/-- R23 to R28, R33, R41, R43: all that a good answer does before its reader event. -/
theorem State.beforeEvent_becomes {s : State} {m : Module} {r : ModuleRec} (a : PollAnswer) (busy : s.bus.tx ≠ .idle)
    (hr : s.bus.modules[m] = some r) :
    let v := s.beforeEvent m r a
    let recovers := r.online = false ∨ a.freshStart = true
    let told := answerTold m r a.tamper
    ∃ queue,
      v = { s with
        bus := { s.bus with modules := s.bus.modules.put m (some (r.answered a)), queue := queue }, doors := v.doors, ports := v.ports } ∧
      (¬recovers ∨ s.doors[r.door] = none → queue = s.bus.queue) ∧
      (recovers → ∀ w, v.doors[r.door] = some w → w.module = some m →
        queue = withDrive s.bus.queue m { lock := doorLock w, indicator := doorIndicator w (s.bars w.cfg.inside), chirp := false }) ∧
      (∀ d, d ≠ r.door → v.doors[d] = s.doors[d]) ∧
      (r.online = true ∨ (∀ y, s.doors[r.door] = some y → y.state ≠ .offline ∨ y.contactOpen = none) →
        v.doors = s.doors.put r.door ((s.doors[r.door]).map fun y => y.fedBack r.lockFeedback a.lockFeedback) ∧ QueuesGain s v told) ∧
      ∀ y opened, r.online = false → s.doors[r.door] = some y → y.state = .offline → y.contactOpen = some opened →
        v.doors = s.doors.put r.door
          (some (((y.back opened s.nowMs).driven (s.bars y.cfg.inside)).fedBack r.lockFeedback a.lockFeedback)) ∧
        QueuesGain s v
          (.doorState r.door (y.back opened s.nowMs).state .offline (if y.leftOffline = true then .moduleOnline else .firstClassified) none
            (if opened = true then some .foundOpen else none) :: told) := by
  intro v recovers told
  obtain ⟨p, hp⟩ : ∃ p, p = s.answerPresence m r := ⟨_, rfl⟩
  obtain ⟨t, ht⟩ : ∃ t, t = p.answerTamper m r a := ⟨_, rfl⟩
  obtain ⟨first, pframe, pothers, pstays, pback⟩ := State.answerPresence_becomes busy hr
  rw [← hp] at pframe pothers pstays pback
  have pmodules : p.bus.modules = s.bus.modules.put m (some { r with online := true, failures := 0 }) := by rw [pframe]
  obtain ⟨tframe, tgains⟩ := State.answerTamper_becomes (r := r) a pmodules rfl rfl
  rw [← ht] at tframe tgains
  have tmodules : t.bus.modules = s.bus.modules.put m (some { r with online := true, failures := 0, tamper := some a.tamper }) := by
    rw [tframe]
  have fed := State.answerLockFeedback_eq (r := r) a tmodules rfl
  obtain ⟨u, hu⟩ : ∃ u, u = t.answerLockFeedback m r a := ⟨_, rfl⟩
  rw [← hu] at fed
  have umodules : u.bus.modules = s.bus.modules.put m
      (some { r with online := true, failures := 0, tamper := some a.tamper, lockFeedback := some a.lockFeedback }) := by rw [fed]
  have utx : u.bus.tx = s.bus.tx := by rw [fed, tframe, pframe]
  have recovered := State.answerRecovery_eq (r := r) a umodules rfl (by rw [utx]; exact busy)
  obtain ⟨w, hw⟩ : ∃ w, w = u.answerRecovery m r a := ⟨_, rfl⟩
  rw [← hw] at recovered
  have wmodules : w.bus.modules = u.bus.modules := by rw [recovered]
  have ends : v = w.updModule m fun x => { x with toggle := some a.toggle } := by
    rw [hw, hu, ht, hp]
    rfl
  rw [State.updModule_put (wmodules.trans umodules)] at ends
  have pdoors : v.doors = p.doors.put r.door ((p.doors[r.door]).map fun y => y.fedBack r.lockFeedback a.lockFeedback) := by
    rw [ends, recovered, fed, tframe]
  have pports : v.ports = t.ports := by rw [ends, recovered, fed]
  have ptime : p.time = s.time := by rw [pframe]
  have uqueue : u.bus.queue = first := by rw [fed, tframe, pframe]
  have udoors : u.doors = v.doors := by rw [ends, recovered]
  have bars (z : Zone) : u.bars z = s.bars z := State.bars_of_zones s (by rw [fed, tframe, pframe]) z
  have away : ¬recovers ∨ s.doors[r.door] = none → r.online = true ∨ ∀ y, s.doors[r.door] = some y → y.state ≠ .offline ∨ y.contactOpen = none := by
    rintro (h | h)
    · exact .inl (by simpa using fun e => h (.inl e))
    · exact .inr fun y hy => by rw [h] at hy; cases hy
  have ubus : u.bus = { s.bus with
      modules := s.bus.modules.put m
        (some { r with online := true, failures := 0, tamper := some a.tamper, lockFeedback := some a.lockFeedback }),
      queue := first } := by rw [fed, tframe, pframe]
  have vbus : v.bus = { s.bus with modules := s.bus.modules.put m (some (r.answered a)), queue := w.bus.queue } := by
    rw [ends, recovered, ubus]
    rfl
  have wqueue : w.bus.queue =
      if r.online = false ∨ a.freshStart = true then
        match u.doors[r.door] with
        | none => u.bus.queue
        | some w =>
          withDrive u.bus.queue m { lock := doorLock w, indicator := doorIndicator w (u.bars w.cfg.inside), chirp := false }
      else u.bus.queue := by rw [recovered]
  rw [uqueue, udoors] at wqueue
  refine ⟨w.bus.queue, ?_, fun h => ?_, fun h x hx own => ?_,
      fun d other => by rw [pdoors, Tab.getElem_put_of_ne other, pothers d other], fun h => ?_, fun y opened gone hy offline known => ?_⟩
  · rw [← vbus]
    apply State.ext_fields <;> simp [v, State.beforeEvent]
  · obtain ⟨same, doors, -⟩ := pstays (away h)
    rw [wqueue, same]
    obtain h | h := h
    · exact if_neg h
    · have absent : v.doors[r.door] = none := by rw [pdoors, Tab.getElem_put_self, doors, h, Option.map_none]
      simp only [absent, ite_self]
  · have joined : first = s.bus.queue ∨ ∃ d, first = withDrive s.bus.queue m d := by
      by_cases back : ∃ y opened, r.online = false ∧ s.doors[r.door] = some y ∧ y.state = .offline ∧ y.contactOpen = some opened
      · obtain ⟨y, opened, gone, hy, offline, known⟩ := back
        obtain ⟨doors, queued, -⟩ := pback y opened gone hy offline known
        obtain same | ⟨k, d, hk, queued⟩ := queued
        · exact .inl same
        · rw [pdoors, Tab.getElem_put_self, doors, Tab.getElem_put_self, Option.map_some] at hx
          obtain rfl := Option.some.inj hx
          have : k = m := by simpa [hk] using own
          exact .inr ⟨d, this ▸ queued⟩
      · refine .inl (pstays ?_).1
        by_contra away
        obtain ⟨gone, away⟩ := not_or.1 away
        push Not at away
        obtain ⟨y, hy, offline, known⟩ := away
        obtain ⟨opened, known⟩ := Option.ne_none_iff_exists'.1 known
        exact back ⟨y, opened, by simpa using gone, hy, offline, known⟩
    have drive : w.bus.queue =
        withDrive first m { lock := doorLock x, indicator := doorIndicator x (s.bars x.cfg.inside), chirp := false } := by
      rw [wqueue, if_pos h]
      simp only [hx, bars]
    rw [drive]
    obtain joined | ⟨d, joined⟩ := joined
    · rw [joined]
    · rw [joined, withDrive_withDrive]
  · obtain ⟨-, doors, ports⟩ := pstays h
    rw [pdoors, doors]
    exact ⟨rfl, tgains.congr ports.symm ptime.symm pports⟩
  · obtain ⟨doors, -, gains⟩ := pback y opened gone hy offline known
    rw [pdoors, doors, Tab.getElem_put_self, Tab.put_put]
    exact ⟨rfl, (gains.trans tgains ptime).congr rfl rfl pports⟩

/-! ### Its judgement -/

/-- R27, R192: a reader event kind out of range. -/
theorem readerEventOf_eq_none {status : Byte} (h : ¬status.toNat / 16 % 8 < 4) : readerEventOf status = none := by
  unfold readerEventOf
  split
  case h_5 => rfl
  all_goals omega

/-- R27, R192: the reader event kinds in range. -/
theorem readerEventOf_eq_some {status : Byte} (h : status.toNat / 16 % 8 < 4) : ∃ event, readerEventOf status = some event ∧
    (status.toNat / 16 % 8 = 0 → event = .none) ∧
    ∀ reader, (status.toNat / 16 % 8 = 1 ∧ reader = .entryRead) ∨ (status.toNat / 16 % 8 = 2 ∧ reader = .exitRead) ∨
      (status.toNat / 16 % 8 = 3 ∧ reader = .checkin) → event = .read reader := by
  unfold readerEventOf
  generalize status.toNat / 16 % 8 = n at h
  match n, h with
  | 0, _ => exact ⟨_, rfl, fun _ => rfl, by simp⟩
  | 1, _ => exact ⟨_, rfl, nofun, by simp⟩
  | 2, _ => exact ⟨_, rfl, nofun, by simp⟩
  | 3, _ => exact ⟨_, rfl, nofun, by simp⟩

/-- R192: the fields of an answer with a reader event kind in range. -/
def pollAnswer (status : Byte) (rest : List Byte) (event : ReaderEvent) : PollAnswer :=
  { tamper := status.getLsbD 0, lockFeedback := if status.getLsbD 1 then .thrown else .retracted, freshStart := status.getLsbD 2,
    event := event, toggle := status.getLsbD 7, credential := numberOf (rest.take 4), pin := readPin (digitPositions (rest.drop 4)) }

/-- R18, R19: an answer without framing error, whose check holds, gives its fields where its reader event kind is in range. -/
theorem judgeAnswer_eq (m : Module) (kind status : Byte) (rest : List Byte) (bad : Bool) (check : Byte) :
    judgeAnswer m kind (status :: rest) bad check =
      if bad = false ∧ byteSum (moduleAddress m :: kind :: status :: (rest ++ [check])) = 0 then
        (readerEventOf status).map (pollAnswer status rest)
      else none := by
  unfold judgeAnswer
  cases bad with
  | true => simp
  | false =>
    have holds : checkHolds (moduleAddress m :: kind :: (status :: rest ++ [check])) = true ↔
        byteSum (moduleAddress m :: kind :: status :: (rest ++ [check])) = 0 := beq_iff_eq
    rw [if_neg (by decide)]
    by_cases h : byteSum (moduleAddress m :: kind :: status :: (rest ++ [check])) = 0
    · rw [if_neg (by rw [holds.2 h]; decide), if_pos ⟨rfl, h⟩]
      rfl
    · rw [if_pos (by rw [Bool.not_eq_true', ← Bool.not_eq_true, holds]; exact h), if_neg fun e => h e.2]

/-- R28: the event of a good answer is taken where its toggle is another than the one recorded. -/
theorem eventTaken_iff (r : ModuleRec) (a : PollAnswer) :
    eventTaken r a = true ↔ r.online = true ∧ a.freshStart = false ∧ r.toggle = some (!a.toggle) := by
  have other (x : Bool) : (x != a.toggle) = true ↔ x = !a.toggle := by cases x <;> cases a.toggle <;> decide
  simp only [eventTaken, Bool.and_eq_true, Bool.not_eq_true', Option.any_eq_true, other, and_assoc]
  simp

/-- R28, R29: a good answer whose event is not taken, or is NONE. -/
theorem State.goodAnswer_quiet {s : State} {m : Module} {r : ModuleRec} (hr : s.bus.modules[m] = some r) (a : PollAnswer)
    (quiet : eventTaken r a = false ∨ a.event = .none) : s.goodAnswer m a = s.beforeEvent m r a := by
  simp only [State.goodAnswer, hr, State.answerEvent]
  obtain h | h := quiet
  · rw [h]
    rfl
  · rw [h]
    exact ite_self _

/-- R28, R29: a good answer whose event is taken. -/
theorem State.goodAnswer_presents {s : State} {m : Module} {r : ModuleRec} (hr : s.bus.modules[m] = some r) (a : PollAnswer)
    (taken : eventTaken r a = true) {reader : Reader} (event : a.event = .read reader) :
    s.goodAnswer m a = (s.beforeEvent m r a).present r.door { reader := reader, credential := a.credential, pin := a.pin } := by
  simp only [State.goodAnswer, hr, State.answerEvent, if_pos taken, event]
  rfl

/-- Settles O18. -/
theorem pollAnswerIsJudged : Obligations.PollAnswerIsJudged := by
  intro s b framingError m kind status rest bad r tx length hr event good toggle tamper lock fresh x modules taken
    recovers told window
  have busy : s.bus.tx ≠ .idle := by rw [tx]; nofun
  have run : exec (.pollAnswerReceived b framingError) s =
      .next (s.endPoll m (judgeAnswer m kind (status :: rest) (bad || framingError) b)) := by
    have eight : (status :: rest).length = 8 := by rw [List.length_cons, length]
    simp only [exec, execPollAnswerReceived, tx, if_pos eight]
  rw [judgeAnswer_eq] at run
  have sound : ((bad || framingError) = false ∧ byteSum (moduleAddress m :: kind :: status :: (rest ++ [b])) = 0) ∧ event < 4 ↔ good := by
    simp [good, and_assoc]
  obtain ⟨fails, judged⟩ : (¬good → exec (.pollAnswerReceived b framingError) s = .next (s.countFailure m .bad).busFree) ∧
      (good → ∃ e, exec (.pollAnswerReceived b framingError) s = .next (s.goodAnswer m (pollAnswer status rest e)).busFree ∧
        (event = 0 → e = .none) ∧
        ∀ reader, (event = 1 ∧ reader = .entryRead) ∨ (event = 2 ∧ reader = .exitRead) ∨ (event = 3 ∧ reader = .checkin) →
          e = .read reader) := by
    refine ⟨fun h => ?_, fun h => ?_⟩
    · rw [run]
      split
      · next checked =>
        rw [readerEventOf_eq_none fun small => h (sound.1 ⟨checked, small⟩)]
        rfl
      · rfl
    · obtain ⟨checked, small⟩ := sound.2 h
      obtain ⟨e, he, none_, reads⟩ := readerEventOf_eq_some small
      rw [if_pos checked, he] at run
      exact ⟨e, run, none_, reads⟩
  refine ⟨fun h => ⟨_, fails h, State.countFailure_fails busy hr .bad⟩, fun h quiet => ?_, fun h take reader kinds => ?_⟩
  · obtain ⟨e, run, none_, -⟩ := judged h
    obtain ⟨a, ha⟩ : ∃ a, a = pollAnswer status rest e := ⟨_, rfl⟩
    have untaken : eventTaken r a = false ∨ a.event = .none := by
      by_cases kind : event = 0
      · exact .inr (by rw [ha]; exact none_ kind)
      · refine .inl (Bool.eq_false_iff.2 fun took => quiet ?_)
        rw [eventTaken_iff, ha] at took
        obtain ⟨online, stale, toggled⟩ := took
        exact ⟨online, stale, toggled, kind⟩
    rw [← ha, State.goodAnswer_quiet hr a untaken] at run
    obtain ⟨queue, frame, kept, joined, others, stays, leaves⟩ := State.beforeEvent_becomes a busy hr
    obtain ⟨v, hv⟩ : ∃ v, v = s.beforeEvent m r a := ⟨_, rfl⟩
    rw [← hv] at run frame joined others stays leaves
    obtain ⟨t, ht⟩ : ∃ t, t = v.busFree := ⟨_, rfl⟩
    have chooses := v.busFree_chooses
    rw [← ht] at run chooses
    have tframe : t = { v with bus := t.bus } := chooses.frame
    have tdoors : t.doors = v.doors := by rw [tframe]
    have tports : t.ports = v.ports := by rw [tframe]
    have idle : ({ v with bus := { v.bus with tx := .idle } } : State) =
        { t with bus := { s.bus with modules := modules, queue := queue, tx := .idle } } := by
      have vbus : v.bus = { s.bus with modules := modules, queue := queue } := by
        rw [frame, ha]
        rfl
      conv_rhs => rw [tframe]
      rw [vbus]
    rw [idle] at chooses
    rw [ha] at joined stays leaves kept
    have gained {l : List NoticeBody} (h : QueuesGain s v l) : QueuesGain s t l := h.congr rfl rfl tports
    refine ⟨t, run, ?_, ⟨queue, chooses, kept, by rw [tdoors]; exact joined⟩, fun d other => ?_, fun absent => ?_, fun y hy => ⟨fun h => ?_,
      fun opened gone offline known => ?_⟩⟩
    · conv_lhs => rw [tframe, frame]
      rw [tdoors, tports]
    · rw [tdoors, others d other]
    · obtain ⟨doors, gains⟩ := stays (.inr fun y hy => by rw [absent] at hy; cases hy)
      refine ⟨?_, gained gains⟩
      rw [tdoors, doors, absent, Option.map_none, ← absent, Tab.put_self]
    · obtain ⟨doors, gains⟩ := stays (h.imp_right fun h z hz => by
        obtain rfl := Option.some.inj (hy.symm.trans hz)
        exact h)
      refine ⟨?_, gained gains⟩
      rw [tdoors, doors, Tab.getElem_put_self, hy]
      rfl
    · obtain ⟨doors, gains⟩ := leaves y opened gone hy offline known
      refine ⟨?_, gained gains⟩
      rw [tdoors, doors]
      exact Tab.getElem_put_self ..
  · obtain ⟨e, run, -, reads⟩ := judged h
    obtain ⟨online, stale, toggled, -⟩ := take
    obtain ⟨a, ha⟩ : ∃ a, a = pollAnswer status rest e := ⟨_, rfl⟩
    have took : eventTaken r a = true := (eventTaken_iff r a).2 (by rw [ha]; exact ⟨online, stale, toggled⟩)
    rw [← ha, State.goodAnswer_presents hr a took (by rw [ha]; exact reads reader kinds)] at run
    obtain ⟨queue, frame, kept, -, -, stays, -⟩ := State.beforeEvent_becomes a busy hr
    obtain ⟨doors, gains⟩ := stays (.inl online)
    have same : queue = s.bus.queue := kept (.inl (by
      rw [ha]
      rintro (h | h)
      · rw [online] at h
        cases h
      · cases h.symm.trans stale))
    rw [same, doors] at frame
    rw [ha] at frame gains run
    exact ⟨_, _, frame, gains, rfl, _, run, State.busFree_chooses _⟩

end Sys2Proof.Machine

namespace Sys2Proof.Machine

/-! ## Modes, where two alarm records share a number

O10 and O45 say of the panel of a zone whose mode changes that it shows the zone with the alarm display flag from before the event, and they do
not ask for a sound alarm list, as they do for the conditions that end. A record is replaced by its number, so that in a list that holds a
number twice the end of one record's condition overwrites the other record, and with it the display flag of another zone. No reached state has
such a list (`alarmListStaysSound`). -/

/-- A zone without a schedule, whose evaluation gives AFTER. -/
def unscheduledZone : ZoneRec :=
  { cfg :=
      { bank := .bankA, baseDelay := 0, knots := Vector.replicate 7 0, uncertainLoad := 0, holdTime := 0, checkinPeriod := 1, limit := 1,
        twoPerson := false, loneGrace := 0, sweepWeight := 1, schedule := none },
    state := .isolated, kind := none, delay := none, remaining := none, dischargeStart := none, entryHold := false, holdLines := [],
    holdAlarms := [], summary := ⟨0, false, 0, 0⟩, bankState := .empty, selectorFault := false, mainFault := false }

/-- A panel that shows CLEAR. -/
def clearPanel : PanelRec :=
  { display := .clear, seconds := 0, lastSent := none, count := 0, offOwed := false, run := none, buffer := none }

/-- Two records of number 5: the lone occupant of zone 0, and an alarm button of zone 1. -/
def twinRecords : List AlarmRec :=
  [⟨5, .loneOccupant, .person 7, some 0, 0, 0, false, true⟩, ⟨5, .alarmButton, .line 0, some 1, 0, 0, false, true⟩]

/-- The last second of a minute. -/
def minuteEnd : DateTime := ⟨⟨0, 1, 1⟩, 0, 0, 59⟩

/-- The time that SET_TIME brings. -/
def newTime : DateTime := ⟨⟨0, 1, 1⟩, 0, 0, 0⟩

/-- The SET_TIME request. -/
def setTimeFrame : Frame := ⟨0x17, 0, dateTimeField newTime⟩

/-- The CRC-16 of the request, as it is sent. -/
def setTimeCrc : List Byte := crcBytes (crc16 (8 :: setTimeFrame.kind :: setTimeFrame.tag :: setTimeFrame.payload))

/-- Zones 0 and 1 are in WORKING mode and about to be evaluated, at the end of a minute or by the request that stands at port Access; the timer of
zone 0 records the person of the first of the two records. -/
def twinAlarms : State :=
  { State.reset with
    time := { State.reset.time with tod := some minuteEnd, todMs := 1000 },
    loader := { State.reset.loader with phase := .running },
    zones := (State.reset.zones.put 0 (some unscheduledZone)).put 1 (some unscheduledZone),
    schedules := { State.reset.schedules with modes := Vector.replicate 8 .working },
    occupancy := { State.reset.occupancy with lone := State.reset.occupancy.lone.put 0 (.expired 7) },
    alarms := { State.reset.alarms with records := twinRecords },
    link := { State.reset.link with panels := State.reset.link.panels.put 1 (some clearPanel) },
    ports := State.reset.ports.put 0
      { PortRec.cleared with
        rx := .check 8 (setTimeFrame.kind :: setTimeFrame.tag :: setTimeFrame.payload) setTimeCrc.head? } }

/-- The panel and the mode of zone 1 after a command. -/
def panelAndMode (o : Host.Outcome State Fault Refusal) : Option (Option PanelRec × Mode) :=
  match o with
  | .next t => some (t.link.panels[(1 : Zone)], t.schedules.modes[(1 : Zone)])
  | _ => none

/-- The two commands both evaluate the modes, and the panel of zone 1 then shows CLEAR, though an alarm button stood there before. -/
theorem minuteBoundary_clears_panel : panelAndMode (exec .timeOfDaySecond twinAlarms) = some (some clearPanel, .after) := by decide

theorem setTime_clears_panel :
    panelAndMode (exec (.setTime .access (setTimeCrc.getLastD 0)) twinAlarms) = some (some clearPanel, .after) := by
  set_option maxRecDepth 4000 in decide

theorem setTime_taken :
    (twinAlarms.ports[portIndex .access]).frameTaken (setTimeCrc.getLastD 0) = some setTimeFrame := by
  set_option maxRecDepth 4000 in decide

/-- What the mode rules ask of the panel of zone 1 is that it shows ALARM. -/
theorem twinAlarms_shows_alarm (warning : Bool) :
    (twinAlarms.link.shows 1 unscheduledZone (twinAlarms.alarms.displayFlag 1) warning).panels[(1 : Zone)] ≠ some clearPanel := by
  cases warning <;> decide

/-- So no state that a command leaves follows the modes from `twinAlarms`, once the mode and panel of zone 1 are those evaluated above. -/
theorem twinAlarms_not_follows {t : State} {bodies : List NoticeBody} (h : panelAndMode (.next t) = some (some clearPanel, .after)) :
    ¬OccupancyFollowsModes twinAlarms t bodies := by
  rintro ⟨-, -, -, -, -, -, -, shows, -⟩
  obtain ⟨panel, mode⟩ := Prod.mk.inj (Option.some.inj h)
  have changed : t.schedules.modes[(1 : Zone)] ≠ twinAlarms.schedules.modes[(1 : Zone)] := by
    rw [mode]
    decide
  exact twinAlarms_shows_alarm _ ((shows 1 unscheduledZone changed (by decide)).symm.trans panel)

/-- Refutes O10: the panel of a zone whose mode changes is not the one shown with the alarm display flag from before the event, where the end of
a condition in an earlier zone has overwritten a record of the same number. -/
theorem not_minuteBoundaryEvaluatesModes : ¬ Obligations.MinuteBoundaryEvaluatesModes := by
  rintro ⟨-, -, boundary⟩
  obtain ⟨t, run, -, -, ⟨bodies, -, follows⟩, -⟩ := boundary twinAlarms minuteEnd rfl (by decide) (by decide)
  exact twinAlarms_not_follows (run ▸ minuteBoundary_clears_panel) follows

/-- Refutes O45: the same at SET_TIME. -/
theorem not_setTimeEvaluatesModes : ¬ Obligations.SetTimeEvaluatesModes := by
  intro sets
  have ready : RequestReady twinAlarms .access (setTimeCrc.getLastD 0) 0x17 setTimeFrame := ⟨by decide, by decide, setTime_taken, by decide⟩
  obtain ⟨-, valid⟩ := sets twinAlarms (setTimeCrc.getLastD 0) setTimeFrame newTime ready (by decide) (by decide) (by decide) (by decide)
    (by decide) (by decide) rfl
  obtain ⟨t, run, -, -, ⟨bodies, -, follows⟩, -⟩ := valid (by decide)
  exact twinAlarms_not_follows (run ▸ setTime_clears_panel) follows

end Sys2Proof.Machine

namespace Sys2Proof.Machine

/-! ## R79, R89, R159: conditions that end, one after another -/

/-- A notice is one of the alarm list. -/
def NoticeBody.ofAlarm : NoticeBody → Bool
  | .alarmChanged .. => true
  | _ => false

theorem NoticeBody.isOf_of_ofAlarm {b : NoticeBody} (h : b.ofAlarm = true) (z : Zone) : b.isOf z = false := by
  cases b with
  | alarmChanged => rfl
  | _ => exact absurd h (by simp [NoticeBody.ofAlarm])

/-- R162: the notice of a record whose condition ends, whose source is in a zone. -/
def AlarmRec.endedBody (r : AlarmRec) (place : Option Zone) : NoticeBody :=
  .alarmChanged r.number r.kind r.source r.zone .conditionGone r.acknowledged false r.lastSeen place

open Classical in
/-- A record once the conditions of some kinds and sources have ended. -/
noncomputable def AlarmRec.faded (gone : AlarmKind → AlarmSource → Prop) (r : AlarmRec) : AlarmRec :=
  if gone r.kind r.source then { r with condition := false } else r

section faded
variable (gone : AlarmKind → AlarmSource → Prop) (r : AlarmRec)

theorem AlarmRec.faded_fields :
    (r.faded gone).number = r.number ∧ (r.faded gone).kind = r.kind ∧ (r.faded gone).source = r.source ∧
    (r.faded gone).zone = r.zone ∧ (r.faded gone).acknowledged = r.acknowledged ∧ (r.faded gone).lastSeen = r.lastSeen := by
  unfold AlarmRec.faded
  split <;> simp

theorem AlarmRec.faded_condition : (r.faded gone).condition = true ↔ r.condition = true ∧ ¬gone r.kind r.source := by
  unfold AlarmRec.faded
  split <;> simp [*]

theorem AlarmRec.faded_endedBody (place : Option Zone) : (r.faded gone).endedBody place = r.endedBody place := by
  obtain ⟨number, kind, source, zone, acknowledged, lastSeen⟩ := r.faded_fields gone
  simp only [AlarmRec.endedBody, number, kind, source, zone, acknowledged, lastSeen]

theorem AlarmRec.faded_replaceable (h : r.replaceable = true) : (r.faded gone).replaceable = true := by
  unfold AlarmRec.faded
  split
  · simp_all [AlarmRec.replaceable]
  · exact h

theorem AlarmRec.faded_faded (later : AlarmKind → AlarmSource → Prop) :
    (r.faded gone).faded later = r.faded fun kind source => gone kind source ∨ later kind source := by
  unfold AlarmRec.faded
  by_cases first : gone r.kind r.source <;> by_cases second : later r.kind r.source <;> simp [first, second]

theorem AlarmRec.faded_none : (r.faded fun _ _ => False) = r := if_neg id

end faded

/-- R79, R89, R159, R160: from `s` to `t` the conditions of some kinds and sources end, with the notices `bodies`, and no entry, nor anything the
stamps of notices come from, changes. What becomes of the list is said of a sound one. -/
structure Fades (s t : State) (gone : AlarmKind → AlarmSource → Prop) (bodies : List NoticeBody) : Prop where
  gains : QueuesGain s t bodies
  time : t.time = s.time
  entries : t.occupancy.entries = s.occupancy.entries
  ofAlarms : ∀ b ∈ bodies, b.ofAlarm = true
  others : ∃ records full, t.alarms = { s.alarms with records := records, notRecorded := full }
  records : AlarmListSound s → t.alarms.records = s.alarms.records.map (·.faded gone)
  full : AlarmListSound s → t.alarms.notRecorded = (s.alarms.notRecorded && !t.alarms.hasRoom)
  notices : AlarmListSound s → ∀ r ∈ s.alarms.records,
    (r.condition = true ∧ gone r.kind r.source ↔ r.endedBody (s.sourceZone r.source) ∈ bodies)

namespace Fades

variable {s t u : State} {gone later : AlarmKind → AlarmSource → Prop} {bodies more : List NoticeBody}

theorem sourceZone (h : Fades s t gone bodies) (source : AlarmSource) : t.sourceZone source = s.sourceZone source := by
  cases source with
  | person p => simp only [State.sourceZone, State.personZone, Occupancy.entryOf, h.entries]
  | line l => rfl
  | pendant i => rfl

/-- What ends no condition. -/
theorem still (ports : t.ports = s.ports) (time : t.time = s.time) (entries : t.occupancy.entries = s.occupancy.entries)
    (alarms : t.alarms = s.alarms) : Fades s t (fun _ _ => False) [] where
  gains := .of_ports ports
  time := time
  entries := entries
  ofAlarms _ h := absurd h List.not_mem_nil
  others := ⟨s.alarms.records, s.alarms.notRecorded, alarms⟩
  records _ := by simp only [alarms, AlarmRec.faded_none, List.map_id']
  full sound := by
    have := sound.2.2.2.2
    rw [alarms]
    cases h : s.alarms.notRecorded with
    | false => rfl
    | true => simp [this h]
  notices _ r _ := by simp

theorem congr (h : Fades s t gone bodies) (same : ∀ kind source, gone kind source ↔ later kind source) : Fades s t later bodies := by
  obtain rfl : gone = later := by
    funext kind source
    exact propext (same kind source)
  exact h

/-- A list whose conditions end stays sound. -/
theorem sound (h : Fades s t gone bodies) (sound : AlarmListSound s) : AlarmListSound t := by
  rw [alarmListSound_iff] at sound ⊢
  obtain ⟨_, _, others⟩ := h.others
  have sound' := (alarmListSound_iff s).2 sound
  refine sound.of_map (·.faded gone) (h.records sound') (fun r _ => ?_) (by rw [others]) fun full => ?_
  · obtain ⟨number, kind, source, -⟩ := r.faded_fields gone
    exact ⟨number, kind, source⟩
  · rw [h.full sound'] at full
    simpa using (Bool.and_eq_true_iff.1 full).2

/-- Where the list had room it has room. -/
theorem hasRoom (h : Fades s t gone bodies) (sound : AlarmListSound s) (room : s.alarms.hasRoom = true) : t.alarms.hasRoom = true := by
  unfold Alarms.hasRoom at room ⊢
  rw [h.records sound, List.length_map]
  rw [Bool.or_eq_true] at room ⊢
  refine room.imp id fun some_replaceable => ?_
  obtain ⟨r, hr, replaceable⟩ := List.any_eq_true.1 some_replaceable
  exact List.any_eq_true.2 ⟨_, List.mem_map_of_mem hr, r.faded_replaceable gone replaceable⟩

/-- Some conditions end, and then others. -/
theorem trans (h : Fades s t gone bodies) (h' : Fades t u later more) :
    Fades s u (fun kind source => gone kind source ∨ later kind source) (bodies ++ more) where
  gains := h.gains.trans h'.gains h.time
  time := h'.time.trans h.time
  entries := h'.entries.trans h.entries
  ofAlarms b hb := (List.mem_append.1 hb).elim (h.ofAlarms b) (h'.ofAlarms b)
  others := by
    obtain ⟨_, _, first⟩ := h.others
    obtain ⟨records, full, second⟩ := h'.others
    exact ⟨records, full, by rw [second, first]⟩
  records sound := by
    rw [h'.records (h.sound sound), h.records sound, List.map_map]
    exact List.map_congr_left fun r _ => r.faded_faded gone later
  full sound := by
    rw [h'.full (h.sound sound), h.full sound]
    cases room : t.alarms.hasRoom with
    | false => simp
    | true => simp [h'.hasRoom (h.sound sound) room]
  notices sound r hr := by
    have mem : r.faded gone ∈ t.alarms.records := by
      rw [h.records sound]
      exact List.mem_map_of_mem hr
    have later_iff := h'.notices (h.sound sound) _ mem
    obtain ⟨-, kind, source, -⟩ := r.faded_fields gone
    rw [AlarmRec.faded_condition, AlarmRec.faded_endedBody, kind, source, h.sourceZone] at later_iff
    rw [List.mem_append, ← h.notices sound r hr, ← later_iff]
    tauto

end Fades

/-- R159: where a record holds the condition, it becomes gone, and the notice is queued. -/
theorem State.conditionGone_found (s : State) {old : AlarmRec}
    (found : (s.alarms.records.find? fun r => r.kind = old.kind && r.source = old.source && r.condition) = some old) :
    QueuesGain s (s.conditionGone old.kind old.source) [old.endedBody (s.sourceZone old.source)] ∧
      ∃ full, (s.conditionGone old.kind old.source).alarms =
        { s.alarms with records := (s.alarms.replace { old with condition := false }).records, notRecorded := full } := by
  have place : (s.updAlarms (·.replace { old with condition := false })).sourceZone old.source = s.sourceZone old.source := by
    cases old.source <;> rfl
  have become : s.conditionGone old.kind old.source =
      ((s.updAlarms (·.replace { old with condition := false })).notifyChanged { old with condition := false }
        .conditionGone).settleNotRecorded := by
    unfold State.conditionGone
    rw [found]
  rw [become]
  constructor
  · have gains := (s.updAlarms (·.replace { old with condition := false })).notify_gains (old.endedBody (s.sourceZone old.source))
    refine gains.congr rfl rfl ?_
    rw [← place]
    simp only [State.settleNotRecorded_frame]
    rfl
  · obtain ⟨u, hu⟩ : ∃ u, u = (s.updAlarms (·.replace { old with condition := false })).notifyChanged { old with condition := false }
        .conditionGone := ⟨_, rfl⟩
    have alarms : u.alarms = s.alarms.replace { old with condition := false } := by
      rw [hu]
      simp only [State.notifyChanged, State.notify_frame, State.updAlarms]
    refine ⟨u.alarms.notRecorded && !u.alarms.hasRoom, ?_⟩
    rw [← hu]
    simp only [State.settleNotRecorded, State.updAlarms, alarms]
    rfl

/-- R159: the cause of an alarm ends. -/
theorem State.conditionGone_fades (s : State) (kind : AlarmKind) (source : AlarmSource) :
    ∃ bodies, Fades s (s.conditionGone kind source) (fun k x => k = kind ∧ x = source) bodies ∧ bodies.length ≤ 1 ∧
      ∀ b ∈ bodies, ∃ r ∈ s.alarms.records, b = r.endedBody (s.sourceZone r.source) := by
  have ends := s.conditionGone_ends kind source
  cases found : s.alarms.records.find? fun r => r.kind = kind && r.source = source && r.condition with
  | none =>
    have same : s.conditionGone kind source = s := by
      unfold State.conditionGone
      rw [found]
    have absent (r : AlarmRec) (hr : r ∈ s.alarms.records) (present : r.condition = true) : ¬(r.kind = kind ∧ r.source = source) := by
      have := List.find?_eq_none.1 found r hr
      simp_all
    have still := Fades.still (s := s) (t := s) rfl rfl rfl rfl
    rw [same]
    refine ⟨[], { still with records := fun _ => ?_, notices := fun _ r hr => ?_ }, Nat.zero_le _, fun _ h => absurd h List.not_mem_nil⟩
    · refine ((List.map_congr_left fun r hr => ?_).trans (List.map_id _)).symm
      by_cases gone : r.kind = kind ∧ r.source = source
      · have : r.condition = false := by
          by_contra present
          exact absent r hr (by simpa using present) gone
        rw [AlarmRec.faded, if_pos gone, id, ← this]
      · rw [AlarmRec.faded, if_neg gone, id]
    · exact iff_of_false (fun ⟨present, gone⟩ => absent r hr present gone) List.not_mem_nil
  | some old =>
    have mem := List.mem_of_find?_eq_some found
    have holds := List.find?_some found
    simp only [Bool.and_eq_true, decide_eq_true_eq] at holds
    obtain ⟨⟨rfl, rfl⟩, present⟩ := holds
    obtain ⟨gains, full, alarms⟩ := s.conditionGone_found found
    refine ⟨_, ⟨gains, by simp, by simp, ?_, ⟨_, _, alarms⟩, fun sound => ?_, fun sound => ?_, fun sound r hr => ?_⟩, le_rfl, ?_⟩
    · intro b hb
      rw [List.mem_singleton.1 hb]
      rfl
    · refine (congrArg Alarms.records alarms).trans ((((alarmListSound_iff s).1 sound).replace_records mem
        (r := { old with condition := false }) rfl).trans ?_)
      refine List.map_congr_left fun r hr => ?_
      by_cases e : r = old
      · rw [if_pos e, e, AlarmRec.faded, if_pos ⟨rfl, rfl⟩]
      · rw [if_neg e, AlarmRec.faded, if_neg fun same => e (((alarmListSound_iff s).1 sound).eq_of_source mem hr same.1 same.2)]
    · obtain ⟨become, -⟩ := (ends sound).2 old mem ⟨rfl, rfl, present⟩
      exact congrArg (·.alarms.notRecorded) become
    · rw [List.mem_singleton]
      constructor
      · rintro ⟨-, kind, source⟩
        rw [((alarmListSound_iff s).1 sound).eq_of_source mem hr kind source]
      · intro e
        have number : r.number = old.number := by injection e
        obtain rfl := ((alarmListSound_iff s).1 sound).eq_of_number mem hr number
        exact ⟨present, rfl, rfl⟩
    · intro b hb
      exact ⟨old, mem, List.mem_singleton.1 hb⟩

/-! ## R88, R89: zones whose warning and lone condition are found afresh -/

/-- R89: the lone-occupant timer of a zone is replaced by one that does not record whom it recorded. -/
theorem State.replaceLone_fades (s : State) (z : Zone) (timer : LoneTimer)
    (other : ∀ p, (s.occupancy.lone[z]).person? = some p → ¬timer.records p) :
    ∃ bodies, Fades s ((s.setLone z timer).loneGone (s.occupancy.lone[z]).person?)
      (fun kind source => kind = .loneOccupant ∧ ∃ p, source = .person p ∧ (s.occupancy.lone[z]).records p ∧ ¬timer.records p) bodies ∧
      ∀ b ∈ bodies, ∃ r ∈ s.alarms.records, b = r.endedBody (s.sourceZone r.source) := by
  have set : Fades s (s.setLone z timer) (fun _ _ => False) [] := .still rfl rfl rfl rfl
  cases recorded : (s.occupancy.lone[z]).person? with
  | none =>
    refine ⟨[], set.congr fun kind source => iff_of_false id ?_, fun _ h => absurd h List.not_mem_nil⟩
    rintro ⟨-, p, -, stood, -⟩
    rw [LoneTimer.records_iff, recorded] at stood
    cases stood
  | some p =>
    obtain ⟨bodies, fades, -, told⟩ := (s.setLone z timer).conditionGone_fades .loneOccupant (.person p)
    refine ⟨bodies, (set.trans fades).congr fun kind source => ?_, told⟩
    rw [false_or]
    refine and_congr_right fun _ => ⟨?_, ?_⟩
    · rintro rfl
      exact ⟨p, rfl, (LoneTimer.records_iff _ p).2 recorded, other p recorded⟩
    · rintro ⟨q, rfl, stood, -⟩
      rw [LoneTimer.records_iff, recorded] at stood
      rw [Option.some.inj stood]

/-- R89: all that re-testing a zone's lone condition does to the alarm list. -/
theorem State.retestLone_fades (s : State) (z : Zone) :
    ∃ bodies, Fades s (s.retestLone z)
      (fun kind source => kind = .loneOccupant ∧
        ∃ p, source = .person p ∧ (s.occupancy.lone[z]).records p ∧ ¬((s.retestLone z).occupancy.lone[z]).records p) bodies ∧
      ∀ b ∈ bodies, ∃ r ∈ s.alarms.records, b = r.endedBody (s.sourceZone r.source) := by
  have replaced (timer : LoneTimer) (other : ∀ p, (s.occupancy.lone[z]).person? = some p → ¬timer.records p)
      (run : s.retestLone z = (s.setLone z timer).loneGone (s.occupancy.lone[z]).person?) :
      ∃ bodies, Fades s (s.retestLone z)
        (fun kind source => kind = .loneOccupant ∧
          ∃ p, source = .person p ∧ (s.occupancy.lone[z]).records p ∧ ¬((s.retestLone z).occupancy.lone[z]).records p) bodies ∧
        ∀ b ∈ bodies, ∃ r ∈ s.alarms.records, b = r.endedBody (s.sourceZone r.source) := by
    have after : (s.retestLone z).occupancy.lone[z] = timer := by
      rw [run, State.loneGone_occupancy]
      exact Tab.getElem_put_self _ _ _
    rw [after, run]
    exact s.replaceLone_fades z timer other
  cases lone : s.lonePerson z with
  | none =>
    refine replaced .notRunning (fun p _ records => ?_) ?_
    · rw [LoneTimer.records_iff] at records
      cases records
    · simp only [State.retestLone, lone]
  | some p =>
    by_cases recorded : (s.occupancy.lone[z]).person? = some p
    · have same : s.retestLone z = s := by
        simp only [State.retestLone, lone]
        exact if_pos recorded
      rw [same]
      exact ⟨[], (Fades.still rfl rfl rfl rfl).congr fun kind source =>
        iff_of_false id fun ⟨_, _, _, stood, gone⟩ => gone stood, fun _ h => absurd h List.not_mem_nil⟩
    · refine replaced (.running p (s.nowSec + ((s.zones[z]).map (·.cfg.loneGrace)).getD 0)) (fun q stood records => ?_) ?_
      · rw [LoneTimer.records_iff] at records
        exact recorded (stood.trans records.symm)
      · simp only [State.retestLone, lone]
        exact if_neg recorded

/-- What the lone condition of a zone and a check-in warning are found from. -/
structure LoneSame (s t : State) : Prop where
  time : t.time = s.time
  personnel : t.personnel = s.personnel
  schedules : t.schedules = s.schedules
  entries : t.occupancy.entries = s.occupancy.entries
  cfg : ∀ z : Zone, (t.zones[z]).map (·.cfg) = (s.zones[z]).map (·.cfg)

section LoneSame
variable {s t u : State} {zs : Zone → Prop}

/-- The configuration of a zone's record. -/
theorem LoneSame.zone (h : LoneSame s t) {z : Zone} {r : ZoneRec} (at_ : t.zones[z] = some r) :
    ∃ x, s.zones[z] = some x ∧ r.cfg = x.cfg := by
  have := h.cfg z
  rw [at_, Option.map_some, eq_comm, Option.map_eq_some_iff] at this
  obtain ⟨x, before, cfg⟩ := this
  exact ⟨x, before, cfg.symm⟩

theorem LoneSame.symm (h : LoneSame s t) : LoneSame t s :=
  ⟨h.time.symm, h.personnel.symm, h.schedules.symm, h.entries.symm, fun z => (h.cfg z).symm⟩

theorem LoneSame.loneIn (h : LoneSame s t) {z : Zone} {p : Person} (lone : s.loneIn z p) : t.loneIn z p := by
  obtain ⟨mode, ⟨r, zone, two⟩, e, alone, person, barred⟩ := lone
  obtain ⟨x, after, cfg⟩ := h.symm.zone zone
  refine ⟨h.schedules ▸ mode, ⟨x, after, cfg ▸ two⟩, e, ?_, person, ?_⟩
  · simpa only [Occupancy.entriesIn, h.entries] using alone
  · simpa only [State.personAt, h.personnel] using barred

theorem LoneSame.loneIn_iff (h : LoneSame s t) (z : Zone) (p : Person) : t.loneIn z p ↔ s.loneIn z p := ⟨h.symm.loneIn, h.loneIn⟩

/-- R89: the timers follow in a state that differs in nothing they are found from. -/
theorem LoneFollows.congr {s' : State} (h : LoneFollows s t zs) (same : LoneSame t u) (after : u.occupancy.lone = t.occupancy.lone)
    (before : s'.occupancy.lone = s.occupancy.lone) : LoneFollows s' u zs := by
  intro z
  obtain ⟨kept, follows⟩ := h z
  simp only [before, after, same.loneIn_iff]
  refine ⟨kept, fun hz => ?_⟩
  obtain ⟨stays, starts, stops⟩ := follows hz
  refine ⟨stays, fun p r lone new zone => ?_, stops⟩
  obtain ⟨x, at_, cfg⟩ := same.zone zone
  rw [cfg, show u.nowSec = t.nowSec from congrArg (·.sec) same.time]
  exact starts p x lone new at_

theorem WarningsFollow.congr {s' : State} (h : WarningsFollow s t zs) (same : LoneSame t u)
    (after : u.occupancy.warning = t.occupancy.warning) (before : s'.occupancy.warning = s.occupancy.warning) :
    WarningsFollow s' u zs := by
  intro z
  have := h z
  rwa [after, before, same.entries, show u.nowSec = t.nowSec from congrArg (·.sec) same.time]

end LoneSame

end Sys2Proof.Machine

namespace Sys2Proof.Machine

/-! ## R88, R89: the zones of an event, one after another -/

/-- R88: finding a zone's warning afresh changes the warning and the link alone. -/
theorem State.refreshWarning_only (s : State) (z : Zone) :
    s.refreshWarning z =
      { s with
        occupancy := { s.occupancy with warning := (s.refreshWarning z).occupancy.warning }, link := (s.refreshWarning z).link } := by
  apply State.ext_fields <;> simp [State.refreshWarning_occupancy]

/-- R89: re-testing a lone condition changes the timers, the alarm list and the ports alone. -/
theorem State.retestLone_only (s : State) (z : Zone) :
    s.retestLone z =
      { s with
        occupancy := { s.occupancy with lone := (s.retestLone z).occupancy.lone }, alarms := (s.retestLone z).alarms,
        ports := (s.retestLone z).ports } := by
  have occupancy : (s.retestLone z).occupancy = { s.occupancy with lone := (s.retestLone z).occupancy.lone } := by
    unfold State.retestLone
    cases s.lonePerson z with
    | none => simp only [State.loneGone_occupancy, State.setLone, State.updOccupancy]
    | some p =>
      dsimp only
      split
      · rfl
      · simp only [State.loneGone_occupancy, State.setLone, State.updOccupancy]
  apply State.ext_fields <;> simp
  rw [← occupancy]

/-- R88, R89: from `s` to `t` the check-in warning and the lone condition of the zones `zs` have been found afresh, with the notices `bodies`. -/
structure Retested (s t : State) (zs : Zone → Prop) (bodies : List NoticeBody) : Prop where
  frame : ∃ warning lone link alarms ports,
    t = { s with
      occupancy := { s.occupancy with warning := warning, lone := lone }, link := link, alarms := alarms, ports := ports }
  warnings : WarningsFollow s t zs
  lone : LoneFollows s t zs
  fades : Fades s t (fun kind source => kind = .loneOccupant ∧ ∃ p, source = .person p ∧
    ∃ z : Zone, (s.occupancy.lone[z]).records p ∧ ¬(t.occupancy.lone[z]).records p) bodies

namespace Retested

variable {s t : State} {zs : Zone → Prop} {bodies : List NoticeBody}

theorem refl (s : State) : Retested s s (fun _ => False) [] where
  frame := ⟨_, _, _, _, _, rfl⟩
  warnings _ := ⟨fun _ => rfl, False.elim⟩
  lone _ := ⟨fun _ => rfl, False.elim⟩
  fades := (Fades.still rfl rfl rfl rfl).congr fun _ _ => iff_of_false id fun ⟨_, _, _, _, stood, gone⟩ => gone stood

/-- One zone more. -/
theorem next (h : Retested s t zs bodies) {z : Zone} (new : ¬zs z) :
    ∃ more, Retested s ((t.refreshWarning z).retestLone z) (fun y => zs y ∨ y = z) (bodies ++ more) := by
  obtain ⟨v, hv⟩ : ∃ v, v = t.refreshWarning z := ⟨_, rfl⟩
  obtain ⟨u, hu⟩ : ∃ u, u = v.retestLone z := ⟨_, rfl⟩
  have warned := hv ▸ t.refreshWarning_follows z
  have retested := hu ▸ v.retestLone_follows z
  obtain ⟨more, fades, -⟩ := hu ▸ v.retestLone_fades z
  rw [← hv, ← hu]
  obtain ⟨w, k, rfl⟩ : ∃ w k, v = { t with occupancy := { t.occupancy with warning := w }, link := k } :=
    ⟨_, _, hv.trans (t.refreshWarning_only z)⟩
  obtain ⟨l, a, p, rfl⟩ : ∃ l a p, u =
      { t with occupancy := { t.occupancy with warning := w, lone := l }, link := k, alarms := a, ports := p } :=
    ⟨_, _, _, hu.trans (State.retestLone_only _ z)⟩
  have timers (y : Zone) (other : y ≠ z) : l[y] = t.occupancy.lone[y] := (retested y).1 other
  have before : t.occupancy.lone[z] = s.occupancy.lone[z] := (h.lone z).1 new
  refine ⟨more, ?_, fun y => ⟨fun hy => ?_, fun hy => ?_⟩, fun y => ⟨fun hy => ?_, fun hy => ?_⟩, ?_⟩
  · obtain ⟨_, _, _, _, _, rfl⟩ := h.frame
    exact ⟨_, _, _, _, _, rfl⟩
  · obtain ⟨old, other⟩ := not_or.1 hy
    exact ((warned y).1 other).trans ((h.warnings y).1 old)
  · by_cases e : y = z
    · exact (warned y).2 e
    · exact ((warned y).1 e) ▸ (h.warnings y).2 (hy.resolve_right e)
  · obtain ⟨old, other⟩ := not_or.1 hy
    exact (timers y other).trans ((h.lone y).1 old)
  · by_cases e : y = z
    · subst e
      exact before ▸ (retested y).2 rfl
    · have := (h.lone y).2 (hy.resolve_right e)
      exact (timers y e) ▸ this
  · have still : Fades t _ (fun _ _ => False) [] :=
      .still (s := t) (t := { t with occupancy := { t.occupancy with warning := w }, link := k }) rfl rfl rfl rfl
    refine (h.fades.trans (still.trans fades)).congr fun kind source => ?_
    constructor
    · rintro (⟨rfl, p, rfl, y, stood, gone⟩ | ⟨⟨⟩⟩ | ⟨rfl, p, rfl, stood, gone⟩)
      · have other : y ≠ z := fun e => gone (by subst e; rwa [before])
        exact ⟨rfl, p, rfl, y, stood, (timers y other).symm ▸ gone⟩
      · exact ⟨rfl, p, rfl, z, before ▸ stood, gone⟩
    · rintro ⟨rfl, p, rfl, y, stood, gone⟩
      by_cases e : y = z
      · subst e
        exact .inr (.inr ⟨rfl, p, rfl, before.symm ▸ stood, gone⟩)
      · exact .inl ⟨rfl, p, rfl, y, stood, (timers y e) ▸ gone⟩

/-- The zones of a list. -/
theorem forEach (h : Retested s t zs bodies) (cs : List OccChange) (distinct : (cs.map (·.zone)).Nodup)
    (new : ∀ c ∈ cs, ¬zs c.zone) :
    ∃ more, Retested s (t.forEach cs fun c t => (t.refreshWarning c.zone).retestLone c.zone)
      (fun z => zs z ∨ ∃ c ∈ cs, c.zone = z) more := by
  induction cs generalizing t zs bodies with
  | nil => exact ⟨bodies, by simpa [State.forEach] using h⟩
  | cons c cs ih =>
    rw [List.map_cons, List.nodup_cons] at distinct
    obtain ⟨apart, distinct⟩ := distinct
    obtain ⟨_, first⟩ := h.next (new c List.mem_cons_self)
    obtain ⟨more, all⟩ := ih first distinct fun x hx => by
      rintro (old | e)
      · exact new x (List.mem_cons_of_mem _ hx) old
      · exact apart (e ▸ List.mem_map_of_mem hx)
    refine ⟨more, ?_⟩
    have zones : (fun z => (zs z ∨ z = c.zone) ∨ ∃ x ∈ cs, x.zone = z) = fun z => zs z ∨ ∃ x ∈ c :: cs, x.zone = z := by
      funext z
      simp only [List.mem_cons, exists_eq_or_imp, or_assoc, eq_comm (a := c.zone)]
    exact zones ▸ all

end Retested

/-- R79: the MISSED_CHECKIN conditions of some persons end. -/
theorem State.forEach_missedGone (s : State) (ps : List Person) :
    ∃ bodies, Fades s (s.forEach ps fun p t => t.conditionGone .missedCheckin (.person p))
        (fun kind source => kind = .missedCheckin ∧ ∃ p ∈ ps, source = .person p) bodies ∧
      ∃ alarms ports, (s.forEach ps fun p t => t.conditionGone .missedCheckin (.person p)) =
        { s with alarms := alarms, ports := ports } := by
  induction ps generalizing s with
  | nil => exact ⟨[], (Fades.still rfl rfl rfl rfl).congr (by simp), _, _, rfl⟩
  | cons p ps ih =>
    obtain ⟨first, ends, -⟩ := s.conditionGone_fades .missedCheckin (.person p)
    obtain ⟨rest, fades, a, q, only⟩ := ih (s.conditionGone .missedCheckin (.person p))
    refine ⟨first ++ rest, (ends.trans fades).congr fun kind source => ?_, a, q, only.trans ?_⟩
    · simp only [List.mem_cons, exists_eq_or_imp]
      tauto
    · apply State.ext_fields <;> simp

end Sys2Proof.Machine

namespace Sys2Proof.Machine

/-! ## R91, R105 to R107: a changed zone is told, and acts on its summary -/

/-- What a zone's handing over gives stands where only its reserved places have changed since, and its record has taken them over. -/
theorem SummaryHanded.congr {t t' : State} {z : Zone} {r : ZoneRec} {told : NoticeBody} {bodies bodies' : List NoticeBody}
    (h : SummaryHanded t z r told bodies)
    (summary : t'.summaryOf z = { t.summaryOf z with reserved := (t'.summaryOf z).reserved })
    (zone : ∀ x, t.zones[z] = some x → x.summary = t.summaryOf z → t'.zones[z] = some { x with summary := t'.summaryOf z })
    (notices : bodies'.filter (·.isOf z) = bodies.filter (·.isOf z)) : SummaryHanded t' z r told bodies' := by
  unfold SummaryHanded at h ⊢
  obtain ⟨starts, waits, records⟩ := h
  dsimp only at starts waits records ⊢
  obtain ⟨m, hm⟩ : ∃ m, m = t.summaryOf z := ⟨_, rfl⟩
  obtain ⟨n, hn⟩ : ∃ n, n = (t'.summaryOf z).reserved := ⟨_, rfl⟩
  rw [← hn] at summary
  rw [← hm] at starts waits records summary zone
  rw [summary] at zone ⊢
  rw [notices]
  refine ⟨fun held before after => ?_, fun counts before after => ?_, fun free still => ?_⟩
  · obtain ⟨at_, told⟩ := starts held before after
    have after := zone _ at_ rfl
    exact ⟨after, told⟩
  · obtain ⟨at_, told⟩ := waits counts before after
    have after := zone _ at_ rfl
    exact ⟨after, told⟩
  · obtain ⟨at_, told⟩ := records free still
    have after := zone _ at_ rfl
    exact ⟨after, told⟩

/-- R78, R107: a zone that is ordered while it holds its summary takes over the places handed back. -/
theorem ZoneOrdered.zones {s t : State} {z : Zone} {r x : ZoneRec} {cause : ZoneCause} (h : ZoneOrdered s t z r x cause)
    (holds : x.summary = s.summaryOf z) (cfg : (s.zones[z]).map (·.cfg) = some x.cfg) :
    t.zones = s.zones.put z (some { x with summary := t.summaryOf z }) := by
  obtain ⟨-, same, handed, _, withdraws, -⟩ := h
  by_cases ordered : ∃ d y, s.doors[(d : Door)] = some y ∧ y.cfg.inside = z ∧ y.ordered x.state ≠ none
  · exact handed ordered
  · have occupancy := withdraws.occupancy_of_unordered fun d y hy hin => by
      by_contra some_
      exact ordered ⟨d, y, hy, hin, some_⟩
    have zones := same ordered
    have summary : t.summaryOf z = s.summaryOf z :=
      State.summaryOf_congr occupancy (by rw [zones, Tab.getElem_put_self, cfg]; rfl)
    rw [zones, summary, ← holds]

/-- R91: from `s` to `t` zone `z` has been told, by `told`, and acts on its summary; `bodies` are the notices. -/
structure Announced (s t : State) (z : Zone) (told : NoticeBody) (bodies : List NoticeBody) : Prop where
  frame : ∃ doors reserved zones bus link ports,
    t = { s with
      doors := doors, occupancy := { s.occupancy with reserved := reserved }, zones := zones, bus := bus, link := link, ports := ports }
  reserved : ∀ y : Zone, y ≠ z → t.occupancy.reserved[y] = s.occupancy.reserved[y]
  zones : ∀ y : Zone, y ≠ z → t.zones[y] = s.zones[y]
  cfg : (t.zones[z]).map (·.cfg) = (s.zones[z]).map (·.cfg)
  gains : QueuesGain s t bodies
  unconfigured : s.zones[z] = none → bodies.filter (·.isOf z) = [told]
  handed : ∀ r, s.zones[z] = some r → SummaryHanded t z r told bodies
  own : ∀ b ∈ bodies, b.ofAlarm = false ∧ ∀ y : Zone, y ≠ z → b.isOf y = false
  doors : (t.doors = s.doors ∧ t.bus = s.bus ∧ t.occupancy.reserved = s.occupancy.reserved) ∨
    s.bars z = true ∧ (t.zones[z]).map (·.state) ≠ (s.zones[z]).map (·.state) ∧
      ∃ entered, ∀ d : Door, t.doors[d] = (s.doors[d]).map fun y =>
        if y.cfg.inside = z then (y.withdrawn entered).driven true else y

/-- A notice of a door is none of the occupancy, of a zone's state, or of the alarm list. -/
theorem NoticeBody.isOf_of_isAt {b : NoticeBody} {d : Door} (h : b.isAt d = true) (z : Zone) : b.isOf z = false ∧ b.ofAlarm = false := by
  cases b with
  | accessWithdrawn => exact ⟨rfl, rfl⟩
  | doorState => exact ⟨rfl, rfl⟩
  | _ => cases h

theorem NoticeBody.filter_isOf_cons {b : NoticeBody} {z : Zone} (h : b.isOf z = true) (l : List NoticeBody) :
    (b :: l).filter (·.isOf z) = b :: l.filter (·.isOf z) := List.filter_cons_of_pos h

theorem NoticeBody.filter_isOf_nil {l : List NoticeBody} {z : Zone} (h : ∀ b ∈ l, b.isOf z = false) : l.filter (·.isOf z) = [] :=
  List.filter_eq_nil_iff.2 fun b hb => by simp [h b hb]

theorem State.occupancyTold_own (s : State) (z : Zone) (cause : OccCause) (persons : List Person) :
    (s.occupancyTold z cause persons).isOf z = true := decide_eq_true rfl

theorem zoneStateBody_own (z : Zone) (x : ZoneRec) (state : ZoneState) (cause : ZoneCause) :
    (zoneStateBody z x state cause).isOf z = true := decide_eq_true rfl

/-- R40: the doors after a withdrawal order. -/
theorem Withdraws.doors {s t : State} {z : Zone} {entered : ZoneState} {bodies : List NoticeBody} (h : Withdraws s t z entered bodies)
    (d : Door) : t.doors[d] = (s.doors[d]).map fun y => if y.cfg.inside = z then (y.withdrawn entered).driven true else y := by
  obtain ⟨away, into, -⟩ := h
  have none_ := away d
  have some_ := into d
  dsimp only at none_ some_
  rcases hd : s.doors[d] with _ | y
  · rw [hd] at none_
    exact none_ rfl
  · rw [hd] at none_ some_
    by_cases hin : y.cfg.inside = z
    · rw [some_ y (Option.filter_some_pos (by simpa using hin)), Option.map_some, if_pos hin]
    · rw [none_ (Option.filter_some_neg (by simpa using hin)), Option.map_some, if_neg hin]

/-- A zone that keeps its record, or takes over its summary and nothing else, is told and hands its summary over. -/
theorem Announced.of_kept {s t : State} {z : Zone} {cause : OccCause} {persons : List Person} {r : ZoneRec} (at_ : s.zones[z] = some r)
    (ports : t.ports = (s.notify (s.occupancyTold z cause persons)).ports)
    (become : t = { s with zones := s.zones.put z (some { r with summary := s.summaryOf z }), ports := t.ports })
    (starts : r.state = .occupiedHold → (s.summaryOf z).occupied = true ∨ r.summary.occupied = false)
    (waits : (r.state = .countdown ∨ r.state = .held) ∧ r.kind = some .auto →
      (s.summaryOf z).occupied = false ∨ r.summary.occupied = true) :
    Announced s t z (s.occupancyTold z cause persons) [s.occupancyTold z cause persons] := by
  have gains : QueuesGain s t [s.occupancyTold z cause persons] := (s.notify_gains _).congr rfl rfl ports
  obtain ⟨q, rfl⟩ : ∃ q, t = { s with zones := s.zones.put z (some { r with summary := s.summaryOf z }), ports := q } := ⟨_, become⟩
  have own : [s.occupancyTold z cause persons].filter (·.isOf z) = [s.occupancyTold z cause persons] :=
    NoticeBody.filter_isOf_cons (s.occupancyTold_own ..) []
  have summary : ({ s with zones := s.zones.put z (some { r with summary := s.summaryOf z }), ports := q } : State).summaryOf z =
      s.summaryOf z := State.summaryOf_congr rfl (by rw [Tab.getElem_put_self, at_]; rfl)
  refine ⟨⟨_, _, _, _, _, _, rfl⟩, fun _ _ => rfl, fun y other => Tab.getElem_put_of_ne other, ?_, gains, fun absent => ?_,
    fun x hx => ?_, fun b hb => ?_, .inl ⟨rfl, rfl, rfl⟩⟩
  · rw [Tab.getElem_put_self, at_]
    rfl
  · rw [at_] at absent
    cases absent
  · obtain rfl := Option.some.inj (at_.symm.trans hx)
    unfold SummaryHanded
    rw [summary]
    simp only [← Summary.occupied_iff, Bool.not_eq_true]
    refine ⟨fun held before after => ?_, fun counts before after => ?_, fun _ _ => ⟨Tab.getElem_put_self _ _ _, own⟩⟩
    · rcases starts held with h | h
      · exact absurd (h.symm.trans after) (by decide)
      · exact absurd (before.symm.trans h) (by decide)
    · rcases waits counts with h | h
      · exact absurd (after.symm.trans h) (by decide)
      · exact absurd (h.symm.trans before) (by decide)
  · obtain rfl := List.mem_singleton.1 hb
    exact ⟨rfl, fun y other => decide_eq_false other.symm⟩

/-- A zone that is told, takes over its summary and is ordered. -/
theorem Announced.of_ordered {s u t : State} {z : Zone} {cause : OccCause} {persons : List Person} {r x : ZoneRec} {why : ZoneCause}
    (at_ : s.zones[z] = some r) (told : QueuesGain s u [s.occupancyTold z cause persons])
    (recorded : u = { s with zones := s.zones.put z (some { r with summary := s.summaryOf z }), ports := u.ports })
    (ordered : ZoneOrdered u t z { r with summary := s.summaryOf z } x why) (holds : x.summary = s.summaryOf z) (cfg : x.cfg = r.cfg)
    (bars : s.bars z = true) (state : x.state ≠ r.state)
    (hands : ∀ more, t.zones[z] = some { x with summary := t.summaryOf z } →
      t.summaryOf z = { s.summaryOf z with reserved := (t.summaryOf z).reserved } →
      more.filter (·.isOf z) = [s.occupancyTold z cause persons, zoneStateBody z x r.state why] →
      SummaryHanded t z r (s.occupancyTold z cause persons) more) :
    ∃ bodies, Announced s t z (s.occupancyTold z cause persons) bodies := by
  obtain ⟨q, rfl⟩ : ∃ q, u = { s with zones := s.zones.put z (some { r with summary := s.summaryOf z }), ports := q } := ⟨_, recorded⟩
  obtain ⟨u, hu⟩ : ∃ u : State, u = { s with zones := s.zones.put z (some { r with summary := s.summaryOf z }), ports := q } := ⟨_, rfl⟩
  have here : u.zones[z] = some { r with summary := s.summaryOf z } := by rw [hu]; exact Tab.getElem_put_self _ _ _
  have usummary : u.summaryOf z = s.summaryOf z := by
    rw [hu]
    exact State.summaryOf_congr rfl (by rw [Tab.getElem_put_self, at_]; rfl)
  rw [← hu] at told ordered
  have zones := ordered.zones (holds.trans usummary.symm) (by rw [here]; exact congrArg some cfg.symm)
  obtain ⟨frame, -, -, bodies, withdraws, gains⟩ := ordered
  have doors := withdraws.doors
  obtain ⟨-, -, occupancy, -, isAt, -, -⟩ := withdraws
  obtain ⟨n, reserved⟩ : ∃ n, t.occupancy = { u.occupancy with reserved := u.occupancy.reserved.put z n } := ⟨_, occupancy⟩
  have after : t.zones[z] = some { x with summary := t.summaryOf z } := by rw [zones]; exact Tab.getElem_put_self _ _ _
  have places : t.summaryOf z = { s.summaryOf z with reserved := (t.summaryOf z).reserved } := by
    have load : t.uncertainLoad z = s.uncertainLoad z := by
      simp only [State.uncertainLoad, after, at_, Option.map_some, cfg]
    simp only [State.summaryOf, State.egressLoad, Occupancy.entriesIn, load, reserved, hu]
  have notices : (s.occupancyTold z cause persons :: zoneStateBody z x r.state why :: bodies).filter (·.isOf z) =
      [s.occupancyTold z cause persons, zoneStateBody z x r.state why] := by
    rw [NoticeBody.filter_isOf_cons (s.occupancyTold_own ..), NoticeBody.filter_isOf_cons (zoneStateBody_own ..),
      NoticeBody.filter_isOf_nil fun b hb => (isAt b hb).elim fun d hd => (NoticeBody.isOf_of_isAt hd z).1]
  refine ⟨_, ⟨?_, fun y other => ?_, fun y other => ?_, ?_, told.trans gains (by rw [hu]), fun absent => ?_, fun y hy => ?_,
    fun b hb => ?_, .inr ⟨bars, ?_, x.state, fun d => ?_⟩⟩⟩
  · refine ⟨t.doors, s.occupancy.reserved.put z n, t.zones, t.bus, u.link.shows z x (u.alarms.displayFlag z) u.occupancy.warning[z],
      t.ports, ?_⟩
    conv_lhs => rw [frame, reserved, hu]
    rw [hu]
  · rw [reserved, hu]
    exact Tab.getElem_put_of_ne other
  · rw [zones, hu]
    exact (Tab.getElem_put_of_ne other).trans (Tab.getElem_put_of_ne other)
  · rw [after, at_]
    exact congrArg some cfg
  · rw [at_] at absent
    cases absent
  · obtain rfl := Option.some.inj (at_.symm.trans hy)
    exact hands _ after places notices
  · rcases List.mem_cons.1 hb with rfl | hb
    · exact ⟨rfl, fun y other => decide_eq_false other.symm⟩
    rcases List.mem_cons.1 hb with rfl | hb
    · exact ⟨rfl, fun y other => decide_eq_false other.symm⟩
    obtain ⟨d, hd⟩ := isAt b hb
    exact ⟨(NoticeBody.isOf_of_isAt hd z).2, fun y _ => (NoticeBody.isOf_of_isAt hd y).1⟩
  · rw [after, at_]
    exact fun e => state (Option.some.inj e)
  · rw [doors d, hu]

/-- R106, R111: OCCUPIED_HOLD on a zone that has become unoccupied, as handed over. -/
theorem SummaryHanded.of_started {t : State} {z : Zone} {r : ZoneRec} {m : Summary} {told : NoticeBody} {bodies : List NoticeBody}
    (held : r.state = .occupiedHold) (empty : m.occupied = false)
    (after : t.zones[z] = some { ({ r with summary := m } : ZoneRec).countdownStarted .auto with summary := t.summaryOf z })
    (places : t.summaryOf z = { m with reserved := (t.summaryOf z).reserved })
    (notices : bodies.filter (·.isOf z) =
      [told, zoneStateBody z (({ r with summary := m } : ZoneRec).countdownStarted .auto) r.state .unoccupied]) :
    SummaryHanded t z r told bodies := by
  rw [ZoneRec.countdownStarted_eq] at after notices
  obtain ⟨n, hn⟩ : ∃ n, n = (t.summaryOf z).reserved := ⟨_, rfl⟩
  rw [← hn] at places
  unfold SummaryHanded
  rw [places] at after ⊢
  have empty' : ¬(0 < m.count ∨ m.uncertain = true) := fun h => absurd (empty.symm.trans ((Summary.occupied_iff m).2 h)) (by decide)
  refine ⟨fun _ _ _ => ⟨after, by rw [notices, held]; rfl⟩, fun counts => ?_, fun free => absurd (free held) empty'⟩
  rw [held] at counts
  exact absurd counts.1 (by decide)

/-- R107: an AUTO countdown or hold on a zone that has become occupied, as handed over. -/
theorem SummaryHanded.of_waiting {t : State} {z : Zone} {r : ZoneRec} {m : Summary} {told : NoticeBody} {bodies : List NoticeBody}
    (counts : (r.state = .countdown ∨ r.state = .held) ∧ r.kind = some .auto) (filled : m.occupied = true)
    (after : t.zones[z] = some { r with state := .occupiedHold, delay := none, remaining := none, summary := t.summaryOf z })
    (places : t.summaryOf z = { m with reserved := (t.summaryOf z).reserved })
    (notices : bodies.filter (·.isOf z) =
      [told, zoneStateBody z { r with state := .occupiedHold, delay := none, remaining := none, summary := m } r.state .occupied]) :
    SummaryHanded t z r told bodies := by
  obtain ⟨n, hn⟩ : ∃ n, n = (t.summaryOf z).reserved := ⟨_, rfl⟩
  rw [← hn] at places
  unfold SummaryHanded
  rw [places] at after ⊢
  have filled' : 0 < m.count ∨ m.uncertain = true := (Summary.occupied_iff m).1 filled
  refine ⟨fun held => ?_, fun _ _ _ => ⟨after, notices⟩, fun _ still => absurd filled' (still counts)⟩
  rw [held] at counts
  exact absurd counts.1 (by decide)

/-- R91: all that announcing a changed zone does. -/
theorem State.announce_announces (s : State) (c : OccChange) :
    ∃ bodies, Announced s (s.announce c) c.zone (s.occupancyTold c.zone c.cause c.persons) bodies := by
  obtain ⟨z, cause, persons⟩ := c
  obtain ⟨told, htold⟩ : ∃ told, told = s.occupancyTold z cause persons := ⟨_, rfl⟩
  obtain ⟨v, hv⟩ : ∃ v, v = s.notify told := ⟨_, rfl⟩
  have hands : s.announce ⟨z, cause, persons⟩ = v.handSummary z := by rw [hv, htold]; rfl
  have only : v = { s with ports := v.ports } := by rw [hv]; exact s.notify_only told
  have gains : QueuesGain s v [told] := by rw [hv]; exact s.notify_gains told
  have zones : v.zones = s.zones := by rw [only]
  have summary : v.summaryOf z = s.summaryOf z := by rw [only]; rfl
  rw [hands, ← htold]
  cases at_ : s.zones[z] with
  | none =>
    have same : v.handSummary z = v := by simp only [State.handSummary, zones, at_]
    rw [same]
    refine ⟨[told], ⟨?_, fun y _ => by rw [only], fun y _ => by rw [zones], by rw [zones], gains, fun _ => ?_, fun r hr => ?_,
      fun b hb => ?_, .inl ⟨by rw [only], by rw [only], by rw [only]⟩⟩⟩
    · exact ⟨_, _, _, _, _, _, only⟩
    · exact NoticeBody.filter_isOf_cons (htold ▸ s.occupancyTold_own ..) []
    · rw [at_] at hr
      cases hr
    · rw [List.mem_singleton.1 hb, htold]
      exact ⟨rfl, fun y other => decide_eq_false other.symm⟩
  | some r =>
    obtain ⟨u, hu⟩ : ∃ u, u = v.recordSummary z := ⟨_, rfl⟩
    have recorded : u = { s with zones := s.zones.put z (some { r with summary := s.summaryOf z }), ports := v.ports } := by
      rw [hu, State.recordSummary, State.updZone, zones, at_, summary]
      conv_lhs => rw [only]
      rfl
    have here : u.zones[z] = some { r with summary := s.summaryOf z } := by rw [recorded]; exact Tab.getElem_put_self _ _ _
    have ports : u.ports = (s.notify told).ports := by rw [recorded, hv]
    have told' : QueuesGain s u [told] := gains.congr rfl rfl (by rw [ports, hv])
    have run : v.handSummary z =
        if s.summaryOf z = r.summary then v
        else if r.state = .occupiedHold ∧ (s.summaryOf z).occupied = false then u.startCountdown z .auto .unoccupied
        else if ((r.state = .countdown ∨ r.state = .held) ∧ r.kind = some .auto) ∧ (s.summaryOf z).occupied = true then
          u.changeZone z .occupied fun x => { x with state := .occupiedHold, delay := none, remaining := none }
        else u := by
      simp only [State.handSummary, zones, at_, summary, ← hu, Bool.and_eq_true, Bool.or_eq_true, Bool.not_eq_true', decide_eq_true_eq]
    rw [run]
    have bars (state : r.state = .countdown ∨ r.state = .held ∨ r.state = .occupiedHold) : s.bars z = true := by
      simp only [State.bars, at_, Option.any_some, zoneBars]
      rcases state with e | e | e <;> rw [e] <;> rfl
    subst htold
    split
    · next same =>
      refine ⟨_, .of_kept at_ (by rw [hv]) ?_ (fun _ => ?_) fun _ => ?_⟩
      · rw [same, put_eq_self at_.symm]
        exact only
      · rw [same]
        cases r.summary.occupied <;> simp
      · rw [same]
        cases r.summary.occupied <;> simp
    split
    · next starts =>
      obtain ⟨held, empty⟩ := starts
      obtain ⟨order, other⟩ := ZoneRec.countdownStarted_orders { r with summary := s.summaryOf z } .auto (.inr held)
      refine Announced.of_ordered at_ told' (by rw [recorded])
        (State.changeZone_orders (f := (·.countdownStarted .auto)) here .unoccupied order other) ?_ ?_ (bars (.inr (.inr held))) other
        fun more after places notices => .of_started held empty after places notices
      · rw [ZoneRec.countdownStarted_eq]
      · rw [ZoneRec.countdownStarted_eq]
    split
    · next waits =>
      obtain ⟨counts, filled⟩ := waits
      have other : ZoneState.occupiedHold ≠ r.state := by
        rcases counts.1 with e | e <;> rw [e] <;> decide
      exact Announced.of_ordered at_ told' (by rw [recorded])
        (State.changeZone_orders (f := fun x => { x with state := .occupiedHold, delay := none, remaining := none }) here .occupied rfl other)
        rfl rfl (bars (counts.1.imp_right .inl)) other fun more after places notices => .of_waiting counts filled after places notices
    · next changed starts waits =>
      refine ⟨_, .of_kept at_ ports (by rw [recorded]) (fun held => ?_) fun counts => ?_⟩
      · exact .inl (by simpa [held] using starts)
      · exact .inl (by simpa [counts] using waits)

end Sys2Proof.Machine

namespace Sys2Proof.Machine

/-! ## R91: the zones of an event are told, one after another -/

/-- What withdrawal orders may leave of a door's record: one without a grant keeps everything but its pairing record and its drive. -/
structure DoorRec.Follows (y x : DoorRec) : Prop where
  cfg : x.cfg = y.cfg
  pairing : x.pairing = y.pairing ∨ x.pairing = none
  rest : y.grant = none → ∃ pairing drive chirp, x = { y with pairing := pairing, lastDrive := drive, chirpOwed := chirp }

theorem DoorRec.Follows.refl (y : DoorRec) : y.Follows y := ⟨rfl, .inl rfl, fun _ => ⟨_, _, _, rfl⟩⟩

theorem DoorRec.Follows.trans {y x w : DoorRec} (h : y.Follows x) (h' : x.Follows w) : y.Follows w where
  cfg := h'.cfg.trans h.cfg
  pairing := by
    rcases h'.pairing with e | e
    · rw [e]
      exact h.pairing
    · exact .inr e
  rest free := by
    obtain ⟨p, l, c, rfl⟩ := h.rest free
    obtain ⟨p', l', c', rfl⟩ := h'.rest free
    exact ⟨p', l', c', rfl⟩

theorem DoorRec.driven_only (y : DoorRec) (barred : Bool) :
    ∃ drive chirp, y.driven barred = { y with lastDrive := drive, chirpOwed := chirp } := by
  unfold DoorRec.driven
  dsimp only
  split
  · exact ⟨_, _, rfl⟩
  · exact ⟨_, _, rfl⟩

theorem DoorRec.withdrawn_follows (y : DoorRec) (entered : ZoneState) (barred : Bool) : y.Follows ((y.withdrawn entered).driven barred) := by
  obtain ⟨l, c, driven⟩ := (y.withdrawn entered).driven_only barred
  rw [driven]
  unfold DoorRec.withdrawn
  split
  · exact ⟨rfl, .inr rfl, fun _ => ⟨_, _, _, rfl⟩⟩
  · next g ordered =>
    refine ⟨rfl, .inr rfl, fun free => ?_⟩
    rw [DoorRec.ordered, free] at ordered
    cases ordered

/-- R91: from `s` to `t` the zones of the changes `cs` have been told and act on their summaries; `bodies` are the notices. -/
structure Told (s t : State) (cs : List OccChange) (bodies : List NoticeBody) : Prop where
  frame : ∃ doors reserved zones bus link ports,
    t = { s with
      doors := doors, occupancy := { s.occupancy with reserved := reserved }, zones := zones, bus := bus, link := link, ports := ports }
  gains : QueuesGain s t bodies
  alarms : ∀ b ∈ bodies, b.ofAlarm = false
  cfg : ∀ z : Zone, (t.zones[z]).map (·.cfg) = (s.zones[z]).map (·.cfg)
  others : ∀ z : Zone, (∀ c ∈ cs, c.zone ≠ z) →
    t.occupancy.reserved[z] = s.occupancy.reserved[z] ∧ t.zones[z] = s.zones[z] ∧ bodies.filter (·.isOf z) = []
  told : ∀ c ∈ cs, (s.zones[c.zone] = none → bodies.filter (·.isOf c.zone) = [s.occupancyTold c.zone c.cause c.persons]) ∧
    ∀ r, s.zones[c.zone] = some r → SummaryHanded t c.zone r (s.occupancyTold c.zone c.cause c.persons) bodies
  doors : ∀ d y, s.doors[(d : Door)] = some y → ∃ x, t.doors[d] = some x ∧ y.Follows x ∧
    ((t.zones[y.cfg.inside]).map (·.state) = (s.zones[y.cfg.inside]).map (·.state) → x = y)
  unbarred : (∀ c ∈ cs, s.bars c.zone = false) →
    t.doors = s.doors ∧ t.bus = s.bus ∧ t.occupancy.reserved = s.occupancy.reserved

/-- The count, the flag and the load of a zone's summary. -/
theorem State.summaryOf_reserved {s t : State} {z : Zone} (entries : t.occupancy.entries = s.occupancy.entries)
    (uncertain : t.occupancy.uncertain[z] = s.occupancy.uncertain[z]) (cfg : (t.zones[z]).map (·.cfg) = (s.zones[z]).map (·.cfg)) :
    t.summaryOf z = { s.summaryOf z with reserved := (t.summaryOf z).reserved } := by
  have load : t.uncertainLoad z = s.uncertainLoad z := by
    have := congrArg (fun o => (o.map (·.uncertainLoad)).getD 0) cfg
    simpa [State.uncertainLoad, Function.comp_def] using this
  simp only [State.summaryOf, State.egressLoad, Occupancy.entriesIn, load, entries, uncertain]

theorem State.occupancyTold_congr {s t : State} {z : Zone} {cause : OccCause} {persons : List Person}
    (summary : t.summaryOf z = { s.summaryOf z with reserved := (t.summaryOf z).reserved }) :
    t.occupancyTold z cause persons = s.occupancyTold z cause persons := by
  unfold State.occupancyTold
  rw [summary]

namespace Told

variable {s t : State} {cs : List OccChange} {bodies : List NoticeBody}

theorem refl (s : State) : Told s s [] [] where
  frame := ⟨_, _, _, _, _, _, rfl⟩
  gains := .refl s
  alarms _ h := absurd h List.not_mem_nil
  cfg _ := rfl
  others _ _ := ⟨rfl, rfl, rfl⟩
  told _ h := absurd h List.not_mem_nil
  doors _ y hy := ⟨y, hy, .refl y, fun _ => rfl⟩
  unbarred _ := ⟨rfl, rfl, rfl⟩

/-- The count, the flag and the load of every zone stand. -/
theorem summary (h : Told s t cs bodies) (z : Zone) : t.summaryOf z = { s.summaryOf z with reserved := (t.summaryOf z).reserved } := by
  obtain ⟨_, _, _, _, _, _, frame⟩ := h.frame
  exact State.summaryOf_reserved (by rw [frame]) (by rw [frame]) (h.cfg z)

/-- One zone more. -/
theorem next (h : Told s t cs bodies) {c : OccChange} (new : ∀ x ∈ cs, x.zone ≠ c.zone) :
    ∃ more, Told s (t.announce c) (cs ++ [c]) (bodies ++ more) := by
  obtain ⟨more, a⟩ := t.announce_announces c
  obtain ⟨u, hu⟩ : ∃ u, u = t.announce c := ⟨_, rfl⟩
  rw [← hu] at a ⊢
  obtain ⟨kept, zone, quiet⟩ := h.others c.zone new
  have zone_at (z : Zone) (e : z = c.zone) : t.zones[z] = s.zones[z] := by
    subst e
    exact zone
  have time : t.time = s.time := by
    obtain ⟨_, _, _, _, _, _, frame⟩ := h.frame
    rw [frame]
  have same : t.occupancyTold c.zone c.cause c.persons = s.occupancyTold c.zone c.cause c.persons :=
    State.occupancyTold_congr (h.summary c.zone)
  have own : (bodies ++ more).filter (·.isOf c.zone) = more.filter (·.isOf c.zone) := by
    rw [List.filter_append, quiet, List.nil_append]
  have apart (z : Zone) (other : z ≠ c.zone) : (bodies ++ more).filter (·.isOf z) = bodies.filter (·.isOf z) := by
    rw [List.filter_append, NoticeBody.filter_isOf_nil fun b hb => (a.own b hb).2 z other, List.append_nil]
  refine ⟨more, ⟨?_, h.gains.trans a.gains time, fun b hb => ?_, fun z => ?_, fun z hz => ?_, fun x hx => ?_, fun d y hy => ?_, fun free => ?_⟩⟩
  · obtain ⟨_, _, _, _, _, _, rfl⟩ := h.frame
    obtain ⟨_, _, _, _, _, _, rfl⟩ := a.frame
    exact ⟨_, _, _, _, _, _, rfl⟩
  · exact (List.mem_append.1 hb).elim (h.alarms b) fun hb => (a.own b hb).1
  · by_cases e : z = c.zone
    · rw [e, a.cfg, h.cfg]
    · rw [a.zones z e, h.cfg]
  · have other : z ≠ c.zone := fun e => hz c (List.mem_append_right _ List.mem_cons_self) e.symm
    obtain ⟨kept, zone, quiet⟩ := h.others z fun x hx => hz x (List.mem_append_left _ hx)
    exact ⟨(a.reserved z other).trans kept, (a.zones z other).trans zone, (apart z other).trans quiet⟩
  · rcases List.mem_append.1 hx with hx | hx
    · have other := new x hx
      obtain ⟨absent, present⟩ := h.told x hx
      refine ⟨fun none_ => (apart _ other).trans (absent none_), fun r hr => ?_⟩
      have summary : u.summaryOf x.zone = t.summaryOf x.zone := by
        have reserved : (u.summaryOf x.zone).reserved = (t.summaryOf x.zone).reserved := a.reserved _ other
        obtain ⟨_, _, _, _, _, _, frame⟩ := a.frame
        rw [State.summaryOf_reserved (s := t) (by rw [frame]) (by rw [frame]) (by rw [a.zones _ other]), reserved]
      refine (present r hr).congr (by rw [summary]) (fun y hy holds => ?_) (apart _ other)
      rw [a.zones _ other, hy, summary, ← holds]
    · obtain rfl := List.mem_singleton.1 hx
      rw [← same, own, ← zone]
      exact ⟨a.unconfigured, fun r hr => (a.handed r hr).congr rfl
        (fun y hy holds => by rw [hy, ← holds]) own⟩
  · obtain ⟨x, hx, follows, stands⟩ := h.doors d y hy
    rcases a.doors with ⟨doors, -, -⟩ | ⟨-, state, entered, doors⟩
    · refine ⟨x, by rw [doors, hx], follows, fun e => stands ?_⟩
      by_cases inside : y.cfg.inside = c.zone
      · rw [zone_at _ inside]
      · rwa [a.zones _ inside] at e
    · have state_at (z : Zone) (e : z = c.zone) : (u.zones[z]).map (·.state) ≠ (t.zones[z]).map (·.state) := by
        subst e
        exact state
      have after := doors d
      rw [hx, Option.map_some] at after
      refine ⟨_, after, ?_, fun e => ?_⟩
      · split
        · exact follows.trans (x.withdrawn_follows entered true)
        · exact follows
      · by_cases inside : y.cfg.inside = c.zone
        · rw [← zone_at _ inside] at e
          exact absurd e (state_at _ inside)
        · rw [a.zones _ inside] at e
          rw [stands e, if_neg inside]
  · obtain ⟨doors, bus, reserved⟩ := h.unbarred fun x hx => free x (List.mem_append_left _ hx)
    have open_ : t.bars c.zone = false := by
      rw [State.bars, zone]
      exact free c (List.mem_append_right _ List.mem_cons_self)
    rcases a.doors with ⟨doors', bus', reserved'⟩ | ⟨barred, -⟩
    · exact ⟨doors'.trans doors, bus'.trans bus, reserved'.trans reserved⟩
    · rw [open_] at barred
      cases barred

theorem forEach_from (h : Told s t cs bodies) (more : List OccChange) (distinct : ((cs ++ more).map (·.zone)).Nodup) :
    ∃ all, Told s (t.forEach more fun c t => t.announce c) (cs ++ more) all := by
  induction more generalizing t cs bodies with
  | nil => exact ⟨bodies, by simpa [State.forEach] using h⟩
  | cons c more ih =>
    have new : ∀ x ∈ cs, x.zone ≠ c.zone := fun x hx e => by
      rw [List.map_append, List.nodup_append] at distinct
      exact distinct.2.2 _ (List.mem_map_of_mem hx) _ (List.mem_map_of_mem List.mem_cons_self) e
    obtain ⟨_, first⟩ := h.next new
    rw [List.append_cons] at distinct ⊢
    exact ih first distinct

end Told

/-- R91: the changed zones of an event are told. -/
theorem State.forEach_announce (s : State) (cs : List OccChange) (distinct : (cs.map (·.zone)).Nodup) :
    ∃ bodies, Told s (s.forEach cs fun c t => t.announce c) cs bodies :=
  (Told.refl s).forEach_from cs distinct

end Sys2Proof.Machine

namespace Sys2Proof.Machine

/-! ## R79, R88, R89, R91: one event of the Occupancy Unit -/

/-- From `s` to `t` an event changes the occupancy of the zones `changed`, for a cause and of persons each, finds the warnings of the zones `found`
afresh, and the MISSED_CHECKIN conditions of the persons `missed` end; `bodies` are the notices. -/
structure Occurs (s t : State) (changed found : Zone → Prop) (cause : Zone → OccCause) (named : Zone → List Person) (missed : Person → Prop)
    (bodies : List NoticeBody) : Prop where
  gains : QueuesGain s t bodies
  time : t.time = s.time
  changes : OccupancyChanges s t bodies changed cause named
  warnings : WarningsFollow s t found
  lone : LoneFollows s t changed
  conditions : AlarmListSound s → ConditionsEnd s t missed bodies

/-- A notice of the occupancy, of a zone's state, or of the alarm list is none of these. -/
def NoticeBody.Apart (b : NoticeBody) : Prop := b.ofAlarm = false ∧ ∀ z, b.isOf z = false

theorem NoticeBody.filter_isOf_apart {l : List NoticeBody} (h : ∀ b ∈ l, b.Apart) (z : Zone) : l.filter (·.isOf z) = [] :=
  NoticeBody.filter_isOf_nil fun b hb => (h b hb).2 z

theorem AlarmRec.endedBody_ofAlarm (r : AlarmRec) (place : Option Zone) : (r.endedBody place).ofAlarm = true := rfl

/-- R159: the end of conditions as it is stated of an event. -/
theorem ConditionsEnd.congr {s s' t t' : State} {missed : Person → Prop} {bodies bodies' : List NoticeBody} (h : ConditionsEnd s t missed bodies)
    (alarms : s'.alarms = s.alarms) (lone : s'.occupancy.lone = s.occupancy.lone) (alarms' : t'.alarms = t.alarms)
    (lone' : t'.occupancy.lone = t.occupancy.lone) (entries : t'.occupancy.entries = t.occupancy.entries)
    (same : ∀ b : NoticeBody, b.ofAlarm = true → (b ∈ bodies' ↔ b ∈ bodies)) : ConditionsEnd s' t' missed bodies' := by
  have place (source : AlarmSource) : t'.sourceZone source = t.sourceZone source := by
    cases source with
    | person p => simp only [State.sourceZone, State.personZone, Occupancy.entryOf, entries]
    | line l => rfl
    | pendant i => rfl
  unfold ConditionsEnd at h ⊢
  obtain ⟨others, records, notices⟩ := h
  dsimp only at others records notices ⊢
  rw [alarms, lone, alarms', lone']
  refine ⟨others, records, fun r hr => ?_⟩
  rw [place]
  exact (notices r hr).trans (same _ (r.endedBody_ofAlarm _)).symm

theorem ConditionsEnd.of_missed {s t : State} {missed missed' : Person → Prop} {bodies : List NoticeBody} (h : ConditionsEnd s t missed bodies)
    (same : ∀ p, missed p ↔ missed' p) : ConditionsEnd s t missed' bodies := by
  obtain rfl : missed = missed' := funext fun p => propext (same p)
  exact h

/-- R79, R89, R159: the conditions that end. -/
theorem Fades.conditionsEnd {s t : State} {missed : Person → Prop} {bodies : List NoticeBody}
    (h : Fades s t (fun kind source => (kind = .missedCheckin ∧ ∃ p, missed p ∧ source = .person p) ∨
      kind = .loneOccupant ∧ ∃ p, source = .person p ∧ ∃ z : Zone, (s.occupancy.lone[z]).records p ∧ ¬(t.occupancy.lone[z]).records p) bodies)
    (sound : AlarmListSound s) : ConditionsEnd s t missed bodies := by
  have records := h.records sound
  have gone_iff (r : AlarmRec) :
      ((r.kind = .missedCheckin ∧ ∃ p, missed p ∧ r.source = .person p) ∨ r.kind = .loneOccupant ∧ ∃ p, r.source = .person p ∧
        ∃ z : Zone, (s.occupancy.lone[z]).records p ∧ ¬(t.occupancy.lone[z]).records p) ↔
      ∃ p, r.source = .person p ∧ ((r.kind = .missedCheckin ∧ missed p) ∨ (r.kind = .loneOccupant ∧
        ∃ z : Zone, (s.occupancy.lone[z]).records p ∧ ¬(t.occupancy.lone[z]).records p)) := by
    constructor
    · rintro (⟨kind, p, hp, source⟩ | ⟨kind, p, source, hp⟩)
      · exact ⟨p, source, .inl ⟨kind, hp⟩⟩
      · exact ⟨p, source, .inr ⟨kind, hp⟩⟩
    · rintro ⟨p, source, ⟨kind, hp⟩ | ⟨kind, hp⟩⟩
      · exact .inl ⟨kind, p, hp, source⟩
      · exact .inr ⟨kind, p, source, hp⟩
  unfold ConditionsEnd
  refine ⟨?_, ?_, fun r hr => ?_⟩
  · obtain ⟨rs, full, others⟩ := h.others
    have full' := h.full sound
    conv_lhs => rw [others]
    rw [← full', others]
  · rw [records, List.forall₂_map_right_iff]
    refine List.forall₂_same.2 fun r _ => ?_
    unfold AlarmRec.faded
    dsimp only
    rw [← gone_iff]
    split
    · next gone =>
      refine ⟨fun _ => rfl, fun stays => ?_⟩
      have : r.condition = false := by
        by_contra present
        exact stays ⟨by simpa using present, gone⟩
      rw [← this]
    · next stays => exact ⟨fun ends => absurd ends.2 stays, fun _ => rfl⟩
  · dsimp only
    rw [← gone_iff, h.sourceZone]
    exact h.notices sound r hr

namespace Occurs

variable {s t : State} {changed found : Zone → Prop} {cause : Zone → OccCause} {named : Zone → List Person} {missed : Person → Prop}
  {bodies : List NoticeBody}

/-- What stands before an event. -/
theorem before (h : Occurs s t changed found cause named missed bodies) {v : State} {first : List NoticeBody} (gains : QueuesGain v s first)
    (apart : ∀ b ∈ first, b.Apart) (time : s.time = v.time) (zones : s.zones = v.zones) (alarms : s.alarms = v.alarms)
    (warning : s.occupancy.warning = v.occupancy.warning) (lone : s.occupancy.lone = v.occupancy.lone) :
    Occurs v t changed found cause named missed (first ++ bodies) where
  gains := gains.trans h.gains time
  time := h.time.trans time
  changes z := by
    have := h.changes z
    dsimp only at this ⊢
    have filtered : (first ++ bodies).filter (·.isOf z) = bodies.filter (·.isOf z) := by
      rw [List.filter_append, NoticeBody.filter_isOf_apart apart, List.nil_append]
    rw [zones] at this
    obtain ⟨absent, present, still⟩ := this
    rw [filtered]
    exact ⟨absent, fun r hc hr => (present r hc hr).congr rfl (fun x hx holds => by rw [hx, ← holds]) filtered, still⟩
  warnings z := by
    have := h.warnings z
    rwa [warning] at this
  lone z := by
    have := h.lone z
    dsimp only at this ⊢
    rwa [lone] at this
  conditions sound := by
    have sound' : AlarmListSound s := by
      rw [alarmListSound_iff] at sound ⊢
      rwa [alarms]
    refine (h.conditions sound').congr alarms.symm lone.symm rfl rfl rfl fun b hb => ?_
    rw [List.mem_append]
    exact or_iff_right fun hf => absurd (hb.symm.trans (apart b hf).1) (by decide)

/-- What follows an event. -/
theorem after (h : Occurs s t changed found cause named missed bodies) {u : State} {last : List NoticeBody} (gains : QueuesGain t u last)
    (apart : ∀ b ∈ last, b.Apart) (same : LoneSame t u) (alarms : u.alarms = t.alarms)
    (uncertain : u.occupancy.uncertain = t.occupancy.uncertain) (warning : u.occupancy.warning = t.occupancy.warning)
    (lone : u.occupancy.lone = t.occupancy.lone)
    (zones : ∀ z : Zone, (u.zones[z] = t.zones[z] ∧ u.occupancy.reserved[z] = t.occupancy.reserved[z]) ∨
      u.zones[z] = (t.zones[z]).map fun r => { r with summary := u.summaryOf z }) :
    Occurs s u changed found cause named missed (bodies ++ last) where
  gains := h.gains.trans gains h.time
  time := same.time.trans h.time
  changes z := by
    have := h.changes z
    dsimp only at this ⊢
    obtain ⟨absent, present, still⟩ := this
    have filtered : (bodies ++ last).filter (·.isOf z) = bodies.filter (·.isOf z) := by
      rw [List.filter_append, NoticeBody.filter_isOf_apart apart, List.append_nil]
    have summary : u.summaryOf z = { t.summaryOf z with reserved := (u.summaryOf z).reserved } :=
      State.summaryOf_reserved same.entries (by rw [uncertain]) (same.cfg z)
    have told : u.occupancyTold z (cause z) (named z) = t.occupancyTold z (cause z) (named z) := State.occupancyTold_congr summary
    have kept (stands : u.zones[z] = t.zones[z] ∧ u.occupancy.reserved[z] = t.occupancy.reserved[z]) : u.summaryOf z = t.summaryOf z := by
      have : (u.summaryOf z).reserved = (t.summaryOf z).reserved := stands.2
      rw [summary, this]
    rw [filtered, told]
    refine ⟨absent, fun r hc hr => (present r hc hr).congr summary (fun x hx holds => ?_) filtered, fun hz => ⟨(still hz).1, ?_⟩⟩
    · rcases zones z with stands | taken
      · rw [stands.1, hx, kept stands, ← holds]
      · rw [taken, hx]
        rfl
    · rcases zones z with stands | taken
      · rw [stands.1, kept stands]
        exact (still hz).2
      · right
        rcases (still hz).2 with e | e
        · rw [taken, e]
        · rw [taken, e, Option.map_map]
          rfl
  warnings := h.warnings.congr same warning rfl
  lone := h.lone.congr same lone rfl
  conditions sound := by
    refine (h.conditions sound).congr rfl rfl alarms lone same.entries fun b hb => ?_
    rw [List.mem_append]
    exact or_iff_left fun hl => absurd (hb.symm.trans (apart b hl).1) (by decide)

theorem of_missed {missed' : Person → Prop} (h : Occurs s t changed found cause named missed bodies) (same : ∀ p, missed p ↔ missed' p) :
    Occurs s t changed found cause named missed' bodies := { h with conditions := fun sound => (h.conditions sound).of_missed same }

end Occurs

/-- What the end of an event leaves of the state and of the doors. -/
structure Concludes (s t : State) (cs : List OccChange) : Prop where
  frame : ∃ doors reserved warning lone zones bus link alarms ports,
    t = { s with
      doors := doors, occupancy := { s.occupancy with reserved := reserved, warning := warning, lone := lone }, zones := zones, bus := bus,
      link := link, alarms := alarms, ports := ports }
  cfg : ∀ z : Zone, (t.zones[z]).map (·.cfg) = (s.zones[z]).map (·.cfg)
  doors : ∀ d y, s.doors[(d : Door)] = some y → ∃ x, t.doors[d] = some x ∧ y.Follows x ∧
    ((t.zones[y.cfg.inside]).map (·.state) = (s.zones[y.cfg.inside]).map (·.state) → x = y)
  unbarred : (∀ c ∈ cs, s.bars c.zone = false) → t.doors = s.doors ∧ t.bus = s.bus ∧ t.occupancy.reserved = s.occupancy.reserved

theorem Concludes.same {s t : State} {cs : List OccChange} (h : Concludes s t cs) : LoneSame s t := by
  obtain ⟨_, _, _, _, _, _, _, _, _, frame⟩ := h.frame
  exact ⟨by rw [frame], by rw [frame], by rw [frame], by rw [frame], h.cfg⟩

/-- R79, R88, R89, R91: all that the end of an event does. -/
theorem OccEvent.conclude_concludes (ev : OccEvent) (distinct : (ev.changes.map (·.zone)).Nodup) {changed : Zone → Prop}
    {cause : Zone → OccCause} {named : Zone → List Person} (zones : ∀ z, changed z ↔ ∃ c ∈ ev.changes, c.zone = z)
    (as : ∀ c ∈ ev.changes, cause c.zone = c.cause ∧ named c.zone = c.persons) :
    Concludes ev.state ev.conclude ev.changes ∧
      ∃ bodies, Occurs ev.state ev.conclude changed changed cause named (· ∈ ev.removed) bodies := by
  obtain ⟨s, cs, removed⟩ := ev
  dsimp only at distinct zones as ⊢
  obtain ⟨gone, missedEnd, alarms, ports, hu⟩ := s.forEach_missedGone removed
  obtain ⟨u, eu⟩ : ∃ u, u = s.forEach removed fun p t => t.conditionGone .missedCheckin (.person p) := ⟨_, rfl⟩
  rw [← eu] at missedEnd hu
  obtain ⟨retold, retested⟩ := (Retested.refl u).forEach cs distinct fun _ _ => id
  obtain ⟨v, ev⟩ : ∃ v, v = u.forEach cs fun c t => (t.refreshWarning c.zone).retestLone c.zone := ⟨_, rfl⟩
  rw [← ev] at retested
  obtain ⟨tell, told⟩ := v.forEach_announce cs distinct
  obtain ⟨t, et⟩ : ∃ t, t = v.forEach cs fun c t => t.announce c := ⟨_, rfl⟩
  rw [← et] at told
  have run : ({ state := s, changes := cs, removed := removed } : OccEvent).conclude = t := by rw [et, ev, eu]; rfl
  rw [run]
  have found : (fun z => False ∨ ∃ c ∈ cs, c.zone = z) = changed := funext fun z => by rw [false_or, zones]
  rw [found] at retested
  obtain ⟨warning, lone, link, alarms', ports', hv⟩ := retested.frame
  obtain ⟨doors, reserved, zonesAfter, bus, link', ports'', ht⟩ := told.frame
  have before : v.zones = s.zones := by rw [hv, hu]
  have barsSame (z : Zone) : v.bars z = s.bars z := by rw [State.bars, before]; rfl
  have doorsSame : v.doors = s.doors := by rw [hv, hu]
  have concludes : Concludes s t cs := by
    refine ⟨⟨doors, reserved, warning, lone, zonesAfter, bus, link', alarms', ports'', ?_⟩, fun z => ?_, fun d y hy => ?_, fun free => ?_⟩
    · rw [ht, hv, hu]
    · rw [← before]
      exact told.cfg z
    · rw [← doorsSame] at hy
      rw [← before]
      exact told.doors d y hy
    · obtain ⟨doors, bus, reserved⟩ := told.unbarred fun c hc => (barsSame c.zone).trans (free c hc)
      exact ⟨doors.trans doorsSame, by rw [bus, hv, hu], by rw [reserved, hv, hu]⟩
  have same : LoneSame v t := ⟨by rw [ht], by rw [ht], by rw [ht], by rw [ht], told.cfg⟩
  have fades := missedEnd.trans retested.fades
  refine ⟨concludes, (gone ++ retold) ++ tell, ⟨fades.gains.trans told.gains fades.time, concludes.same.time, fun z => ?_, ?_, ?_, fun sound => ?_⟩⟩
  · have filtered : ((gone ++ retold) ++ tell).filter (·.isOf z) = tell.filter (·.isOf z) := by
      rw [List.filter_append, NoticeBody.filter_isOf_nil fun b hb => NoticeBody.isOf_of_ofAlarm (fades.ofAlarms b hb) z, List.nil_append]
    dsimp only
    rw [filtered, ← before]
    have same : t.occupancyTold z (cause z) (named z) = v.occupancyTold z (cause z) (named z) :=
      State.occupancyTold_congr (told.summary z)
    rw [same]
    refine ⟨fun hz absent => ?_, fun r hz hr => ?_, fun hz => ?_⟩
    · obtain ⟨c, hc, rfl⟩ := (zones z).1 hz
      rw [(as c hc).1, (as c hc).2]
      exact (told.told c hc).1 absent
    · obtain ⟨c, hc, rfl⟩ := (zones z).1 hz
      rw [(as c hc).1, (as c hc).2]
      exact ((told.told c hc).2 r hr).congr rfl (fun x hx holds => by rw [hx, ← holds]) filtered
    · obtain ⟨-, stands, quiet⟩ := told.others z fun c hc e => hz ((zones z).2 ⟨c, hc, e⟩)
      exact ⟨quiet, .inl stands⟩
  · exact retested.warnings.congr same (by rw [ht]) (by rw [hu])
  · exact retested.lone.congr same (by rw [ht]) (by rw [hu])
  · have timers : u.occupancy.lone = s.occupancy.lone := by rw [hu]
    rw [timers] at fades
    have ends : ConditionsEnd s v (· ∈ removed) (gone ++ retold) := fades.conditionsEnd sound
    refine ends.congr rfl rfl (by rw [ht]) (by rw [ht]) (by rw [ht]) fun b hb => ?_
    rw [List.mem_append]
    exact or_iff_left fun h => absurd (hb.symm.trans (told.alarms b h)) (by decide)

/-! ### The changes of an event -/

/-- The changes of an event are those of the zones `changed`, one each, and of no persons elsewhere. -/
structure OccEvent.Tells (ev : OccEvent) (changed : Zone → Prop) (cause : Zone → OccCause) (named : Zone → List Person) : Prop where
  distinct : (ev.changes.map (·.zone)).Nodup
  zones : ∀ z, changed z ↔ ∃ c ∈ ev.changes, c.zone = z
  as : ∀ c ∈ ev.changes, cause c.zone = c.cause ∧ named c.zone = c.persons
  empty : ∀ z, ¬changed z → named z = []

/-- R91: a zone that counts as changed already is named with the persons not named before. -/
theorem mergeChange_old {cs : List OccChange} {z : Zone} (h : ∃ c ∈ cs, c.zone = z) (k : OccCause) (ps : List Person) :
    mergeChange cs z k ps =
      cs.map fun c => if c.zone = z then { c with persons := c.persons ++ ps.filter (· ∉ c.persons) } else c :=
  if_pos (List.any_eq_true.2 (h.imp fun c hc => ⟨hc.1, decide_eq_true hc.2⟩))

theorem mergeChange_new {cs : List OccChange} {z : Zone} (h : ¬∃ c ∈ cs, c.zone = z) (k : OccCause) (ps : List Person) :
    mergeChange cs z k ps = cs ++ [⟨z, k, ps⟩] :=
  if_neg fun any => h ((List.any_eq_true.1 any).imp fun _ hc => ⟨hc.1, of_decide_eq_true hc.2⟩)

namespace OccEvent.Tells

variable {ev ev' : OccEvent} {changed : Zone → Prop} {cause : Zone → OccCause} {named : Zone → List Person}

theorem none (s : State) (cause : Zone → OccCause) : s.occEvent.Tells (fun _ => False) cause fun _ => [] where
  distinct := List.nodup_nil
  zones _ := ⟨False.elim, fun ⟨_, h, _⟩ => absurd h List.not_mem_nil⟩
  as _ h := absurd h List.not_mem_nil
  empty _ _ := rfl

theorem of_eq (h : ev.Tells changed cause named) {changed' : Zone → Prop} {named' : Zone → List Person} (zones : ∀ z, changed' z ↔ changed z)
    (persons : ∀ z, named' z = named z) : ev.Tells changed' cause named' := by
  obtain rfl : changed' = changed := funext fun z => propext (zones z)
  obtain rfl : named' = named := funext persons
  exact h

/-- A zone counts as changed, with persons who are named behind those named already. -/
theorem merge (h : ev.Tells changed cause named) {z : Zone} {k : OccCause} {ps : List Person} (hk : ¬changed z → cause z = k)
    (same : ev'.changes = mergeChange ev.changes z k ps) :
    ev'.Tells (fun y => changed y ∨ y = z) cause fun y => if y = z then named z ++ ps.filter (· ∉ named z) else named y := by
  by_cases old : changed z
  · obtain ⟨c, hc, at_⟩ := (h.zones z).1 old
    rw [mergeChange_old ⟨c, hc, at_⟩] at same
    have kept : ev'.changes.map (·.zone) = ev.changes.map (·.zone) := by
      rw [same, List.map_map]
      refine List.map_congr_left fun c _ => ?_
      dsimp only [Function.comp_apply]
      split <;> rfl
    refine ⟨kept ▸ h.distinct, fun y => ?_, fun c hc => ?_, fun y hy => ?_⟩
    · have mem (l : List OccChange) : (∃ c ∈ l, c.zone = y) ↔ y ∈ l.map (·.zone) := List.mem_map.symm
      rw [mem, kept, ← mem, ← h.zones]
      exact or_iff_left_of_imp fun e => e ▸ old
    · rw [same] at hc
      obtain ⟨x, hx, rfl⟩ := List.mem_map.1 hc
      obtain ⟨as, persons⟩ := h.as x hx
      by_cases e : x.zone = z
      · rw [if_pos e]
        dsimp only
        rw [if_pos e, as, ← persons, e]
        exact ⟨rfl, rfl⟩
      · rw [if_neg e, if_neg e]
        exact ⟨as, persons⟩
    · obtain ⟨still, other⟩ := not_or.1 hy
      rw [if_neg other]
      exact h.empty y still
  · rw [mergeChange_new fun any => old ((h.zones z).2 any)] at same
    have nobody := h.empty z old
    have fresh : named z ++ ps.filter (· ∉ named z) = ps := by
      rw [nobody, List.nil_append]
      exact List.filter_eq_self.2 fun _ _ => by simp
    refine ⟨?_, fun y => ?_, fun c hc => ?_, fun y hy => ?_⟩
    · rw [same, List.map_append, List.map_singleton, List.nodup_append]
      refine ⟨h.distinct, List.nodup_singleton z, fun a ha b hb e => ?_⟩
      obtain ⟨c, hc, rfl⟩ := List.mem_map.1 ha
      exact old ((h.zones z).2 ⟨c, hc, e.trans (List.mem_singleton.1 hb)⟩)
    · rw [same, h.zones]
      simp only [List.mem_append, List.mem_singleton, or_and_right, exists_or, exists_eq_left, eq_comm]
    · rw [same] at hc
      rcases List.mem_append.1 hc with hc | hc
      · rw [if_neg fun e => old ((h.zones z).2 ⟨c, hc, e⟩)]
        exact h.as c hc
      · obtain rfl := List.mem_singleton.1 hc
        rw [if_pos rfl, fresh]
        exact ⟨hk old, rfl⟩
    · obtain ⟨still, other⟩ := not_or.1 hy
      rw [if_neg other]
      exact h.empty y still

theorem remove (h : ev.Tells changed cause named) (e : Entry) {k : OccCause} (hk : ¬changed e.zone → cause e.zone = k) :
    (ev.remove e k).Tells (fun y => changed y ∨ y = e.zone) cause fun y =>
      if y = e.zone then named e.zone ++ [e.person].filter (· ∉ named e.zone) else named y := h.merge hk rfl

theorem make (h : ev.Tells changed cause named) (e : Entry) {k : OccCause} (hk : ¬changed e.zone → cause e.zone = k) :
    (ev.make e k).Tells (fun y => changed y ∨ y = e.zone) cause fun y =>
      if y = e.zone then named e.zone ++ [e.person].filter (· ∉ named e.zone) else named y := h.merge hk rfl

/-- R79: the entries of some persons leave the table, one after another. -/
theorem removeAll (h : ev.Tells changed cause named) (l : List Entry) (distinct : (l.map (·.person)).Nodup) {k : OccCause}
    (hk : ∀ e ∈ l, ¬changed e.zone → cause e.zone = k) :
    (l.foldl (fun ev e => ev.remove e k) ev).Tells (fun y => changed y ∨ ∃ e ∈ l, e.zone = y) cause fun y =>
      named y ++ ((l.filter (·.zone = y)).map (·.person)).filter (· ∉ named y) := by
  induction l generalizing ev changed named with
  | nil => exact h.of_eq (by simp) (by simp)
  | cons e l ih =>
    rw [List.map_cons, List.nodup_cons] at distinct
    obtain ⟨apart, distinct⟩ := distinct
    have first := h.remove e (hk e List.mem_cons_self)
    refine (ih first distinct fun x hx new => hk x (List.mem_cons_of_mem _ hx) fun old => new (.inl old)).of_eq (fun y => ?_) fun y => ?_
    · simp only [List.mem_cons, exists_eq_or_imp, or_assoc, eq_comm (a := y)]
    · by_cases inside : e.zone = y
      · subst inside
        rw [if_pos rfl, List.filter_cons_of_pos (by simp), List.map_cons, List.append_assoc]
        have others : ((l.filter (·.zone = e.zone)).map (·.person)).filter
              (· ∉ named e.zone ++ [e.person].filter (· ∉ named e.zone)) =
            ((l.filter (·.zone = e.zone)).map (·.person)).filter (· ∉ named e.zone) := by
          refine List.filter_congr fun p hp => ?_
          have : p ≠ e.person := by
            rintro rfl
            obtain ⟨x, hx, same⟩ := List.mem_map.1 hp
            exact apart (same ▸ List.mem_map_of_mem (List.mem_of_mem_filter hx))
          simp only [List.mem_append, List.mem_filter, List.mem_singleton, this, false_and, or_false]
        rw [others, ← List.filter_append]
        rfl
      · rw [if_neg fun h => inside h.symm, List.filter_cons_of_neg (by simpa using inside)]

/-- R83: a configured zone that was certain becomes uncertain. -/
theorem uncertain (h : ev.Tells changed cause named) (z : Zone) {k : OccCause} (hk : ¬changed z → cause z = k) :
    (ev.uncertain z k).Tells
      (fun y => changed y ∨ (y = z ∧ (ev.state.zones[z]).isSome = true ∧ ev.state.occupancy.uncertain[z] = false)) cause named := by
  unfold OccEvent.uncertain
  split
  · next no =>
    refine h.of_eq (fun y => or_iff_left ?_) fun _ => rfl
    rintro ⟨-, configured, certain⟩
    rw [Bool.or_eq_true, certain] at no
    simp_all
  · next yes =>
    have yes' : (ev.state.zones[z]).isSome = true ∧ ev.state.occupancy.uncertain[z] = false := by
      simp only [Bool.or_eq_true, not_or, Bool.not_eq_true, Option.isNone_eq_false_iff] at yes
      exact yes
    refine (h.merge (ps := []) hk rfl).of_eq (fun y => ?_) fun y => ?_
    · simp only [yes', and_true]
    · rw [List.filter_nil, List.append_nil]
      split
      · next e => rw [e]
      · rfl

/-- What an event whose changes are made comes to at its end. -/
theorem concludes (h : ev.Tells changed cause named) {changed' : Zone → Prop} {cause' : Zone → OccCause} {named' : Zone → List Person}
    (zones : ∀ z, changed' z ↔ changed z) (as : ∀ z, changed z → cause' z = cause z ∧ named' z = named z) :
    Concludes ev.state ev.conclude ev.changes ∧
      ∃ bodies, Occurs ev.state ev.conclude changed' changed' cause' named' (· ∈ ev.removed) bodies :=
  ev.conclude_concludes h.distinct (fun z => (zones z).trans (h.zones z)) fun c hc => by
    obtain ⟨cause, persons⟩ := as c.zone ((h.zones c.zone).2 ⟨c, hc, rfl⟩)
    rw [cause, persons]
    exact h.as c hc

end OccEvent.Tells

/-- An event changes the entries and the uncertain flags of the table. -/
def OccEvent.Edits (ev : OccEvent) (s : State) : Prop :=
  ∃ entries uncertain, ev.state = { s with occupancy := { s.occupancy with entries := entries, uncertain := uncertain } }

namespace OccEvent.Edits

variable {ev : OccEvent} {s : State}

theorem none (s : State) : s.occEvent.Edits s := ⟨_, _, rfl⟩

theorem of_state (h : ev.Edits s) {ev' : OccEvent} (same : ev'.state = ev.state) : ev'.Edits s := by
  obtain ⟨entries, uncertain, e⟩ := h
  exact ⟨entries, uncertain, same.trans e⟩

theorem remove (h : ev.Edits s) (e : Entry) (k : OccCause) : (ev.remove e k).Edits s := by
  obtain ⟨entries, uncertain, same⟩ := h
  exact ⟨entries.filter (·.person != e.person), uncertain, by simp only [OccEvent.remove, State.updOccupancy, same]⟩

theorem make (h : ev.Edits s) (e : Entry) (k : OccCause) : (ev.make e k).Edits s := by
  obtain ⟨entries, uncertain, same⟩ := h
  exact ⟨entries ++ [e], uncertain, by simp only [OccEvent.make, State.updOccupancy, same]⟩

theorem uncertain (h : ev.Edits s) (z : Zone) (k : OccCause) : (ev.uncertain z k).Edits s := by
  unfold OccEvent.uncertain
  split
  · exact h
  · obtain ⟨entries, flags, same⟩ := h
    exact ⟨entries, flags.put z true, by simp only [State.updOccupancy, same]⟩

theorem foldl {α : Type} (h : ev.Edits s) (l : List α) (f : OccEvent → α → OccEvent) (step : ∀ ev a, ev.Edits s → (f ev a).Edits s) :
    (l.foldl f ev).Edits s := by
  induction l generalizing ev with
  | nil => exact h
  | cons a l ih => exact ih (step ev a h)

end OccEvent.Edits

/-- What stands of the state at the end of an event. -/
theorem OccEvent.Edits.concluded {ev : OccEvent} {s u : State} {cs : List OccChange} (h : ev.Edits s) (c : Concludes ev.state u cs) :
    u = { s with
        doors := u.doors, occupancy := u.occupancy, zones := u.zones, bus := u.bus, link := u.link, alarms := u.alarms,
        ports := u.ports } ∧
      u.occupancy.entries = ev.state.occupancy.entries ∧ u.occupancy.uncertain = ev.state.occupancy.uncertain := by
  obtain ⟨entries, uncertain, same⟩ := h
  obtain ⟨_, _, _, _, _, _, _, _, _, rfl⟩ := c.frame
  refine ⟨?_, rfl, rfl⟩
  rw [same]

/-- An event occurs from the state whose table it changes. -/
theorem OccEvent.Edits.occurs {ev : OccEvent} {s u : State} {changed found : Zone → Prop} {cause : Zone → OccCause} {named : Zone → List Person}
    {missed : Person → Prop} {bodies : List NoticeBody} (h : ev.Edits s) (c : Occurs ev.state u changed found cause named missed bodies) :
    Occurs s u changed found cause named missed bodies := by
  obtain ⟨entries, uncertain, same⟩ := h
  have ports : ev.state.ports = s.ports := by rw [same]
  exact c.before (.of_ports ports) (fun _ h => absurd h List.not_mem_nil) (by rw [same]) (by rw [same]) (by rw [same]) (by rw [same])
    (by rw [same])

/-- R182: an event of the Occupancy Unit that a request has brought about is answered. -/
theorem Occurs.answers {s u : State} {p : Port} {changed found : Zone → Prop} {cause : Zone → OccCause} {named : Zone → List Person}
    {missed : Person → Prop} {bodies : List NoticeBody} (h : Occurs (s.hunting p) u changed found cause named missed bodies) (f : Frame) :
    let t := (Reply.mk u .ok []).answerTo p f
    PortsAnswer s t p f .ok [] bodies ∧ WarningsFollow s t found ∧ LoneFollows s t changed ∧
      (AlarmListSound s → ConditionsEnd s t missed bodies) ∧ OccupancyChanges s t bodies changed cause named :=
  ⟨Reply.answerTo_ports h.gains, h.warnings, h.lone, h.conditions, h.changes⟩

end Sys2Proof.Machine

namespace Sys2Proof.Machine

/-! ## Sweeps and forced exits -/

section
variable {o : Occupancy} (distinct : o.entries.Pairwise fun x y => x.person ≠ y.person)
include distinct

/-- R79: where a person has at most one entry, it is the one found. -/
theorem Occupancy.entryOf_iff (p : Person) (e : Entry) : o.entryOf p = some e ↔ e ∈ o.entries ∧ e.person = p := by
  refine ⟨fun h => ⟨Occupancy.entryOf_mem h, Occupancy.entryOf_person h⟩, fun ⟨mem, person⟩ => ?_⟩
  cases found : o.entryOf p with
  | none => exact absurd person (Occupancy.entryOf_eq_none.1 found e mem)
  | some x =>
    have persons : (o.entries.map (·.person)).Nodup := List.pairwise_map.2 distinct
    exact congrArg some (List.inj_on_of_nodup_map persons (Occupancy.entryOf_mem found) mem
      ((Occupancy.entryOf_person found).trans person.symm))

/-- R79: an entry lies in a zone where its person does. -/
theorem Occupancy.person_mem_iff (z : Zone) {e : Entry} (he : e ∈ o.entries) : e.person ∈ (o.entriesIn z).map (·.person) ↔ e.zone = z := by
  refine ⟨fun h => ?_, fun h => List.mem_map_of_mem (List.mem_filter.2 ⟨he, by simpa using h⟩)⟩
  obtain ⟨x, hx, person⟩ := List.mem_map.1 h
  obtain ⟨mem, zone⟩ := List.mem_filter.1 hx
  have persons : (o.entries.map (·.person)).Nodup := List.pairwise_map.2 distinct
  rw [← List.inj_on_of_nodup_map persons mem he person]
  simpa using zone

theorem Occupancy.entriesIn_nodup (z : Zone) : ((o.entriesIn z).map (·.person)).Nodup :=
  List.pairwise_map.2 (distinct.sublist List.filter_sublist)

end

/-- The persons found in a zone, of some who are looked up one after another. -/
theorem filterMap_persons {f : Person → Option Entry} (hf : ∀ p e, f p = some e → e.person = p) (ps : List Person) (z : Zone)
    [DecidablePred fun p => ∃ e, f p = some e ∧ e.zone = z] :
    ((ps.filterMap f).filter (·.zone = z)).map (·.person) = ps.filter fun p => ∃ e, f p = some e ∧ e.zone = z := by
  induction ps with
  | nil => rfl
  | cons p ps ih =>
    cases found : f p with
    | none =>
      rw [List.filterMap_cons_none found, ih, List.filter_cons_of_neg (by simp [found])]
    | some e =>
      rw [List.filterMap_cons_some found]
      by_cases inside : e.zone = z
      · rw [List.filter_cons_of_pos (by simpa using inside), List.map_cons, ih, hf p e found,
          List.filter_cons_of_pos (by simpa [found] using inside)]
      · rw [List.filter_cons_of_neg (by simpa using inside), ih, List.filter_cons_of_neg (by simpa [found] using inside)]

/-- R79: the persons whose entries an event has removed. -/
theorem OccEvent.removeAll_removed (l : List Entry) (k : OccCause) (ev : OccEvent) :
    (l.foldl (fun ev e => ev.remove e k) ev).removed = ev.removed ++ l.map (·.person) := by
  induction l generalizing ev with
  | nil => simp
  | cons e l ih =>
    rw [List.foldl_cons, ih, List.map_cons]
    exact List.append_assoc _ [e.person] _

/-- R84: fresh entries of persons named already leave the changes as they are. -/
theorem OccEvent.Tells.makeAll {ev : OccEvent} {changed : Zone → Prop} {cause : Zone → OccCause} {named : Zone → List Person}
    (h : ev.Tells changed cause named) {z : Zone} (hz : changed z) (k : OccCause) (make : OccEvent → Person → Entry)
    (at_ : ∀ ev p, (make ev p).zone = z ∧ (make ev p).person = p) (ps : List Person) (hp : ∀ p ∈ ps, p ∈ named z) :
    (ps.foldl (fun ev p => ev.make (make ev p) k) ev).Tells changed cause named := by
  induction ps generalizing ev with
  | nil => exact h
  | cons p ps ih =>
    obtain ⟨zone, person⟩ := at_ ev p
    refine ih ((h.make (make ev p) fun new => absurd (zone ▸ hz) new).of_eq (fun y => ?_) fun y => ?_) fun q hq => hp q (List.mem_cons_of_mem _ hq)
    · exact (or_iff_left_of_imp fun e => by rw [e, zone]; exact hz).symm
    · have known : [p].filter (· ∉ named z) = [] := List.filter_cons_of_neg (by simpa using hp p List.mem_cons_self)
      rw [zone, person, known, List.append_nil]
      split
      · next e => rw [e]
      · rfl

theorem OccEvent.makeAll_removed (k : OccCause) (make : OccEvent → Person → Entry) (ps : List Person) (ev : OccEvent) :
    (ps.foldl (fun ev p => ev.make (make ev p) k) ev).removed = ev.removed := by
  induction ps generalizing ev with
  | nil => rfl
  | cons p ps ih => exact ih _

/-- R84: an event once the entries of the swept zone have left. -/
def State.sweptEvent (s : State) (z : Zone) (persons : List Person) : OccEvent :=
  (s.occupancy.entriesIn z).foldl (fun ev e => ev.remove e .sweep) (s.occEvent.touch z .sweep persons)

/-- R84: the entries of the listed persons in other zones. -/
def State.sweptMoved (s : State) (z : Zone) (persons : List Person) : List Entry :=
  persons.filterMap fun p => (s.sweptEvent z persons).state.occupancy.entryOf p

theorem State.sweepEvent_eq (s : State) (z : Zone) (persons : List Person) :
    s.sweepEvent z persons =
      let moved := (s.sweptMoved z persons).foldl (fun ev e => ev.remove e .moved) (s.sweptEvent z persons)
      let made := persons.foldl (fun ev p => ev.make (ev.state.sweepEntry s.occupancy z p) .sweep) moved
      { made with state := made.state.updOccupancy fun o => { o with uncertain := o.uncertain.put z false } } := rfl

/-- R84: the zones a sweep changes: the swept one, and those where a listed person has an entry. -/
def sweepCause (z y : Zone) : OccCause := if y = z then .sweep else .moved

section
variable {s : State} (distinct : s.occupancy.entries.Pairwise fun x y => x.person ≠ y.person) (z : Zone) (persons : List Person)
include distinct

theorem State.sweptEvent_entryOf (p : Person) (e : Entry) :
    (s.sweptEvent z persons).state.occupancy.entryOf p = some e ↔ s.occupancy.entryOf p = some e ∧ e.zone ≠ z := by
  have entries : (s.sweptEvent z persons).state.occupancy.entries = s.occupancy.entries.filter fun x => x.zone ≠ z := by
    refine (OccEvent.removeAll_entries _ _ _).trans (List.filter_congr fun x hx => ?_)
    rw [decide_eq_decide, not_iff_not]
    exact Occupancy.person_mem_iff distinct z hx
  rw [Occupancy.entryOf_iff (by rw [entries]; exact distinct.sublist List.filter_sublist), Occupancy.entryOf_iff distinct, entries]
  simp only [List.mem_filter, decide_eq_true_eq]
  tauto

theorem State.mem_sweptMoved (e : Entry) :
    e ∈ s.sweptMoved z persons ↔ ∃ p ∈ persons, s.occupancy.entryOf p = some e ∧ e.zone ≠ z := by
  simp only [State.sweptMoved, List.mem_filterMap, State.sweptEvent_entryOf distinct]

/-- R84, R91: whom a sweep names, and where. -/
theorem State.sweepEvent_tells (unique : persons.Nodup) (listed : Zone → List Person)
    (hl : ∀ y, listed y = persons.filter fun p => ∃ e, s.occupancy.entryOf p = some e ∧ e.zone = y) :
    (s.sweepEvent z persons).Tells (fun y => y = z ∨ listed y ≠ []) (sweepCause z) fun y =>
      if y = z then persons ++ ((s.occupancy.entriesIn z).map fun e => e.person).filter (· ∉ persons) else listed y := by
  have touched : (s.occEvent.touch z .sweep persons).Tells (· = z) (sweepCause z) fun y => if y = z then persons else [] :=
    ((OccEvent.Tells.none s (sweepCause z)).merge (z := z) (ps := persons) (k := .sweep) (fun _ => if_pos rfl) rfl).of_eq
      (fun y => by rw [false_or]) fun y => by
        rw [List.nil_append, List.filter_eq_self.2 fun _ _ => by simp]
  have inside (e : Entry) (he : e ∈ s.occupancy.entriesIn z) : e.zone = z := by simpa using (List.mem_filter.1 he).2
  have all : (s.occupancy.entriesIn z).filter (·.zone = z) = s.occupancy.entriesIn z :=
    List.filter_eq_self.2 fun e he => decide_eq_true (inside e he)
  have swept : (s.sweptEvent z persons).Tells (· = z) (sweepCause z) fun y =>
      if y = z then persons ++ ((s.occupancy.entriesIn z).map fun e => e.person).filter (· ∉ persons) else [] := by
    refine (touched.removeAll (s.occupancy.entriesIn z) (Occupancy.entriesIn_nodup distinct z)
      fun e he new => absurd (inside e he) new).of_eq (fun y => ?_) fun y => ?_
    · exact (or_iff_left_of_imp fun ⟨e, he, here⟩ => here ▸ inside e he).symm
    · by_cases e : y = z
      · rw [if_pos e, if_pos e, e, all]
      · have nobody : (s.occupancy.entriesIn z).filter (·.zone = y) = [] :=
          List.filter_eq_nil_iff.2 fun x hx => by simpa using fun here : x.zone = y => e (here.symm.trans (inside x hx))
        rw [if_neg e, if_neg e, nobody]
        rfl
  have persons_ : ((s.sweptMoved z persons).map (·.person)).Nodup := by
    rw [State.sweptMoved, List.map_filterMap]
    refine unique.filterMap fun p q x hp hq => ?_
    obtain ⟨e, he, rfl⟩ := Option.mem_map.1 hp
    obtain ⟨e', he', same⟩ := Option.mem_map.1 hq
    rw [← Occupancy.entryOf_person he, ← Occupancy.entryOf_person he', same]
  have away (e : Entry) (he : e ∈ s.sweptMoved z persons) : e.zone ≠ z := by
    obtain ⟨_, _, _, other⟩ := (State.mem_sweptMoved distinct z persons e).1 he
    exact other
  have moved := swept.removeAll (k := .moved) (s.sweptMoved z persons) persons_ fun e _ new => if_neg new
  have made := (moved.of_eq (changed' := fun y => y = z ∨ listed y ≠ [])
    (named' := fun y => if y = z then persons ++ ((s.occupancy.entriesIn z).map fun e => e.person).filter (· ∉ persons) else listed y)
    (fun y => ?_) fun y => ?_).makeAll (.inl rfl) .sweep (fun ev p => ev.state.sweepEntry s.occupancy z p) (fun _ _ => ⟨rfl, rfl⟩) persons
    fun p hp => by rw [if_pos rfl]; exact List.mem_append_left _ hp
  · rw [State.sweepEvent_eq]
    exact ⟨made.distinct, made.zones, made.as, made.empty⟩
  · by_cases e : y = z
    · exact iff_of_true (.inl e) (.inl e)
    · rw [or_iff_right e, or_iff_right e, hl, ne_eq, List.filter_eq_nil_iff]
      simp only [State.mem_sweptMoved distinct, decide_eq_true_eq, not_forall, not_not]
      constructor
      · rintro ⟨p, hp, x, found, here⟩
        exact ⟨x, ⟨p, hp, found, here ▸ e⟩, here⟩
      · rintro ⟨x, ⟨p, hp, found, -⟩, here⟩
        exact ⟨p, hp, x, found, here⟩
  · by_cases e : y = z
    · have nobody : (s.sweptMoved z persons).filter (·.zone = y) = [] :=
        List.filter_eq_nil_iff.2 fun x hx => by simpa [e] using away x hx
      rw [if_pos e, if_pos e, nobody]
      simp
    · have found : ((s.sweptMoved z persons).filter (·.zone = y)).map (·.person) = listed y := by
        rw [State.sweptMoved, filterMap_persons (fun p e he => Occupancy.entryOf_person he), hl]
        refine List.filter_congr fun p _ => ?_
        simp only [State.sweptEvent_entryOf distinct, decide_eq_decide]
        exact exists_congr fun x => ⟨fun ⟨⟨h, _⟩, here⟩ => ⟨h, here⟩, fun ⟨h, here⟩ => ⟨⟨h, here ▸ e⟩, here⟩⟩
      rw [if_neg e, if_neg e, found, List.nil_append, List.filter_eq_self.2 fun _ _ => by simp]

theorem State.sweepEvent_missed (p : Person) :
    p ∈ (s.sweepEvent z persons).removed ↔ ∃ e, s.occupancy.entryOf p = some e ∧ (p ∈ persons ∨ e.zone = z) := by
  have removed : (s.sweepEvent z persons).removed =
      (s.occupancy.entriesIn z).map (·.person) ++ (s.sweptMoved z persons).map (·.person) := by
    rw [State.sweepEvent_eq]
    dsimp only
    rw [OccEvent.makeAll_removed, OccEvent.removeAll_removed, State.sweptEvent, OccEvent.removeAll_removed]
    rfl
  rw [removed, List.mem_append, List.mem_map, List.mem_map]
  constructor
  · rintro (⟨e, he, rfl⟩ | ⟨e, he, rfl⟩)
    · obtain ⟨mem, inside⟩ := List.mem_filter.1 he
      exact ⟨e, (Occupancy.entryOf_iff distinct _ e).2 ⟨mem, rfl⟩, .inr (by simpa using inside)⟩
    · obtain ⟨q, hq, found, -⟩ := (State.mem_sweptMoved distinct z persons e).1 he
      obtain rfl := Occupancy.entryOf_person found
      exact ⟨e, found, .inl hq⟩
  · rintro ⟨e, found, h⟩
    by_cases inside : e.zone = z
    · exact .inl ⟨e, List.mem_filter.2 ⟨Occupancy.entryOf_mem found, by simpa using inside⟩, Occupancy.entryOf_person found⟩
    · exact .inr ⟨e, (State.mem_sweptMoved distinct z persons e).2 ⟨p, h.resolve_right inside, found, inside⟩,
        Occupancy.entryOf_person found⟩

/-- R84: the entries an accepted sweep leaves. -/
theorem State.sweepEvent_listed {r : ZoneRec} (hr : s.zones[z] = some r) :
    (s.sweepEvent z persons).state.occupancy.entries =
      (s.occupancy.entries.filter fun e => e.zone ≠ z ∧ e.person ∉ persons) ++ persons.map (fun p =>
        { person := p, zone := z, door := none, time := s.nowSec, weight := r.cfg.sweepWeight, partner := none,
          deadline := if s.schedules.modes[z] = .after then some (s.nowSec + r.cfg.checkinPeriod * 60) else none,
          duress := (s.occupancy.entryOf p).any (·.duress), deleted := (s.personAt p).isNone }) := by
  rw [State.sweepEvent_entries]
  congr 1
  · refine List.filter_congr fun e he => ?_
    rw [decide_eq_decide, Occupancy.person_mem_iff distinct z he]
  · refine List.map_congr_left fun p _ => ?_
    simp only [State.sweepEntry, State.newDeadline, State.checkinPeriod, hr, Option.map_some, Option.getD_some]

end

theorem State.sweepEvent_edits (s : State) (z : Zone) (persons : List Person) :
    (s.sweepEvent z persons).Edits s ∧
      (s.sweepEvent z persons).state.occupancy.uncertain = s.occupancy.uncertain.put z false := by
  have touched : (s.occEvent.touch z .sweep persons).Edits s := (OccEvent.Edits.none s).of_state rfl
  have swept : (s.sweptEvent z persons).Edits s := touched.foldl _ _ fun _ e h => h.remove e _
  have moved := swept.foldl (s.sweptMoved z persons) (fun ev e => ev.remove e .moved) fun _ e h => h.remove e _
  obtain ⟨entries, uncertain, made⟩ := moved.foldl persons (fun ev p => ev.make (ev.state.sweepEntry s.occupancy z p) .sweep)
    fun _ p h => h.make _ _
  rw [State.sweepEvent_eq]
  refine ⟨⟨entries, uncertain.put z false, by simp only [State.updOccupancy, made]⟩, ?_⟩
  dsimp only [State.updOccupancy]
  congr 1
  refine (OccEvent.foldl_keeps _ (fun ev p => ev.make (ev.state.sweepEntry s.occupancy z p) .sweep) (·.occupancy.uncertain)
    (fun _ _ => rfl) _).trans ?_
  refine (OccEvent.foldl_keeps _ (fun ev e => ev.remove e .moved) (·.occupancy.uncertain) (fun _ _ => rfl) _).trans ?_
  exact OccEvent.foldl_keeps _ (fun ev e => ev.remove e .sweep) (·.occupancy.uncertain) (fun _ _ => rfl) _

/-- R84: the refusals of a sweep, in their order. -/
theorem State.sweepRefusal_eq (s : State) (z : Zone) (r : ZoneRec) (persons : List Person) :
    s.sweepRefusal z r persons = s.sweepRefused z r persons := by
  have bad : sweepListBad r persons = true ↔
      16 < persons.length ∨ (∃ p ∈ persons, 1023 < p) ∨ ¬persons.Nodup ∨ r.cfg.limit < persons.length := by
    simp only [sweepListBad, Bool.or_eq_true, decide_eq_true_eq, List.any_eq_true, Bool.not_eq_true', decide_eq_false_iff_not, or_assoc]
  have unknown : (persons.any fun p => !s.indexKnown p) = true ↔
      ∃ p ∈ persons, s.personAt p = none ∧ ∀ e ∈ s.occupancy.entryOf p, e.deleted = false := by
    refine List.any_eq_true.trans (exists_congr fun p => and_congr_right fun _ => ?_)
    rw [Bool.not_eq_true', State.indexKnown, Bool.or_eq_false_iff]
    refine and_congr (by simp) ?_
    cases s.occupancy.entryOf p <;> simp
  have full : (r.cfg.limit < persons.length + s.occupancy.reserved[z] || 64 < s.totalAfterSweep z persons) = true ↔
      r.cfg.limit < persons.length + s.occupancy.reserved[z] ∨
        64 < (s.occupancy.entries.filter fun e => e.zone ≠ z ∧ e.person ∉ persons).length + persons.length
          + s.occupancy.reserved.toList.sum := by
    simp only [Bool.or_eq_true, decide_eq_true_eq, State.totalAfterSweep, Bool.decide_and, bne, decide_not, beq_eq_decide]
  unfold State.sweepRefusal State.sweepRefused
  simp only [bad, unknown, full]

/-! ### FORCE_EXIT -/

/-- R85: a forced exit removes the person's entry. -/
theorem State.forceOut_concludes {s : State} {i : Person} {e : Entry} (found : s.occupancy.entryOf i = some e) :
    let changed (z : Zone) : Prop := ∃ e, s.occupancy.entryOf i = some e ∧ e.zone = z
    let u := s.forceOut e
    u = { s with
        doors := u.doors, occupancy := u.occupancy, zones := u.zones, bus := u.bus, link := u.link, alarms := u.alarms,
        ports := u.ports } ∧
      u.occupancy.entries = (s.occupancy.entries.filter fun e => e.person ≠ i) ∧ u.occupancy.uncertain = s.occupancy.uncertain ∧
      ∃ bodies, Occurs s u changed changed (fun _ => .forceExit) (fun _ => [i]) (fun p => p = i) bodies := by
  intro changed u
  obtain rfl := Occupancy.entryOf_person found
  have edits := (OccEvent.Edits.none s).remove e .forceExit
  have tells := (OccEvent.Tells.none s fun _ => .forceExit).remove e (k := .forceExit) fun _ => rfl
  obtain ⟨concludes, bodies, occurs⟩ := tells.concludes (changed' := changed) (cause' := fun _ => .forceExit) (named' := fun _ => [e.person])
    (fun z => by simp [changed, found, eq_comm]) fun z hz => ⟨rfl, by rw [if_pos (hz.resolve_left id)]; rfl⟩
  obtain ⟨frame, entries, uncertain⟩ := edits.concluded concludes
  refine ⟨frame, entries.trans (List.filter_congr fun x _ => ?_), uncertain, bodies, (edits.occurs occurs).of_missed fun p => ?_⟩
  · rw [bne, beq_eq_decide, decide_not]
  · exact List.mem_singleton

/-- R84: an accepted sweep. -/
theorem State.sweep_concludes {s : State} (distinct : s.occupancy.entries.Pairwise fun x y => x.person ≠ y.person) {z : Zone} {r : ZoneRec}
    (hr : s.zones[z] = some r) {persons : List Person} (unique : persons.Nodup) (listed : Zone → List Person)
    (hl : ∀ y, listed y = persons.filter fun p => ∃ e, s.occupancy.entryOf p = some e ∧ e.zone = y) :
    let u := s.sweep z persons
    u = { s with
        doors := u.doors, occupancy := u.occupancy, zones := u.zones, bus := u.bus, link := u.link, alarms := u.alarms,
        ports := u.ports } ∧
      u.occupancy.uncertain = s.occupancy.uncertain.put z false ∧
      u.occupancy.entries = (s.sweepEvent z persons).state.occupancy.entries ∧
      ∃ bodies, Occurs s u (fun y => y = z ∨ listed y ≠ []) (fun y => y = z ∨ listed y ≠ []) (fun y => if y = z then .sweep else .moved)
        (fun y => if y = z then persons ++ ((s.occupancy.entriesIn z).map fun e => e.person).filter (· ∉ persons) else listed y)
        (fun p => ∃ e, s.occupancy.entryOf p = some e ∧ (p ∈ persons ∨ e.zone = z)) bodies := by
  intro u
  obtain ⟨edits, flags⟩ := s.sweepEvent_edits z persons
  obtain ⟨concludes, bodies, occurs⟩ := (State.sweepEvent_tells distinct z persons unique listed hl).concludes (fun _ => Iff.rfl)
    fun _ _ => ⟨rfl, rfl⟩
  obtain ⟨frame, entries, uncertain⟩ := edits.concluded concludes
  exact ⟨frame, uncertain.trans flags, entries, bodies, (edits.occurs occurs).of_missed (State.sweepEvent_missed distinct z persons)⟩

/-- Settles O53: the changes of the event by `sweepEvent_tells`, what follows them by `OccEvent.Tells.concludes`. -/
theorem sweepAndForceExitRewriteTheList : Obligations.SweepAndForceExitRewriteTheList := by
  intro s b code f ready distinct
  refine ⟨?_, ?_, ?_⟩
  · rintro rfl z r persons read hr
    have named : (s.hunting .console).zoneNamed z.val = some (z, r) := by
      rw [State.zoneNamed_of_eq (z := z) rfl]
      exact congrArg (Option.map fun r => (z, r)) hr
    have refusal : (s.hunting .console).sweepRefusal z r persons = s.sweepRefused z r persons := State.sweepRefusal_eq ..
    refine ⟨fun status refused => ?_, fun accepted => ?_⟩
    · refine congrArg _ (ready.answers (u := s) false rfl ?_)
      simp only [decideSweepConfirm, read, named, refusal, refused]
      rfl
    · rw [accepted] at refusal
      have unique : persons.Nodup := (OccupancySound.sweepRefusal_none refusal).1
      have decided : decideSweepConfirm (s.hunting .console) .console f.payload = ((s.hunting .console).sweep z persons).reply .ok := by
        simp only [decideSweepConfirm, read, named, refusal]
      have run : exec (.sweepConfirm .console b) s = .next ((((s.hunting .console).sweep z persons).reply .ok).answerTo .console f) :=
        congrArg Host.Outcome.next ((State.takeRequest_decided ready false (.only .console) _ rfl).trans
            (congrArg (Reply.answerTo · .console f) decided))
      obtain ⟨frame, uncertain, entries, bodies, occurs⟩ := State.sweep_concludes (s := s.hunting .console) distinct hr unique
        (fun y => persons.filter fun p => ∃ e, s.occupancy.entryOf p = some e ∧ e.zone = y) fun _ => rfl
      obtain ⟨u, hu⟩ : ∃ u, u = (s.hunting .console).sweep z persons := ⟨_, rfl⟩
      rw [← hu] at frame uncertain entries occurs run
      obtain ⟨answer, warnings, lone, conditions, changes⟩ := occurs.answers f
      refine ⟨_, run, ?_, uncertain, entries.trans (State.sweepEvent_listed (s := s.hunting .console) distinct z persons hr), bodies, answer,
        warnings, lone, conditions, changes⟩
      exact congrArg (fun v => (v.reply .ok).answerTo .console f) frame
  · rintro rfl n persons read none_
    have named : (s.hunting .console).zoneNamed n = none := State.zoneNamed_eq_none none_
    refine congrArg _ (ready.answers (u := s) false rfl ?_)
    simp only [decideSweepConfirm, read, named]
    rfl
  · rintro rfl i small payload
    have read : readIndex f.payload = some i := by rw [payload]; exact readIndex_num2 small
    refine ⟨fun none_ => ?_, fun place present => ?_⟩
    · refine congrArg _ (ready.answers (u := s) false rfl ?_)
      cases found : s.occupancy.entryOf i with
      | none =>
        have found' : (s.hunting .console).occupancy.entryOf i = none := found
        simp only [decideForceExit, read, found']
        rfl
      | some e =>
        have found' : (s.hunting .console).occupancy.entryOf i = some e := found
        have beyond : 1023 < i := none_.resolve_right (by rw [found]; nofun)
        simp only [decideForceExit, read, found', if_pos beyond]
        rfl
    · obtain ⟨e, found⟩ := Option.ne_none_iff_exists'.1 present
      have found' : (s.hunting .console).occupancy.entryOf i = some e := found
      have decided : decideForceExit (s.hunting .console) .console f.payload = ((s.hunting .console).forceOut e).reply .ok := by
        simp only [decideForceExit, read, found', if_neg (Nat.not_lt.2 place)]
      have run : exec (.forceExit .console b) s = .next ((((s.hunting .console).forceOut e).reply .ok).answerTo .console f) :=
        congrArg Host.Outcome.next ((State.takeRequest_decided ready false (.only .console) _ rfl).trans
            (congrArg (Reply.answerTo · .console f) decided))
      obtain ⟨frame, entries, uncertain, bodies, occurs⟩ := State.forceOut_concludes found'
      obtain ⟨u, hu⟩ : ∃ u, u = (s.hunting .console).forceOut e := ⟨_, rfl⟩
      rw [← hu] at frame uncertain entries occurs run
      obtain ⟨answer, warnings, lone, conditions, changes⟩ := occurs.answers f
      refine ⟨_, run, ?_, uncertain, entries, bodies, answer, warnings, lone, conditions, changes⟩
      exact congrArg (fun v => (v.reply .ok).answerTo .console f) frame

end Sys2Proof.Machine

namespace Sys2Proof.Machine

/-! ## The personnel table -/

/-- The record of a person is found in the table. -/
theorem State.personAt_eq {s t : State} {p : Person}
    (h : t.personnel.table.find? (·.1 = p) = s.personnel.table.find? (·.1 = p)) : t.personAt p = s.personAt p := by
  unfold State.personAt
  rw [h]

theorem find_index_filter (table : List (Person × PersonRec)) (keep : Person → Bool) (j : Person) :
    (table.filter fun x => keep x.1).find? (·.1 = j) = if keep j = true then table.find? (·.1 = j) else none := by
  rw [List.find?_filter]
  split
  · next kept =>
    congr 1
    funext x
    by_cases e : x.1 = j <;> simp [e, kept]
  · next gone =>
    refine List.find?_eq_none.2 fun x _ => ?_
    by_cases e : x.1 = j <;> simp [e, gone]

/-- R51: a written place holds its record, and the others are as they were. -/
theorem writeIndex_find (table : List (Person × PersonRec)) (i : Person) (who : PersonRec) (j : Person) :
    (writeIndex table i who).find? (·.1 = j) = if j = i then some (i, who) else table.find? (·.1 = j) := by
  have below := find_index_filter table (fun q => q < i) j
  have above := find_index_filter table (fun q => i < q) j
  unfold writeIndex
  rw [List.find?_append, List.find?_cons, below, above]
  rcases Nat.lt_trichotomy j i with less | rfl | more
  · simp [less, Nat.ne_of_lt less, Nat.ne_of_gt less, Nat.not_lt.2 less.le]
  · simp
  · simp [more, Nat.ne_of_lt more, Nat.ne_of_gt more, Nat.not_lt.2 more.le]

/-- R54: an erased place holds nothing, and the others are as they were. -/
theorem eraseIndex_find (table : List (Person × PersonRec)) (i j : Person) :
    (eraseIndex table i).find? (·.1 = j) = if j = i then none else table.find? (·.1 = j) := by
  refine (find_index_filter table (fun q => q != i) j).trans ?_
  by_cases e : j = i <;> simp [e]

/-- R51: what makes a PIN none. -/
theorem pinValid_eq_false (pin : Option (List Nat)) :
    (pin.all fun p => 4 ≤ p.length && p.length ≤ 6 && p.all (· ≤ 9)) = false ↔
      ∃ p ∈ pin, p.length < 4 ∨ 6 < p.length ∨ ∃ n ∈ p, 9 < n := by
  cases pin with
  | none => simp
  | some p =>
    simp only [Option.all_some, Bool.and_eq_false_iff, decide_eq_false_iff_not, Nat.not_le, List.all_eq_false, decide_eq_true_eq,
      Option.mem_def, Option.some.injEq, exists_eq_left', or_assoc]

/-- R51, R52: what makes the fields of a record no record. -/
theorem personRecordValid_eq_false (who : PersonRec) :
    personRecordValid who = false ↔
      (∃ p ∈ who.pin, p.length < 4 ∨ 6 < p.length ∨ ∃ n ∈ p, 9 < n) ∨ (∃ a ∈ who.validFrom, a.valid = false) ∨
        (∃ b ∈ who.validTo, b.valid = false) ∨ (∃ a ∈ who.validFrom, ∃ b ∈ who.validTo, a.le b = false) := by
  obtain ⟨credential, pin, pendant, groups, validFrom, validTo, lone, responder⟩ := who
  simp only [personRecordValid, Bool.and_eq_false_iff, pinValid_eq_false, or_assoc]
  refine or_congr_right ?_
  cases validFrom with
  | none => cases validTo <;> simp
  | some a => cases validTo <;> simp

/-- R52: the refusals of a write, in their order. -/
theorem State.personRefusal_eq (s : State) (i : Nat) (who : PersonRec) : s.personRefusal i who = s.writeRefused i who := by
  have bad : (1023 < i || !personRecordValid who) = true ↔
      1023 < i ∨ (∃ p ∈ who.pin, p.length < 4 ∨ 6 < p.length ∨ ∃ n ∈ p, 9 < n) ∨ (∃ a ∈ who.validFrom, a.valid = false) ∨
        (∃ b ∈ who.validTo, b.valid = false) ∨ (∃ a ∈ who.validFrom, ∃ b ∈ who.validTo, a.le b = false) := by
    rw [Bool.or_eq_true, decide_eq_true_eq, Bool.not_eq_true', personRecordValid_eq_false]
  have held : ((s.personAt i).isNone && (s.occupancy.entryOf i).any (·.deleted)) = true ↔
      s.personAt i = none ∧ ∃ e ∈ s.occupancy.entryOf i, e.deleted = true := by
    rw [Bool.and_eq_true, Option.isNone_iff_eq_none, Option.any_eq_true]
    rfl
  have twice : (s.personnel.table.any fun x => x.1 != i && x.2.credential = who.credential) = true ∨
      (s.personnel.table.any fun x => x.1 != i && who.pendant.isSome && x.2.pendant = who.pendant) = true ↔
      ∃ x ∈ s.personnel.table, x.1 ≠ i ∧ (x.2.credential = who.credential ∨ (who.pendant ≠ none ∧ x.2.pendant = who.pendant)) := by
    simp only [List.any_eq_true, Bool.and_eq_true, bne_iff_ne, decide_eq_true_eq, Option.isSome_iff_ne_none, ← exists_or, ← and_or_left,
      and_assoc]
  unfold State.personRefusal State.writeRefused
  simp only [bad, held]
  split
  · rfl
  split
  · rfl
  by_cases credential : (s.personnel.table.any fun x => x.1 != i && x.2.credential = who.credential) = true
  · rw [if_pos credential, if_pos (twice.1 (.inl credential))]
  by_cases pendant : (s.personnel.table.any fun x => x.1 != i && who.pendant.isSome && x.2.pendant = who.pendant) = true
  · rw [if_neg credential, if_pos pendant, if_pos (twice.1 (.inr pendant))]
  · rw [if_neg credential, if_neg pendant, if_neg fun h => (twice.2 h).elim credential pendant]

/-! ## WRITE_PERSON -/

/-- R89, R159: what re-testing a zone's lone condition does to the alarm list and the ports. -/
theorem State.retestLone_ends (s : State) (z : Zone) :
    ∃ bodies, Fades s (s.retestLone z) (fun kind source => (kind = .missedCheckin ∧ ∃ p, False ∧ source = .person p) ∨
        kind = .loneOccupant ∧ ∃ p, source = .person p ∧
          ∃ y : Zone, (s.occupancy.lone[y]).records p ∧ ¬((s.retestLone z).occupancy.lone[y]).records p) bodies ∧
      ∀ b ∈ bodies, ∃ r ∈ s.alarms.records, b = r.endedBody (s.sourceZone r.source) := by
  obtain ⟨bodies, fades, told⟩ := s.retestLone_fades z
  have others (y : Zone) (other : y ≠ z) : (s.retestLone z).occupancy.lone[y] = s.occupancy.lone[y] := ((s.retestLone_follows z) y).1 other
  refine ⟨bodies, fades.congr fun kind source => ?_, told⟩
  simp only [false_and, exists_false, and_false, false_or]
  refine and_congr_right fun _ => exists_congr fun p => and_congr_right fun _ => ⟨fun h => ⟨z, h⟩, fun ⟨y, stood, gone⟩ => ?_⟩
  by_cases e : y = z
  · subst e
    exact ⟨stood, gone⟩
  · rw [others y e] at gone
    exact absurd stood gone

/-- R53: the zones whose lone condition a written record re-tests. -/
def State.retestedBy (s : State) (i : Person) (old : Option PersonRec) (new : PersonRec) (z : Zone) : Prop :=
  ∃ e o, s.occupancy.entryOf i = some e ∧ e.zone = z ∧ old = some o ∧ o.lonePermitted ≠ new.lonePermitted

/-- R53: all that the re-test after a written record does. -/
theorem State.retestPerson_retests (v : State) (i : Person) (old : Option PersonRec) (new : PersonRec) :
    let t := v.retestPerson i old new
    t = { v with occupancy := { v.occupancy with lone := t.occupancy.lone }, alarms := t.alarms, ports := t.ports } ∧
      LoneFollows v t (v.retestedBy i old new) ∧
      (old = none ∨ old.map (·.lonePermitted) = some new.lonePermitted → t = v) ∧
      ∃ bodies, QueuesGain v t bodies ∧ (∀ b ∈ bodies, ∃ r ∈ v.alarms.records, b = r.endedBody (v.sourceZone r.source)) ∧
        (AlarmListSound v → ConditionsEnd v t (fun _ => False) bodies) := by
  intro t
  have still (same : t = v) (none_ : ∀ z, ¬v.retestedBy i old new z) : LoneFollows v t (v.retestedBy i old new) := by
    rw [same]
    exact fun z => ⟨fun _ => rfl, fun h => absurd h (none_ z)⟩
  have quiet (same : t = v) : ∃ bodies, QueuesGain v t bodies ∧
      (∀ b ∈ bodies, ∃ r ∈ v.alarms.records, b = r.endedBody (v.sourceZone r.source)) ∧
      (AlarmListSound v → ConditionsEnd v t (fun _ => False) bodies) := by
    rw [same]
    refine ⟨[], .refl v, fun _ h => absurd h List.not_mem_nil, fun sound => ?_⟩
    refine Fades.conditionsEnd ((Fades.still rfl rfl rfl rfl).congr fun kind source => iff_of_false id ?_) sound
    rintro (⟨-, _, ⟨⟩, -⟩ | ⟨-, _, -, _, stood, gone⟩)
    exact gone stood
  by_cases retests : ∃ e o, v.occupancy.entryOf i = some e ∧ old = some o ∧ o.lonePermitted ≠ new.lonePermitted
  · obtain ⟨e, o, found, rfl, differs⟩ := retests
    have run : t = v.retestLone e.zone := by
      simp only [t, State.retestPerson, found]
      exact if_neg differs
    have zones : v.retestedBy i (some o) new = (· = e.zone) := by
      funext z
      refine propext ⟨?_, fun h => ⟨e, o, found, h.symm, rfl, differs⟩⟩
      rintro ⟨x, _, found', rfl, -⟩
      rw [Option.some.inj (found.symm.trans found')]
    obtain ⟨bodies, fades, told⟩ := v.retestLone_ends e.zone
    rw [zones, run]
    refine ⟨v.retestLone_only e.zone, v.retestLone_follows e.zone, fun same => ?_, bodies, fades.gains, told, fades.conditionsEnd⟩
    rcases same with ⟨⟨⟩⟩ | same
    exact absurd (Option.some.inj same) differs
  · have same : t = v := by
      simp only [t, State.retestPerson]
      split
      · next e o found => exact if_pos (by_contra fun differs => retests ⟨e, o, found, rfl, differs⟩)
      · rfl
    refine ⟨by rw [same], still same fun z h => ?_, fun _ => same, quiet same⟩
    obtain ⟨e, o, found, -, rfl, differs⟩ := h
    exact retests ⟨e, o, found, rfl, differs⟩

/-- R52, R53: all that an accepted write does. -/
theorem State.writePerson_writes {s : State} {i : Person} (place : i < 1024) (who : PersonRec) :
    let t := s.writePerson i who
    t = { s with
        personnel := t.personnel, occupancy := { s.occupancy with lone := t.occupancy.lone }, alarms := t.alarms, ports := t.ports } ∧
      t.personnel.groups = s.personnel.groups ∧ t.personAt i = some who ∧ (∀ j, j ≠ i → t.personAt j = s.personAt j) ∧
      LoneFollows s t (s.retestedBy i (s.personAt i) who) ∧
      (s.personAt i = none ∨ (s.personAt i).map (·.lonePermitted) = some who.lonePermitted →
        t.alarms = s.alarms ∧ t.occupancy = s.occupancy ∧ t.ports = s.ports) ∧
      ∃ bodies, QueuesGain s t bodies ∧ (∀ b ∈ bodies, ∃ r ∈ s.alarms.records, b = r.endedBody (s.sourceZone r.source)) ∧
        (AlarmListSound s → ConditionsEnd s t (fun _ => False) bodies) := by
  intro t
  obtain ⟨v, hv⟩ : ∃ v : State, v = { s with personnel := { s.personnel with table := writeIndex s.personnel.table i who } } := ⟨_, rfl⟩
  have run : t = v.retestPerson i (s.personAt i) who := by rw [hv]; rfl
  obtain ⟨frame, lone, same, bodies, gains, told, ends⟩ := v.retestPerson_retests i (s.personAt i) who
  rw [← run] at frame lone same gains ends
  have table : t.personnel = v.personnel := by rw [frame]
  have find (j : Person) : t.personnel.table.find? (·.1 = j) = if j = i then some (i, who) else s.personnel.table.find? (·.1 = j) := by
    rw [table, hv]
    exact writeIndex_find ..
  subst hv
  refine ⟨?_, by rw [table], ?_, fun j other => State.personAt_eq ?_, lone, fun h => ?_, bodies, gains, told, ends⟩
  · conv_lhs => rw [frame]
    rw [table]
  · unfold State.personAt
    rw [find, if_pos place, if_pos rfl]
    rfl
  · rw [find, if_neg other]
  · rw [same h]
    exact ⟨rfl, rfl, rfl⟩

/-! ## DELETE_PERSON -/

/-- What changes nothing of the occupancy, the zones and the alarm list is an event of no zone. -/
theorem Occurs.nothing {s t : State} (ports : t.ports = s.ports) (time : t.time = s.time) (zones : t.zones = s.zones)
    (alarms : t.alarms = s.alarms) (occupancy : t.occupancy = s.occupancy) (cause : Zone → OccCause) (named : Zone → List Person) :
    Occurs s t (fun _ => False) (fun _ => False) cause named (fun _ => False) [] where
  gains := .of_ports ports
  time := time
  changes _ := ⟨False.elim, fun _ h => h.elim, fun _ => ⟨rfl, .inl (by rw [zones])⟩⟩
  warnings _ := ⟨fun _ => by rw [occupancy], False.elim⟩
  lone _ := ⟨fun _ => by rw [occupancy], False.elim⟩
  conditions sound := by
    refine Fades.conditionsEnd ((Fades.still ports time (by rw [occupancy]) alarms).congr fun kind source => iff_of_false id ?_) sound
    rintro (⟨-, _, ⟨⟩, -⟩ | ⟨-, _, -, z, stood, gone⟩)
    rw [occupancy] at gone
    exact gone stood

/-- R54: an entry marked deleted is told. -/
theorem State.markDeleted_occurs {s : State} {i : Person} {e : Entry} (found : s.occupancy.entryOf i = some e) :
    let u := s.markDeleted i
    (∃ doors reserved lone zones bus link alarms ports,
      u = { s with
        doors := doors,
        occupancy := { s.occupancy with
          entries := s.occupancy.entries.map fun e => if e.person = i then { e with deleted := true } else e, reserved := reserved, lone := lone },
        zones := zones, bus := bus, link := link, alarms := alarms, ports := ports }) ∧
      (∀ d y, s.doors[(d : Door)] = some y → (u.zones[y.cfg.inside]).map (·.state) = (s.zones[y.cfg.inside]).map (·.state) →
        u.doors[d] = some y) ∧
      ∃ bodies, Occurs s u (· = e.zone) (fun _ => False) (fun _ => .personDeleted) (fun _ => [i]) (fun _ => False) bodies := by
  intro u
  obtain ⟨v, hv⟩ : ∃ v, v = s.updOccupancy (·.updEntry i fun x => { x with deleted := true }) := ⟨_, rfl⟩
  obtain ⟨w, hw⟩ : ∃ w, w = v.retestLone e.zone := ⟨_, rfl⟩
  have run : u = w.announce ⟨e.zone, .personDeleted, [i]⟩ := by
    simp only [u, State.markDeleted, found, hw, hv]
  obtain ⟨ended, fades, -⟩ := v.retestLone_ends e.zone
  have timers := v.retestLone_follows e.zone
  obtain ⟨told, a⟩ := (Told.refl w).next (c := ⟨e.zone, .personDeleted, [i]⟩) fun _ h => absurd h List.not_mem_nil
  rw [← run, List.nil_append, List.nil_append] at a
  have only := v.retestLone_only e.zone
  rw [← hw] at fades timers only
  obtain ⟨lone, alarms, ports, hw'⟩ : ∃ lone alarms ports,
      w = { v with occupancy := { v.occupancy with lone := lone }, alarms := alarms, ports := ports } := ⟨_, _, _, only⟩
  obtain ⟨doors, reserved, zones, bus, link, ports', hu⟩ := a.frame
  have before : w.zones = s.zones := by rw [hw', hv]; rfl
  have same : LoneSame w u := ⟨by rw [hu], by rw [hu], by rw [hu], by rw [hu], a.cfg⟩
  refine ⟨⟨doors, reserved, lone, zones, bus, link, alarms, ports', ?_⟩, fun d y hy state => ?_, ended ++ told,
    ⟨?_, ?_, fun z => ?_, fun z => ⟨fun _ => ?_, False.elim⟩, ?_, fun sound => ?_⟩⟩
  · rw [hu, hw', hv]
    rfl
  · have hy' : w.doors[d] = some y := by rw [hw', hv]; exact hy
    obtain ⟨x, hx, -, stands⟩ := a.doors d y hy'
    rw [hx, stands (by rw [before]; exact state)]
  · have : v.ports = s.ports := by rw [hv]; rfl
    exact (fades.gains.trans a.gains fades.time).congr this.symm (by rw [hv]; rfl) rfl
  · rw [hu, hw', hv]
    rfl
  · have filtered : (ended ++ told).filter (·.isOf z) = told.filter (·.isOf z) := by
      rw [List.filter_append, NoticeBody.filter_isOf_nil fun b hb => NoticeBody.isOf_of_ofAlarm (fades.ofAlarms b hb) z, List.nil_append]
    have summary : u.occupancyTold z .personDeleted [i] = w.occupancyTold z .personDeleted [i] :=
      State.occupancyTold_congr (a.summary z)
    dsimp only
    rw [filtered, summary, ← before]
    obtain ⟨absent, present⟩ := a.told _ List.mem_cons_self
    refine ⟨?_, ?_, fun other => ?_⟩
    · rintro rfl none_
      exact absent none_
    · rintro r rfl hr
      exact (present r hr).congr rfl (fun x hx holds => by rw [hx, ← holds]) filtered
    · obtain ⟨-, stands, quiet⟩ := a.others z fun c hc => by
        rw [List.mem_singleton.1 hc]
        exact fun e => other e.symm
      exact ⟨quiet, .inl stands⟩
  · rw [hu, hw', hv]
    rfl
  · exact timers.congr same (by rw [hu]) (by rw [hv]; rfl)
  · have sound' : AlarmListSound v := by
      rw [alarmListSound_iff] at sound ⊢
      rw [hv]
      exact sound
    refine (fades.conditionsEnd sound').congr (by rw [hv]; rfl) (by rw [hv]; rfl) (by rw [hu]) (by rw [hu]) (by rw [hu]) fun b hb => ?_
    rw [List.mem_append]
    exact or_iff_left fun h => absurd (hb.symm.trans (a.alarms b h)) (by decide)

/-- R54: a pairing record of a deleted person goes. -/
theorem State.withdrawPairing_refreshDrive (s : State) (d : Door) :
    let t := (s.withdrawPairing d .personDeleted).refreshDrive d
    t = { s with doors := t.doors, bus := t.bus, ports := t.ports } ∧ (∀ e : Door, e ≠ d → t.doors[e] = s.doors[e]) ∧
      (∀ y, t.doors[d] = some y → y.pairing = none) ∧
      ∃ bodies, QueuesGain s t bodies ∧ (∀ b ∈ bodies, b.Apart) ∧
        ∀ y p, s.doors[d] = some y → y.pairing = some p → .accessWithdrawn d .personDeleted none (some p.first) ∈ bodies := by
  intro t
  cases hd : s.doors[d] with
  | none =>
    have same : t = s := by
      have : s.withdrawPairing d .personDeleted = s := by simp only [State.withdrawPairing, hd, Option.bind_none]
      simp only [t, this, State.refreshDrive, hd]
    rw [same]
    refine ⟨rfl, fun _ _ => rfl, fun y hy => ?_, [], .refl s, fun _ h => absurd h List.not_mem_nil, fun _ _ h => nomatch h⟩
    rw [hd] at hy
    cases hy
  | some y =>
    obtain ⟨only, gains⟩ := State.withdrawPairing_only hd .personDeleted
    obtain ⟨u, hu⟩ : ∃ u, u = s.withdrawPairing d .personDeleted := ⟨_, rfl⟩
    have run : t = u.refreshDrive d := by rw [hu]
    rw [← hu] at only gains
    have doors : t.doors = s.doors.put d (some (({ y with pairing := none } : DoorRec).driven (u.bars y.cfg.inside))) := by
      rw [run, State.refreshDrive_doors, only]
      simp only [Tab.getElem_put_self, Option.map_some, Tab.put_put]
    have frame := u.refreshDrive_only d
    rw [← run] at frame
    refine ⟨?_, fun e other => ?_, fun x hx => ?_, _, gains.congr rfl rfl (by rw [frame]), fun b hb => ?_, fun x p hx hp => ?_⟩
    · conv_lhs => rw [frame, only]
      rw [frame]
    · rw [doors]
      exact Tab.getElem_put_of_ne other
    · rw [doors, Tab.getElem_put_self] at hx
      obtain ⟨l, c, driven⟩ := ({ y with pairing := none } : DoorRec).driven_only (u.bars y.cfg.inside)
      rw [driven] at hx
      rw [← Option.some.inj hx]
    · obtain ⟨p, -, rfl⟩ := List.mem_map.1 hb
      exact ⟨rfl, fun _ => rfl⟩
    · obtain rfl := Option.some.inj hx
      exact List.mem_map.2 ⟨p, by rw [hp]; exact List.mem_singleton_self p, rfl⟩

/-- R54: the pairing records that a deleted person began go. -/
theorem State.forEach_withdrawPairing (l : List Door) (distinct : l.Nodup) (s : State) :
    let t := s.forEach l fun d u => (u.withdrawPairing d .personDeleted).refreshDrive d
    t = { s with doors := t.doors, bus := t.bus, ports := t.ports } ∧
      (∀ d : Door, d ∉ l → t.doors[d] = s.doors[d]) ∧ (∀ d y, d ∈ l → t.doors[d] = some y → y.pairing = none) ∧
      ∃ bodies, QueuesGain s t bodies ∧ (∀ b ∈ bodies, b.Apart) ∧
        ∀ d y p, d ∈ l → s.doors[d] = some y → y.pairing = some p → .accessWithdrawn d .personDeleted none (some p.first) ∈ bodies := by
  induction l generalizing s with
  | nil =>
    exact ⟨rfl, fun _ _ => rfl, fun _ _ h => absurd h List.not_mem_nil, [], .refl s, fun _ h => absurd h List.not_mem_nil,
      fun _ _ _ h => absurd h List.not_mem_nil⟩
  | cons d l ih =>
    obtain ⟨apart, distinct⟩ := List.nodup_cons.1 distinct
    obtain ⟨v, hv⟩ : ∃ v, v = (s.withdrawPairing d .personDeleted).refreshDrive d := ⟨_, rfl⟩
    obtain ⟨frame, others, gone, first, gains, away, told⟩ := s.withdrawPairing_refreshDrive d
    rw [← hv] at frame others gone gains
    obtain ⟨frame', others', gone', rest, gains', away', told'⟩ := ih distinct v
    obtain ⟨t, ht⟩ : ∃ t, t = v.forEach l fun d u => (u.withdrawPairing d .personDeleted).refreshDrive d := ⟨_, rfl⟩
    have run : (s.forEach (d :: l) fun d u => (u.withdrawPairing d .personDeleted).refreshDrive d) = t := by rw [ht, hv]; rfl
    rw [← ht] at frame' others' gone' gains'
    rw [run]
    refine ⟨?_, fun e he => ?_, fun e y he hy => ?_, first ++ rest, gains.trans gains' (by rw [frame]), fun b hb => ?_, fun e y p he hy hp => ?_⟩
    · conv_lhs => rw [frame', frame]
    · exact (others' e (List.not_mem_of_not_mem_cons he)).trans (others e (List.ne_of_not_mem_cons he))
    · rcases List.mem_cons.1 he with rfl | he
      · rw [others' e apart] at hy
        exact gone y hy
      · exact gone' e y he hy
    · exact (List.mem_append.1 hb).elim (away b) (away' b)
    · rcases List.mem_cons.1 he with rfl | he
      · exact List.mem_append_left _ (told y p hy hp)
      · have other : e ≠ d := fun h => apart (h ▸ he)
        exact List.mem_append_right _ (told' e y p he ((others e other).trans hy) hp)

/-- R54: where the deleted person has no entry and began no pairing, the table alone changes. -/
theorem State.deletePerson_absent {s : State} {i : Person} (none_ : s.occupancy.entryOf i = none)
    (alone : ∀ d r, s.doors[(d : Door)] = some r → r.pairing = none) :
    s.deletePerson i = { s with personnel := { s.personnel with table := eraseIndex s.personnel.table i } } := by
  obtain ⟨v, hv⟩ : ∃ v : State, v = { s with personnel := { s.personnel with table := eraseIndex s.personnel.table i } } := ⟨_, rfl⟩
  have unmarked : v.markDeleted i = v := by
    have : v.occupancy.entryOf i = none := by rw [hv]; exact none_
    simp only [State.markDeleted, this]
  have nowhere : v.doorsPairing i = [] := List.filter_eq_nil_iff.2 fun d _ => by
    rw [hv]
    cases hd : s.doors[d] with
    | none => simp [hd]
    | some r => simp [hd, alone d r hd]
  have run : s.deletePerson i = (v.markDeleted i).forEach ((v.markDeleted i).doorsPairing i)
      fun d u => (u.withdrawPairing d .personDeleted).refreshDrive d := by rw [hv]; rfl
  rw [run, unmarked, nowhere, hv]
  rfl

/-- R54: all that a deletion does. -/
theorem State.deletePerson_deletes (s : State) (i : Person) :
    let t := s.deletePerson i
    let changed (z : Zone) : Prop := ∃ e, s.occupancy.entryOf i = some e ∧ e.zone = z
    t = { s with
        personnel := t.personnel, doors := t.doors, occupancy := t.occupancy, zones := t.zones, alarms := t.alarms, bus := t.bus,
        link := t.link, ports := t.ports } ∧
      t.personnel = { s.personnel with table := eraseIndex s.personnel.table i } ∧
      t.occupancy.uncertain = s.occupancy.uncertain ∧ t.occupancy.warning = s.occupancy.warning ∧
      t.occupancy.entries = (s.occupancy.entries.map fun e => if e.person = i then { e with deleted := true } else e) ∧
      (∀ d r, t.doors[(d : Door)] = some r → ∀ p, r.pairing = some p → p.first.person ≠ i) ∧
      ∃ bodies, Occurs s t changed (fun _ => False) (fun _ => .personDeleted) (fun _ => [i]) (fun _ => False) bodies ∧
        ∀ d r p, s.doors[(d : Door)] = some r → r.pairing = some p → p.first.person = i →
          ((t.zones[r.cfg.inside]).map fun x => x.state) = ((s.zones[r.cfg.inside]).map fun x => x.state) →
          .accessWithdrawn d .personDeleted none (some p.first) ∈ bodies := by
  intro t changed
  obtain ⟨v, hv⟩ : ∃ v : State, v = { s with personnel := { s.personnel with table := eraseIndex s.personnel.table i } } := ⟨_, rfl⟩
  obtain ⟨u, hu⟩ : ∃ u, u = v.markDeleted i := ⟨_, rfl⟩
  have run : t = u.forEach (u.doorsPairing i) fun d u => (u.withdrawPairing d .personDeleted).refreshDrive d := by rw [hu, hv]; rfl
  have pairing (d : Door) : d ∈ u.doorsPairing i ↔ ∃ y p, u.doors[d] = some y ∧ y.pairing = some p ∧ p.first.person = i := by
    simp only [State.doorsPairing, List.mem_filter, List.mem_finRange, true_and, Option.any_eq_true, decide_eq_true_eq]
    exact ⟨fun ⟨y, hy, p, hp, e⟩ => ⟨y, p, hy, hp, e⟩, fun ⟨y, p, hy, hp, e⟩ => ⟨y, hy, p, hp, e⟩⟩
  have marked : (∃ doors reserved lone zones bus link alarms ports,
      u = { v with
        doors := doors,
        occupancy := { v.occupancy with
          entries := v.occupancy.entries.map fun e => if e.person = i then { e with deleted := true } else e, reserved := reserved, lone := lone },
        zones := zones, bus := bus, link := link, alarms := alarms, ports := ports }) ∧
      (∀ d y, v.doors[(d : Door)] = some y → (u.zones[y.cfg.inside]).map (·.state) = (v.zones[y.cfg.inside]).map (·.state) →
        u.doors[d] = some y) ∧
      ∃ bodies, Occurs v u changed (fun _ => False) (fun _ => .personDeleted) (fun _ => [i]) (fun _ => False) bodies := by
    have same : v.occupancy = s.occupancy := by rw [hv]
    cases found : s.occupancy.entryOf i with
    | none =>
      have unmarked : u = v := by
        rw [hu]
        simp only [State.markDeleted, same, found]
      have nobody : (v.occupancy.entries.map fun e => if e.person = i then { e with deleted := true } else e) = v.occupancy.entries := by
        rw [same]
        refine (List.map_congr_left fun e he => ?_).trans (List.map_id _)
        exact if_neg (Occupancy.entryOf_eq_none.1 found e he)
      have nowhere : changed = fun _ => False := by
        funext z
        simp only [changed, found, reduceCtorEq, false_and, exists_false]
      rw [nobody, unmarked, nowhere]
      exact ⟨⟨_, _, _, _, _, _, _, _, rfl⟩, fun _ _ hy _ => hy, [], .nothing rfl rfl rfl rfl rfl _ _⟩
    | some e =>
      have here : changed = (· = e.zone) := by
        funext z
        simp only [changed, found, Option.some.injEq, exists_eq_left', eq_comm]
      rw [here, hu]
      exact State.markDeleted_occurs (by rw [same]; exact found)
  obtain ⟨⟨doors, reserved, lone, zones, bus, link, alarms, ports, frame⟩, stands, bodies, occurs⟩ := marked
  obtain ⟨frame', others, gone, withdrawn, gains, apart, told⟩ :=
    u.forEach_withdrawPairing (u.doorsPairing i) ((List.nodup_finRange 16).filter _)
  rw [← run] at frame' others gone gains
  obtain ⟨doors', bus', ports', ht⟩ : ∃ doors bus ports, t = { u with doors := doors, bus := bus, ports := ports } := ⟨_, _, _, frame'⟩
  have occupancy : t.occupancy = u.occupancy := by rw [ht]
  have entries : t.occupancy.entries = (s.occupancy.entries.map fun e => if e.person = i then { e with deleted := true } else e) := by
    rw [occupancy, frame, hv]
  refine ⟨?_, by rw [ht, frame, hv], by rw [occupancy, frame, hv], by rw [occupancy, frame, hv], entries,
      fun d r hr p hp first => ?_, bodies ++ withdrawn, ?_,
    fun d r p hr hp first state => ?_⟩
  · have personnel : t.personnel = { s.personnel with table := eraseIndex s.personnel.table i } := by rw [ht, frame, hv]
    rw [personnel]
    subst hv
    subst frame
    rw [ht]
  · by_cases listed : d ∈ u.doorsPairing i
    · rw [gone d r listed hr] at hp
      cases hp
    · rw [others d listed] at hr
      exact listed ((pairing d).2 ⟨r, p, hr, hp, first⟩)
  · have all := occurs.after gains apart ⟨by rw [ht], by rw [ht], by rw [ht], by rw [ht], fun _ => by rw [ht]⟩ (by rw [ht]) (by rw [ht])
      (by rw [ht]) (by rw [ht]) fun z => .inl ⟨by rw [ht], by rw [ht]⟩
    exact all.before (first := []) (.of_ports (by rw [hv])) (fun _ h => absurd h List.not_mem_nil) (by rw [hv]) (by rw [hv]) (by rw [hv])
      (by rw [hv]) (by rw [hv])
  · have here : u.doors[d] = some r := by
      refine stands d r (by rw [hv]; exact hr) ?_
      rw [ht] at state
      rw [hv]
      exact state
    exact List.mem_append_right _ (told d r p ((pairing d).2 ⟨r, p, here, hp, first⟩) here hp)

/-- Settles O43: a write by `writePerson_writes`, a deletion by `deletePerson_deletes`. -/
theorem personsAreWrittenAndDeleted : Obligations.PersonsAreWrittenAndDeleted := by
  intro s b code f ready
  refine ⟨?_, ?_, ?_⟩
  · rintro rfl i who read
    have refusal : (s.hunting .access).personRefusal i who = s.writeRefused i who := State.personRefusal_eq ..
    refine ⟨fun status refused => ?_, fun accepted => ?_⟩
    · refine congrArg _ (ready.answers (u := s) false rfl ?_)
      simp only [decideWritePerson, read, refusal, refused]
      rfl
    · have place : i < 1024 := by
        by_contra beyond
        have : s.writeRefused i who = some .badFormat := if_pos (.inl (by omega))
        rw [accepted] at this
        cases this
      have decided : decideWritePerson (s.hunting .access) .access f.payload = ((s.hunting .access).writePerson i who).reply .ok := by
        simp only [decideWritePerson, read, refusal, accepted]
      have run : exec (.writePerson .access b) s = .next ((((s.hunting .access).writePerson i who).reply .ok).answerTo .access f) :=
        congrArg Host.Outcome.next
          ((State.takeRequest_decided ready false (.only .access) _ rfl).trans (congrArg (Reply.answerTo · .access f) decided))
      obtain ⟨frame, groups, written, others, lone, same, bodies, gains, told, ends⟩ := State.writePerson_writes (s := s.hunting .access) place who
      obtain ⟨u, hu⟩ : ∃ u, u = (s.hunting .access).writePerson i who := ⟨_, rfl⟩
      rw [← hu] at frame groups written others lone same gains ends run
      refine ⟨_, run, congrArg (fun v => (v.reply .ok).answerTo .access f) frame, groups, written, others,
        ⟨bodies, Reply.answerTo_ports gains, lone, fun b hb => ?_, ends⟩, fun h => ?_⟩
      · obtain ⟨r, hr, rfl⟩ := told b hb
        exact ⟨r, _, hr, rfl⟩
      · obtain ⟨alarms, occupancy, ports⟩ := same h
        exact ⟨alarms, occupancy, Reply.answerTo_ports (.of_ports ports)⟩
  · rintro rfl i small payload absent
    have read : readIndex f.payload = some i := by rw [payload]; exact readIndex_num2 small
    have missing : (s.hunting .access).personAt i = none := by
      rcases absent with beyond | absent
      · exact if_neg (Nat.not_lt.2 beyond)
      · exact absent
    refine congrArg _ (ready.answers (u := s) false rfl ?_)
    simp only [decideDeletePerson, read, missing]
    rfl
  · rintro rfl i who place payload present
    have read : readIndex f.payload = some i := by rw [payload]; exact readIndex_num2 (by omega)
    have present' : ((s.hunting .access).personAt i).isNone = false := by
      have : (s.hunting .access).personAt i = some who := present
      rw [this]
      rfl
    have decided : decideDeletePerson (s.hunting .access) .access f.payload = ((s.hunting .access).deletePerson i).reply .ok := by
      simp only [decideDeletePerson, read, present', Bool.false_eq_true, if_false]
    have run : exec (.deletePerson .access b) s = .next ((((s.hunting .access).deletePerson i).reply .ok).answerTo .access f) :=
      congrArg Host.Outcome.next
        ((State.takeRequest_decided ready false (.only .access) _ rfl).trans (congrArg (Reply.answerTo · .access f) decided))
    obtain ⟨frame, personnel, uncertain, warning, entries, gone, bodies, occurs, told⟩ := (s.hunting .access).deletePerson_deletes i
    have absent := State.deletePerson_absent (s := s.hunting .access) (i := i)
    obtain ⟨u, hu⟩ : ∃ u, u = (s.hunting .access).deletePerson i := ⟨_, rfl⟩
    rw [← hu] at frame personnel uncertain warning entries gone occurs told absent run
    obtain ⟨answer, -, lone, conditions, changes⟩ := occurs.answers f
    have find (j : Person) : u.personnel.table.find? (·.1 = j) = if j = i then none else s.personnel.table.find? (·.1 = j) := by
      rw [personnel]
      exact eraseIndex_find ..
    refine ⟨_, run, congrArg (fun v => (v.reply .ok).answerTo .access f) frame, congrArg (·.groups) personnel, ?_,
        fun j other => State.personAt_eq ((find j).trans (if_neg other)), fun nobody alone => ?_,
      ⟨bodies, answer, changes, lone, conditions, told⟩, gone, uncertain, warning, entries⟩
    · show u.personAt i = none
      unfold State.personAt
      rw [find, if_pos rfl, if_pos place]
      rfl
    · have same := absent (Occupancy.entryOf_eq_none.2 nobody) alone
      refine ⟨?_, Reply.answerTo_ports (.of_ports (congrArg (·.ports) same))⟩
      rw [same]
      rfl

end Sys2Proof.Machine

namespace Sys2Proof.Machine

/-! ## Openings: what an event of a door changes -/

/-- From the table of `u` an event names persons in zones and makes the configured zones `doubtful` uncertain. -/
structure OccEvent.Amounts (ev : OccEvent) (u : State) (doubtful : Zone → Prop) (cause : Zone → OccCause) (named : Zone → List Person) :
    Prop where
  edits : ev.Edits u
  tells : ev.Tells (fun z => named z ≠ [] ∨ ((u.zones[z]).isSome = true ∧ doubtful z ∧ u.occupancy.uncertain[z] = false)) cause named
  flags : ∀ z : Zone, ev.state.occupancy.uncertain[z] = true ↔
    u.occupancy.uncertain[z] = true ∨ ((u.zones[z]).isSome = true ∧ doubtful z)

namespace OccEvent.Amounts

variable {ev : OccEvent} {u : State} {doubtful : Zone → Prop} {cause : Zone → OccCause} {named : Zone → List Person}

theorem of_eq (h : ev.Amounts u doubtful cause named) {doubtful' : Zone → Prop} {named' : Zone → List Person}
    (zones : ∀ z, doubtful' z ↔ doubtful z) (persons : ∀ z, named' z = named z) : ev.Amounts u doubtful' cause named' := by
  obtain rfl : doubtful' = doubtful := funext fun z => propext (zones z)
  obtain rfl : named' = named := funext persons
  exact h

theorem none (u : State) (cause : Zone → OccCause) : u.occEvent.Amounts u (fun _ => False) cause fun _ => [] where
  edits := .none u
  tells := (Tells.none u cause).of_eq (fun _ => by simp) fun _ => rfl
  flags _ := by simp [State.occEvent]

theorem zones (h : ev.Amounts u doubtful cause named) : ev.state.zones = u.zones := by
  obtain ⟨_, _, e⟩ := h.edits
  rw [e]

/-- R79: an entry leaves. -/
theorem remove (h : ev.Amounts u doubtful cause named) (e : Entry) {k : OccCause} (hk : cause e.zone = k) :
    (ev.remove e k).Amounts u doubtful cause fun y =>
      if y = e.zone then named e.zone ++ [e.person].filter (· ∉ named e.zone) else named y where
  edits := h.edits.remove e k
  tells := by
    refine (h.tells.remove e fun _ => hk).of_eq (fun y => ?_) fun _ => rfl
    by_cases here : y = e.zone
    · have some_ : named e.zone ++ [e.person].filter (· ∉ named e.zone) ≠ [] := by
        by_cases known : e.person ∈ named e.zone
        · exact List.append_ne_nil_of_left_ne_nil (List.ne_nil_of_mem known) _
        · rw [List.filter_cons_of_pos (by simpa using known)]
          exact List.append_ne_nil_of_right_ne_nil _ (List.cons_ne_nil _ _)
      rw [if_pos here]
      exact iff_of_true (.inl some_) (.inr here)
    · rw [if_neg here]
      exact (or_iff_left here).symm
  flags := h.flags

/-- R79: an entry is made. -/
theorem make (h : ev.Amounts u doubtful cause named) (e : Entry) {k : OccCause} (hk : cause e.zone = k) :
    (ev.make e k).Amounts u doubtful cause fun y =>
      if y = e.zone then named e.zone ++ [e.person].filter (· ∉ named e.zone) else named y where
  edits := h.edits.make e k
  tells :=
    have removed := (h.remove e hk).tells
    ⟨removed.distinct, removed.zones, removed.as, removed.empty⟩
  flags := h.flags

/-- R83: a configured zone is made uncertain. -/
theorem uncertain (h : ev.Amounts u doubtful cause named) (z : Zone) {k : OccCause} (hk : cause z = k) :
    (ev.uncertain z k).Amounts u (fun y => doubtful y ∨ y = z) cause named where
  edits := h.edits.uncertain z k
  tells := by
    refine (h.tells.uncertain z fun _ => hk).of_eq (fun y => ?_) fun _ => rfl
    rw [h.zones, or_assoc]
    refine or_congr_right ?_
    by_cases here : y = z
    · subst here
      have flag := h.flags y
      cases after : ev.state.occupancy.uncertain[y] <;> cases before : u.occupancy.uncertain[y] <;> simp_all
    · simp [here]
  flags y := by
    have zones := h.zones
    have flag := h.flags y
    unfold OccEvent.uncertain
    split
    · next no =>
      rw [flag]
      by_cases here : y = z
      · subst here
        rw [zones] at no
        simp only [Bool.or_eq_true, Option.isNone_iff_eq_none, flag] at no
        cases configured : u.zones[y] <;> simp_all
      · simp [here]
    · next yes =>
      have configured : (u.zones[z]).isSome = true := by
        rw [zones] at yes
        cases hz : u.zones[z] <;> simp_all
      by_cases here : y = z
      · subst here
        have set : (ev.state.occupancy.uncertain.put y true)[y] = true := Tab.getElem_put_self _ _ _
        exact iff_of_true set (.inr ⟨configured, .inr rfl⟩)
      · have kept : (ev.state.occupancy.uncertain.put z true)[y] = ev.state.occupancy.uncertain[y] := Tab.getElem_put_of_ne here
        refine (Eq.congr_left kept).trans (flag.trans ?_)
        simp [here]

theorem uncertainOutside (h : ev.Amounts u doubtful cause named) (outside : Option Zone) {k : OccCause} (hk : ∀ z, cause z = k) :
    (ev.uncertainOutside outside k).Amounts u (fun y => doubtful y ∨ outside = some y) cause named := by
  cases outside with
  | none => exact h.of_eq (by simp) fun _ => rfl
  | some z => exact (h.uncertain z (hk z)).of_eq (fun y => by simp [eq_comm]) fun _ => rfl

end OccEvent.Amounts

/-- What follows an event of an opening: places are handed back, and notices of the door. -/
structure Trails (s t : State) (last : List NoticeBody) : Prop where
  frame : ∃ reserved zones ports,
    t = { s with occupancy := { s.occupancy with reserved := reserved }, zones := zones, ports := ports }
  gains : QueuesGain s t last
  apart : ∀ b ∈ last, b.Apart
  zones : ∀ z : Zone, (t.zones[z] = s.zones[z] ∧ t.occupancy.reserved[z] = s.occupancy.reserved[z]) ∨
    t.zones[z] = (s.zones[z]).map fun r => { r with summary := t.summaryOf z }

namespace Trails

theorem refl (s : State) : Trails s s [] :=
  ⟨⟨_, _, _, rfl⟩, .refl s, fun _ h => absurd h List.not_mem_nil, fun _ => .inl ⟨rfl, rfl⟩⟩

theorem notify (s : State) {b : NoticeBody} (apart : b.Apart) : Trails s (s.notify b) [b] := by
  have only := s.notify_only b
  refine ⟨⟨_, _, _, only⟩, s.notify_gains b, fun x hx => ?_, fun z => .inl ⟨by rw [only], by rw [only]⟩⟩
  rw [List.mem_singleton.1 hx]
  exact apart

theorem releasePlaces (s : State) (z : Zone) (n : Nat) : Trails s (s.releasePlaces z n) [] := by
  obtain ⟨t, ht⟩ : ∃ t, t = s.releasePlaces z n := ⟨_, rfl⟩
  have only := s.releasePlaces_eq z n
  rw [← ht] at only ⊢
  refine ⟨⟨_, _, _, only⟩, .of_ports (by rw [only]), fun _ h => absurd h List.not_mem_nil, fun y => ?_⟩
  by_cases here : y = z
  · subst here
    right
    conv_lhs => rw [only]
    exact Tab.getElem_put_self _ _ _
  · left
    constructor
    · conv_lhs => rw [only]
      exact Tab.getElem_put_of_ne here
    · conv_lhs => rw [only]
      exact Tab.getElem_put_of_ne here

variable {s t u : State} {first last : List NoticeBody}

theorem cfg (h : Trails s t first) (z : Zone) : (t.zones[z]).map (·.cfg) = (s.zones[z]).map (·.cfg) := by
  rcases h.zones z with ⟨same, -⟩ | taken
  · rw [same]
  · rw [taken, Option.map_map]
    rfl

theorem same (h : Trails s t first) : LoneSame s t := by
  have cfg := h.cfg
  obtain ⟨_, _, _, rfl⟩ := h.frame
  exact ⟨rfl, rfl, rfl, rfl, cfg⟩

/-- Another notice. -/
theorem told (h : Trails s t first) {b : NoticeBody} (apart : b.Apart) : Trails s (t.notify b) (first ++ [b]) := by
  have only := t.notify_only b
  have time : t.time = s.time := h.same.time
  refine ⟨?_, h.gains.notify time b, fun x hx => ?_, fun z => ?_⟩
  · obtain ⟨_, _, _, rfl⟩ := h.frame
    exact ⟨_, _, _, only⟩
  · rcases List.mem_append.1 hx with hx | hx
    · exact h.apart x hx
    · rw [List.mem_singleton.1 hx]
      exact apart
  · have zones : (t.notify b).zones = t.zones := by rw [only]
    have occupancy : (t.notify b).occupancy = t.occupancy := by rw [only]
    rw [zones, occupancy, State.summaryOf_congr occupancy (by rw [zones])]
    exact h.zones z

end Trails

/-- The record of a door that has been opened, or been found open. -/
structure DoorRec.Opened (w x : DoorRec) (state : DoorState) (opening : Option OpeningKind) (now : Nat) : Prop where
  cfg : w.cfg = x.cfg
  inState : w.state = state
  ofKind : w.openingKind = opening
  grant : w.grant = none
  contact : w.contactOpen = some true
  since : w.openSince = if state = .offline then x.openSince else some now
  withdrawn : w.withdrawnEnd = if opening = some .afterWithdrawal then none else x.withdrawnEnd

theorem DoorRec.Opened.driven {w x : DoorRec} {state : DoorState} {opening : Option OpeningKind} {now : Nat} (h : w.Opened x state opening now)
    (barred : Bool) : (w.driven barred).Opened x state opening now := by
  obtain ⟨l, c, driven⟩ := w.driven_only barred
  rw [driven]
  exact ⟨h.cfg, h.inState, h.ofKind, h.grant, h.contact, h.since, h.withdrawn⟩

/-- Withdrawal orders find nothing to take from an opened door but its pairing record. -/
theorem DoorRec.Opened.follows {w x y : DoorRec} {state : DoorState} {opening : Option OpeningKind} {now : Nat}
    (h : w.Opened x state opening now) (follows : w.Follows y) : y.Opened x state opening now := by
  obtain ⟨p, l, c, rfl⟩ := follows.rest h.grant
  exact ⟨h.cfg, h.inState, h.ofKind, h.grant, h.contact, h.since, h.withdrawn⟩

/-- From `s` to `u` a contact report has put door `d`, whose record is `x`, into the record `w`; `first` are the notices so far. -/
structure Opening (s u : State) (lines : Tab (Option LineRec) 64) (d : Door) (w : DoorRec) (first : List NoticeBody) : Prop where
  frame : ∃ reserved bus ports,
    u = { s with
      lines := lines, doors := s.doors.put d (some w), occupancy := { s.occupancy with reserved := reserved }, bus := bus, ports := ports }
  gains : QueuesGain s u first
  apart : ∀ b ∈ first, b.Apart

theorem Opening.notify {s u : State} {lines : Tab (Option LineRec) 64} {d : Door} {w : DoorRec} {first : List NoticeBody}
    (h : Opening s u lines d w first) {b : NoticeBody} (apart : b.Apart) : Opening s (u.notify b) lines d w (first ++ [b]) := by
  have only := u.notify_only b
  obtain ⟨reserved, bus, ports, frame⟩ := h.frame
  refine ⟨⟨reserved, bus, (u.notify b).ports, by rw [only, frame]⟩, h.gains.notify (by rw [frame]) b, fun x hx => ?_⟩
  rcases List.mem_append.1 hx with hx | hx
  · exact h.apart x hx
  · rw [List.mem_singleton.1 hx]
    exact apart

/-- R37 to R44, R78 to R83, R88, R89, R91: all that an opening gives. -/
theorem Opening.gives {s u t : State} {lines : Tab (Option LineRec) 64} {d : Door} {x w : DoorRec} {first last : List NoticeBody}
    (h : Opening s u lines d w first) {state : DoorState} {opening : Option OpeningKind} (opened : w.Opened x state opening s.nowMs)
    {ev : OccEvent} {doubtful : Zone → Prop} {cause : Zone → OccCause} {named : Zone → List Person} (amounts : ev.Amounts u doubtful cause named)
    {entries : List Entry} (left : ev.state.occupancy.entries = entries)
    (missed : ∀ p, p ∈ ev.removed ↔ s.occupancy.entryOf p ≠ none ∧ ∃ z, p ∈ named z)
    (trails : Trails ev.conclude t last) {told : List NoticeBody} (all : ∀ b ∈ told, b ∈ first ∨ b ∈ last) :
    OpeningGives s t lines d x state opening doubtful entries told cause named := by
  obtain ⟨concludes, bodies, occurs⟩ := amounts.tells.concludes (fun _ => Iff.rfl) fun _ _ => ⟨rfl, rfl⟩
  have flags := amounts.flags
  replace occurs := (amounts.edits.occurs occurs).of_missed missed
  obtain ⟨frame, kept, uncertain⟩ := amounts.edits.concluded concludes
  obtain ⟨v, hv⟩ : ∃ v, v = ev.conclude := ⟨_, rfl⟩
  rw [← hv] at concludes occurs frame kept uncertain trails
  have after := occurs.after trails.gains trails.apart trails.same (by obtain ⟨_, _, _, e⟩ := trails.frame; rw [e])
    (by obtain ⟨_, _, _, e⟩ := trails.frame; rw [e]) (by obtain ⟨_, _, _, e⟩ := trails.frame; rw [e])
    (by obtain ⟨_, _, _, e⟩ := trails.frame; rw [e]) trails.zones
  obtain ⟨reserved, bus, ports, hu⟩ := h.frame
  have here : u.doors[d] = some w := by rw [hu]; exact Tab.getElem_put_self _ _ _
  have here' : ev.state.doors[d] = some w := by
    obtain ⟨_, _, e⟩ := amounts.edits
    rw [e]
    exact here
  obtain ⟨y, hy, follows, -⟩ := concludes.doors d w here'
  obtain ⟨reserved', zones', ports', ht⟩ := trails.frame
  have zonesSame : u.zones = s.zones := by rw [hu]
  have uncertainSame : u.occupancy.uncertain = s.occupancy.uncertain := by rw [hu]
  have final := opened.follows follows
  have all' := after.before h.gains h.apart (by rw [hu]) (by rw [hu]) (by rw [hu]) (by rw [hu]) (by rw [hu])
  rw [zonesSame, uncertainSame] at flags
  rw [zonesSame, uncertainSame] at all'
  refine ⟨?_, ⟨y, ?_, final.cfg, final.inState, final.ofKind, final.grant, final.contact, final.since, final.withdrawn⟩, fun z => ?_, ?_,
    first ++ (bodies ++ last), fun b hb => ?_, all'.gains, all'.changes, all'.warnings, all'.lone, all'.conditions⟩
  · rw [ht, frame, hu]
  · rw [ht]
    exact hy
  · have : t.occupancy.uncertain = ev.state.occupancy.uncertain := by rw [ht]; exact uncertain
    rw [this]
    exact flags z
  · rw [ht, ← left]
    exact kept
  · rcases all b hb with hb | hb
    · exact List.mem_append_left _ hb
    · exact List.mem_append_right _ (List.mem_append_right _ hb)

/-- R49: the notice of an opened door behind its event. -/
theorem Opening.notifyDoor_eq {s u t : State} {lines : Tab (Option LineRec) 64} {d : Door} {x w : DoorRec} {first last : List NoticeBody}
    (h : Opening s u lines d w first) {state : DoorState} {opening : Option OpeningKind} (opened : w.Opened x state opening s.nowMs)
    {ev : OccEvent} {doubtful : Zone → Prop} {cause : Zone → OccCause} {named : Zone → List Person} (amounts : ev.Amounts u doubtful cause named)
    (trails : Trails ev.conclude t last) (previous : DoorState) (why : DoorCause) (grant : Option Grant) :
    t.notifyDoor d previous why grant =
      t.notify (.doorState d state previous why grant (if state = .opened then opening else none)) := by
  obtain ⟨concludes, -⟩ := amounts.tells.concludes (fun _ => Iff.rfl) fun _ _ => ⟨rfl, rfl⟩
  obtain ⟨reserved, bus, ports, hu⟩ := h.frame
  have here : ev.state.doors[d] = some w := by
    obtain ⟨_, _, e⟩ := amounts.edits
    rw [e, hu]
    exact Tab.getElem_put_self _ _ _
  obtain ⟨y, hy, follows, -⟩ := concludes.doors d w here
  have final := opened.follows follows
  have there : t.doors[d] = some y := by
    obtain ⟨_, _, _, e⟩ := trails.frame
    rw [e]
    exact hy
  rw [State.notifyDoor_eq there, final.inState, final.ofKind]

/-- An opening whose notice stands behind its event. -/
theorem Opening.opens {s u : State} {lines : Tab (Option LineRec) 64} {d : Door} {x w : DoorRec} {first : List NoticeBody}
    (h : Opening s u lines d w first) {state : DoorState} {opening : Option OpeningKind} (opened : w.Opened x state opening s.nowMs)
    {ev : OccEvent} {doubtful : Zone → Prop} {cause : Zone → OccCause} {named : Zone → List Person} (amounts : ev.Amounts u doubtful cause named)
    {entries : List Entry} (left : ev.state.occupancy.entries = entries)
    (missed : ∀ p, p ∈ ev.removed ↔ s.occupancy.entryOf p ≠ none ∧ ∃ z, p ∈ named z) (previous : DoorState) (why : DoorCause) :
    OpeningGives s (ev.conclude.notifyDoor d previous why none) lines d x state opening doubtful entries
      [.doorState d state previous why none (if state = .opened then opening else none)] cause named := by
  rw [h.notifyDoor_eq opened amounts (.refl _)]
  refine h.gives opened amounts left missed (.notify _ ⟨rfl, fun _ => rfl⟩) fun b hb => .inr ?_
  exact hb

/-- R47: a door's record has become `w`, and its drive is recomputed. -/
theorem Opening.driven {s v : State} {lines : Tab (Option LineRec) 64} {d : Door} {x w : DoorRec} {first : List NoticeBody} (hx : s.doors[d] = some x)
    (only : v = { s with lines := lines, ports := v.ports }) (gains : QueuesGain s v first) (apart : ∀ b ∈ first, b.Apart)
    {f g : DoorRec → DoorRec} (record : g (f x) = w) (cfg : w.cfg = x.cfg) :
    let u := ((v.updDoor d f).updDoor d g).refreshDrive d
    Opening s u lines d (w.driven (s.bars x.cfg.inside)) first ∧ DoorDrives s u w (s.bars x.cfg.inside) ∧
      u = { s with lines := lines, doors := s.doors.put d (some (w.driven (s.bars x.cfg.inside))), bus := u.bus, ports := v.ports } := by
  intro u
  obtain ⟨y, hy⟩ : ∃ y, y = (v.updDoor d f).updDoor d g := ⟨_, rfl⟩
  obtain ⟨ps, rfl⟩ : ∃ ps, v = { s with lines := lines, ports := ps } := ⟨_, only⟩
  have doors : y.doors = s.doors.put d (some w) := by
    rw [hy]
    simp only [State.updDoor_doors, hx, Option.map_some, Tab.getElem_put_self, Tab.put_put, record]
  obtain ⟨shape, drives⟩ := State.refreshDrive_becomes (s := s) (u := y) (r := x) doors cfg (by rw [hy]; rfl) (by rw [hy]; rfl) (by rw [hy]; rfl)
  have frame : u =
      { s with lines := lines, doors := s.doors.put d (some (w.driven (s.bars x.cfg.inside))), bus := u.bus, ports := ps } := by
    have run : u = y.refreshDrive d := by rw [hy]
    obtain ⟨b, hb⟩ : ∃ b, b = (y.refreshDrive d).bus := ⟨_, rfl⟩
    rw [run, ← hb]
    rw [← hb] at shape
    conv_lhs => rw [shape, hy]
    rfl
  refine ⟨⟨⟨s.occupancy.reserved, u.bus, ps, frame⟩, gains.congr rfl rfl (by rw [frame]), apart⟩, ?_, frame⟩
  have run : u = y.refreshDrive d := by rw [hy]
  rw [run]
  exact drives

/-- R7: a door's record has become `w`, whose drive stays as it is. -/
theorem Opening.still {s v : State} {lines : Tab (Option LineRec) 64} {d : Door} {x : DoorRec} {first : List NoticeBody} (hx : s.doors[d] = some x)
    (only : v = { s with lines := lines, ports := v.ports }) (gains : QueuesGain s v first) (apart : ∀ b ∈ first, b.Apart)
    (f : DoorRec → DoorRec) : Opening s (v.updDoor d f) lines d (f x) first := by
  obtain ⟨ps, rfl⟩ : ∃ ps, v = { s with lines := lines, ports := ps } := ⟨_, only⟩
  refine ⟨⟨s.occupancy.reserved, s.bus, ps, ?_⟩, gains.congr rfl rfl rfl, apart⟩
  rw [State.updDoor, hx]
  rfl

/-! ## A contact line's report -/

/-- R5, R7, R12: the report of a contact line goes to its door, behind the LINE_FAULT it may give. -/
theorem exec_contactScan {s : State} {l : Line} {code : Byte} {r : LineRec} {k : LineClass} {d : Door} (reports : ScanReports s l code r k)
    (role : r.cfg.role = .doorContact d) :
    ∃ v, v = { s with lines := s.linesReported l code r k, ports := v.ports } ∧ QueuesGain s v (lineFaultTold l r k) ∧
      (lineFaultTold l r k = [] → v.ports = s.ports) ∧
      exec (.lineScan l code) s = .next (v.contactReport d r.reported k s.nowMs) := by
  obtain ⟨frame, gains⟩ := State.notifyLineFault_tells { s with lines := s.linesReported l code r k } l r k (by rw [role]; nofun)
  have run := exec_lineScan_reports reports
  obtain ⟨v, hv⟩ : ∃ v, v = State.notifyLineFault { s with lines := s.linesReported l code r k } l r.cfg.role r.reported k := ⟨_, rfl⟩
  dsimp only at run
  rw [← hv] at frame gains run
  refine ⟨v, frame, gains.congr rfl rfl rfl, fun quiet => ?_, ?_⟩
  · rw [quiet] at gains
    exact ports_ext gains
  · rw [role] at run
    exact run

theorem lineFaultTold_apart (l : Line) (r : LineRec) (k : LineClass) : ∀ b ∈ lineFaultTold l r k, b.Apart := by
  intro b hb
  unfold lineFaultTold at hb
  split at hb
  · rw [List.mem_singleton.1 hb]
    exact ⟨rfl, fun _ => rfl⟩
  · exact absurd hb List.not_mem_nil

/-- R8, R38: whether the handle excuses an opening does not change by the report of another line. -/
theorem State.handleExcuses_iff {s v : State} {l : Line} {x : DoorRec} {lr : Option LineRec} (lines : v.lines = s.lines.put l lr)
    (other : x.handleLine ≠ some l) : v.handleExcuses x s.nowMs = true ↔ s.handleExcused x := by
  have read : v.handleClass x = (x.handleLine.bind fun m => s.lines[m]).bind fun r => r.reported := by
    unfold State.handleClass
    cases handle : x.handleLine with
    | none => rfl
    | some m =>
      have : m ≠ l := fun e => other (by rw [handle, e])
      rw [Option.bind_some, Option.bind_some, lines, Tab.getElem_put_of_ne this]
  unfold State.handleExcuses State.handleExcused
  rw [read]
  dsimp only
  generalize ((x.handleLine.bind fun m => s.lines[m]).bind fun r => r.reported) = class_
  rcases class_ with _ | class_
  · simp
  · cases class_ <;> simp [Option.any_eq_true]

end Sys2Proof.Machine

namespace Sys2Proof.Machine

/-! ## Openings without a grant -/

@[simp] theorem OccEvent.uncertain_removed (ev : OccEvent) (z : Zone) (k : OccCause) : (ev.uncertain z k).removed = ev.removed := by
  unfold OccEvent.uncertain
  split <;> rfl

@[simp] theorem OccEvent.uncertainOutside_removed (ev : OccEvent) (outside : Option Zone) (k : OccCause) :
    (ev.uncertainOutside outside k).removed = ev.removed := by
  cases outside with
  | none => rfl
  | some z => exact ev.uncertain_removed z k

theorem OccEvent.uncertainOutside_entries (ev : OccEvent) (outside : Option Zone) (k : OccCause) :
    (ev.uncertainOutside outside k).state.occupancy.entries = ev.state.occupancy.entries := by
  cases outside with
  | none => rfl
  | some z => exact ev.uncertain_entries z k

theorem Opening.entries {s u : State} {lines : Tab (Option LineRec) 64} {d : Door} {w : DoorRec} {first : List NoticeBody}
    (h : Opening s u lines d w first) :
    u.occupancy.entries = s.occupancy.entries ∧ u.occupancy.uncertain = s.occupancy.uncertain ∧ u.zones = s.zones := by
  obtain ⟨_, _, _, frame⟩ := h.frame
  rw [frame]
  exact ⟨rfl, rfl, rfl⟩

/-- R83: nobody is named where zones only become uncertain. -/
theorem nobody_missed (s : State) {removed : List Person} (none_ : removed = []) (p : Person) :
    p ∈ removed ↔ s.occupancy.entryOf p ≠ none ∧ ∃ _ : Zone, p ∈ ([] : List Person) := by
  rw [none_]
  simp

/-- R39: a forced opening's event. -/
theorem State.forcedPassage_amounts (u : State) (cfg : DoorCfg) :
    ∃ ev : OccEvent, u.forcedPassage cfg = ev.conclude ∧ ev.removed = [] ∧ ev.state.occupancy.entries = u.occupancy.entries ∧
      ev.Amounts u (fun y => y = cfg.inside ∨ cfg.outside = some y) (fun _ => .forced) fun _ => [] := by
  refine ⟨(u.occEvent.uncertain cfg.inside .forced).uncertainOutside cfg.outside .forced, rfl, by simp [State.occEvent], ?_, ?_⟩
  · rw [OccEvent.uncertainOutside_entries, OccEvent.uncertain_entries]
    rfl
  · exact (((OccEvent.Amounts.none u _).uncertain cfg.inside rfl).uncertainOutside cfg.outside fun _ => rfl).of_eq (fun _ => by rw [false_or])
      fun _ => rfl

/-- R82: an unidentified exit from a certain zone with one entry. -/
theorem State.unidentifiedExit_alone (u : State) (cfg : DoorCfg) {e : Entry} (alone : u.occupancy.entriesIn cfg.inside = [e])
    (certain : u.occupancy.uncertain[cfg.inside] = false) :
    ∃ ev : OccEvent, u.unidentifiedExit cfg = ev.conclude ∧ ev.removed = [e.person] ∧
      ev.state.occupancy.entries = (u.occupancy.entries.filter fun x => x.person ≠ e.person) ∧
      ev.Amounts u (fun y => cfg.outside = some y) (fun _ => .egress) fun y => if y = cfg.inside then [e.person] else [] := by
  have inside : e.zone = cfg.inside := by
    have mem : e ∈ u.occupancy.entriesIn cfg.inside := by rw [alone]; exact List.mem_singleton_self e
    simpa using (List.mem_filter.1 mem).2
  refine ⟨(u.occEvent.remove e .egress).uncertainOutside cfg.outside .egress, ?_, by simp [OccEvent.remove, State.occEvent], ?_, ?_⟩
  · unfold State.unidentifiedExit
    rw [alone]
    dsimp only
    rw [certain]
    rfl
  · rw [OccEvent.uncertainOutside_entries, OccEvent.remove_entries]
    refine List.filter_congr fun x _ => ?_
    rw [bne, beq_eq_decide, decide_not]
  · refine (((OccEvent.Amounts.none u _).remove e rfl).uncertainOutside cfg.outside fun _ => rfl).of_eq (fun _ => by rw [false_or]) fun y => ?_
    rw [inside]
    rfl

/-- R82: an unidentified exit from any other zone. -/
theorem State.unidentifiedExit_unknown (u : State) (cfg : DoorCfg)
    (unknown : ¬∃ e, u.occupancy.entriesIn cfg.inside = [e] ∧ u.occupancy.uncertain[cfg.inside] = false) :
    ∃ ev : OccEvent, u.unidentifiedExit cfg = ev.conclude ∧ ev.removed = [] ∧ ev.state.occupancy.entries = u.occupancy.entries ∧
      ev.Amounts u (fun y => y = cfg.inside ∨ cfg.outside = some y) (fun _ => .egress) fun _ => [] := by
  refine ⟨(u.occEvent.uncertain cfg.inside .egress).uncertainOutside cfg.outside .egress, ?_, by simp [State.occEvent], ?_, ?_⟩
  · unfold State.unidentifiedExit
    split
    · next e alone =>
      have doubtful : u.occupancy.uncertain[cfg.inside] = true := by
        by_contra certain
        exact unknown ⟨e, alone, by simpa using certain⟩
      rw [doubtful, if_pos rfl]
      have still : u.occEvent.uncertain cfg.inside .egress = u.occEvent := if_pos (by
        show ((u.zones[cfg.inside]).isNone || u.occupancy.uncertain[cfg.inside]) = true
        rw [doubtful, Bool.or_true])
      rw [still]
    · rfl
  · rw [OccEvent.uncertainOutside_entries, OccEvent.uncertain_entries]
    rfl
  · exact (((OccEvent.Amounts.none u _).uncertain cfg.inside rfl).uncertainOutside cfg.outside fun _ => rfl).of_eq (fun _ => by rw [false_or])
      fun _ => rfl

section
variable {s u : State} {lines : Tab (Option LineRec) 64} {d : Door} {x w : DoorRec} {first : List NoticeBody} {state : DoorState}
  {opening : Option OpeningKind}

/-- R38, R82: an opening by the handle. -/
theorem Opening.egress (h : Opening s u lines d w first) (opened : w.Opened x state opening s.nowMs) :
    let t := (u.unidentifiedExit x.cfg).notifyDoor d x.state .egress none
    let told := [NoticeBody.doorState d state x.state .egress none (if state = .opened then opening else none)]
    (∀ e, s.occupancy.entriesIn x.cfg.inside = [e] → s.occupancy.uncertain[x.cfg.inside] = false →
      OpeningGives s t lines d x state opening (fun y => x.cfg.outside = some y)
        (s.occupancy.entries.filter fun y => y.person ≠ e.person) told (fun _ => .egress) fun y =>
          if y = x.cfg.inside then [e.person] else []) ∧
      ((¬∃ e, s.occupancy.entriesIn x.cfg.inside = [e] ∧ s.occupancy.uncertain[x.cfg.inside] = false) →
        OpeningGives s t lines d x state opening (fun y => y = x.cfg.inside ∨ x.cfg.outside = some y) s.occupancy.entries told
          (fun _ => .egress) fun _ => []) := by
  intro t told
  obtain ⟨entries, uncertain, -⟩ := h.entries
  have inside : u.occupancy.entriesIn x.cfg.inside = s.occupancy.entriesIn x.cfg.inside := by simp only [Occupancy.entriesIn, entries]
  refine ⟨fun e alone certain => ?_, fun unknown => ?_⟩
  · obtain ⟨ev, run, removed, left, amounts⟩ := u.unidentifiedExit_alone x.cfg (inside.trans alone) (by rw [uncertain]; exact certain)
    have mem : e ∈ s.occupancy.entries := (List.mem_filter.1 (alone ▸ List.mem_singleton_self e : e ∈ s.occupancy.entriesIn _)).1
    have gives := h.opens opened amounts (left.trans (by rw [entries])) (fun p => ?_) x.state .egress
    · rw [← run] at gives
      exact gives
    · rw [removed, List.mem_singleton]
      constructor
      · rintro rfl
        exact ⟨fun none_ => Occupancy.entryOf_eq_none.1 none_ e mem rfl, x.cfg.inside, by rw [if_pos rfl]; exact List.mem_singleton_self _⟩
      · rintro ⟨-, z, hz⟩
        split at hz
        · exact List.mem_singleton.1 hz
        · exact absurd hz List.not_mem_nil
  · obtain ⟨ev, run, removed, left, amounts⟩ := u.unidentifiedExit_unknown x.cfg (by rw [inside, uncertain]; exact unknown)
    have gives := h.opens opened amounts (left.trans entries) (nobody_missed s removed) x.state .egress
    rw [← run] at gives
    exact gives

/-- R39: a forced opening. -/
theorem Opening.forced (h : Opening s u lines d w first) (opened : w.Opened x state opening s.nowMs) :
    OpeningGives s ((u.forcedPassage x.cfg).notifyDoor d x.state .forced none) lines d x state opening
      (fun y => y = x.cfg.inside ∨ x.cfg.outside = some y) s.occupancy.entries
      [.doorState d state x.state .forced none (if state = .opened then opening else none)] (fun _ => .forced) fun _ => [] := by
  obtain ⟨entries, -, -⟩ := h.entries
  obtain ⟨ev, run, removed, left, amounts⟩ := u.forcedPassage_amounts x.cfg
  have gives := h.opens opened amounts (left.trans entries) (nobody_missed s removed) x.state .forced
  rw [← run] at gives
  exact gives

/-- R41: an opening after a withdrawal. -/
theorem Opening.afterWithdrawal (h : Opening s u lines d w first) (opened : w.Opened x state opening s.nowMs) :
    OpeningGives s ((u.entryAfterWithdrawal x.cfg).notifyDoor d x.state .afterWithdrawal none) lines d x state opening
      (· = x.cfg.inside) s.occupancy.entries
      [.doorState d state x.state .afterWithdrawal none (if state = .opened then opening else none)] (fun _ => .afterWithdrawal)
      fun _ => [] := by
  obtain ⟨entries, -, -⟩ := h.entries
  have amounts := ((OccEvent.Amounts.none u fun _ => .afterWithdrawal).uncertain x.cfg.inside rfl).of_eq (doubtful' := (· = x.cfg.inside))
    (fun _ => by rw [false_or]) fun _ => rfl
  exact h.opens opened amounts ((OccEvent.uncertain_entries _ _ _).trans entries) (nobody_missed s (OccEvent.uncertain_removed _ _ _)) x.state
    .afterWithdrawal

end

end Sys2Proof.Machine

namespace Sys2Proof.Machine

/-! ## Openings under a grant -/

/-- R80: fresh entries of distinct persons stand behind the entries of the others. -/
theorem enterAll_distinct (entries news : List Entry) (distinct : (news.map (·.person)).Nodup) :
    enterAll entries news = (entries.filter fun e => ∀ n ∈ news, n.person ≠ e.person) ++ news := by
  induction news generalizing entries with
  | nil => simp [enterAll]
  | cons n news ih =>
    rw [List.map_cons, List.nodup_cons] at distinct
    obtain ⟨apart, distinct⟩ := distinct
    have step : enterAll entries (n :: news) = enterAll (entries.filter (·.person != n.person) ++ [n]) news := rfl
    have kept : ([n].filter fun e => ∀ m ∈ news, m.person ≠ e.person) = [n] :=
      List.filter_cons_of_pos (decide_eq_true fun m hm same => apart (same ▸ List.mem_map_of_mem hm))
    rw [step, ih _ distinct, List.filter_append, kept, List.append_assoc, List.filter_filter]
    congr 1
    refine List.filter_congr fun e _ => ?_
    by_cases same : e.person = n.person
    · simp [same]
    · simp [same, Ne.symm same]

/-- R80: the place of a person in a commit: the inside zone, and where an earlier entry of the person lies. -/
def State.seatedIn (u : State) (z : Zone) (p : Person) (y : Zone) : Prop := y = z ∨ ∃ e, u.occupancy.entryOf p = some e ∧ e.zone = y

/-- R80: a zone that a commit makes uncertain: one that a person leaves by another way than through the door. -/
def State.leftBehind (u : State) (cfg : DoorCfg) (p : Person) (y : Zone) : Prop :=
  ∃ e, u.occupancy.entryOf p = some e ∧ e.zone = y ∧ y ≠ cfg.inside ∧ ¬cfg.outside = some y

def seatCause (z y : Zone) : OccCause := if y = z then .entry else .moved

open Classical in
/-- R80: the commit of one person. -/
theorem OccEvent.Amounts.commitPerson {ev : OccEvent} {u : State} {doubtful : Zone → Prop} {named : Zone → List Person} {cfg : DoorCfg}
    (h : ev.Amounts u doubtful (seatCause cfg.inside) named) (d : Door) (persons : List GrantPerson) {g : GrantPerson}
    (unseen : ev.state.occupancy.entryOf g.person = u.occupancy.entryOf g.person) (fresh : ∀ y, g.person ∉ named y) :
    (ev.commitPerson d cfg persons g).Amounts u (fun y => doubtful y ∨ u.leftBehind cfg g.person y) (seatCause cfg.inside) (fun y =>
        named y ++ if u.seatedIn cfg.inside g.person y then [g.person] else []) ∧
      ∀ p, p ∈ (ev.commitPerson d cfg persons g).removed ↔ p ∈ ev.removed ∨ (p = g.person ∧ u.occupancy.entryOf p ≠ Option.none) := by
  have inside : seatCause cfg.inside cfg.inside = .entry := if_pos rfl
  have new (y : Zone) : [g.person].filter (· ∉ named y) = [g.person] := List.filter_cons_of_pos (by simpa using fresh y)
  cases found : u.occupancy.entryOf g.person with
  | none =>
    rw [found] at unseen
    have run : ev.commitPerson d cfg persons g = ev.make (ev.state.commitEntry d cfg persons g) .entry := by
      simp only [OccEvent.commitPerson, unseen]
    rw [run]
    refine ⟨(h.make (ev.state.commitEntry d cfg persons g) inside).of_eq (fun y => ?_) fun y => ?_, fun p => ?_⟩
    · simp [State.leftBehind, found]
    · have zone : (ev.state.commitEntry d cfg persons g).zone = cfg.inside := rfl
      have person : (ev.state.commitEntry d cfg persons g).person = g.person := rfl
      rw [zone, person, new]
      by_cases here : y = cfg.inside
      · rw [if_pos here, if_pos (.inl here), here]
      · rw [if_neg here, if_neg (by simp [State.seatedIn, here, found]), List.append_nil]
    · refine (or_iff_left ?_).symm
      rintro ⟨rfl, some_⟩
      exact some_ found
  | some e =>
    rw [found] at unseen
    obtain person := Occupancy.entryOf_person found
    have gone (k : OccCause) (p : Person) : p ∈ (ev.remove e k).removed ↔
        p ∈ ev.removed ∨ (p = g.person ∧ u.occupancy.entryOf p ≠ Option.none) := by
      rw [OccEvent.remove, List.mem_append, List.mem_singleton, person]
      refine or_congr_right ⟨fun h => ⟨h, ?_⟩, And.left⟩
      rw [h, found]
      nofun
    by_cases within : e.zone = cfg.inside
    · have run : ev.commitPerson d cfg persons g =
          (ev.remove e .entry).make ((ev.remove e .entry).state.commitEntry d cfg persons g) .entry := by
        simp only [OccEvent.commitPerson, unseen, if_pos within]
      rw [run]
      refine ⟨((h.remove e (within ▸ inside)).make _ inside).of_eq (fun y => ?_) fun y => ?_, gone .entry⟩
      · refine or_iff_left ?_
        rintro ⟨x, hx, here, other, -⟩
        rw [found] at hx
        rw [← Option.some.inj hx, within] at here
        exact other here.symm
      · have zone : ((ev.remove e .entry).state.commitEntry d cfg persons g).zone = cfg.inside := rfl
        have person' : ((ev.remove e .entry).state.commitEntry d cfg persons g).person = g.person := rfl
        rw [zone, person', within, if_pos rfl, person, new, List.filter_cons_of_neg (by simp), List.filter_nil, List.append_nil]
        by_cases here : y = cfg.inside
        · rw [if_pos here, if_pos (.inl here), here]
        · have elsewhere : ¬u.seatedIn cfg.inside g.person y := by
            rintro (e' | ⟨x, hx, at_⟩)
            · exact here e'
            · rw [found] at hx
              rw [← Option.some.inj hx, within] at at_
              exact here at_.symm
          rw [if_neg here, if_neg here, if_neg elsewhere, List.append_nil]
    · have away : seatCause cfg.inside e.zone = .moved := if_neg within
      have left := h.remove e away
      obtain ⟨last, run, moved, removed⟩ : ∃ last : OccEvent,
          ev.commitPerson d cfg persons g = last.make (last.state.commitEntry d cfg persons g) .entry ∧
          last.Amounts u (fun y => doubtful y ∨ u.leftBehind cfg g.person y) (seatCause cfg.inside)
            (fun y => if y = e.zone then named e.zone ++ [e.person].filter (· ∉ named e.zone) else named y) ∧
          last.removed = (ev.remove e .moved).removed := by
        have behind (y : Zone) : u.leftBehind cfg g.person y ↔ y = e.zone ∧ ¬cfg.outside = some e.zone := by
          unfold State.leftBehind
          rw [found]
          constructor
          · rintro ⟨x, hx, rfl, -, other⟩
            obtain rfl := Option.some.inj hx
            exact ⟨rfl, other⟩
          · rintro ⟨rfl, other⟩
            exact ⟨e, rfl, rfl, within, other⟩
        by_cases outside : cfg.outside = some e.zone
        · refine ⟨ev.remove e .moved, ?_, left.of_eq (fun y => ?_) fun _ => rfl, rfl⟩
          · simp only [OccEvent.commitPerson, unseen, if_neg within, if_pos outside]
          · rw [behind]
            exact or_iff_left fun h => h.2 outside
        · refine ⟨(ev.remove e .moved).uncertain e.zone .moved, ?_, (left.uncertain e.zone away).of_eq (fun y => ?_) fun _ => rfl,
            OccEvent.uncertain_removed _ _ _⟩
          · simp only [OccEvent.commitPerson, unseen, if_neg within, if_neg outside]
          · rw [behind]
            exact or_congr_right (and_iff_left outside)
      rw [run]
      refine ⟨(moved.make _ inside).of_eq (fun _ => Iff.rfl) fun y => ?_, fun p => ?_⟩
      · have zone : (last.state.commitEntry d cfg persons g).zone = cfg.inside := rfl
        have person' : (last.state.commitEntry d cfg persons g).person = g.person := rfl
        have apart : ¬cfg.inside = e.zone := fun h => within h.symm
        rw [zone, person', person]
        simp only [if_neg apart, new]
        by_cases here : y = cfg.inside
        · rw [if_pos here, if_pos (.inl here), here]
        · rw [if_neg here]
          by_cases there : y = e.zone
          · rw [if_pos there, if_pos (.inr ⟨e, found, there.symm⟩), there]
          · have elsewhere : ¬u.seatedIn cfg.inside g.person y := by
              rintro (e' | ⟨x, hx, at_⟩)
              · exact here e'
              · rw [found] at hx
                rw [← Option.some.inj hx] at at_
                exact there at_.symm
            rw [if_neg there, if_neg elsewhere, List.append_nil]
      · exact (iff_of_eq (congrArg (p ∈ ·) removed)).trans (gone .moved p)

/-- R80: the persons of a commit whom a zone's notice names. -/
def State.seatNamed (u : State) (z : Zone) (l : List GrantPerson) (y : Zone) : List Person :=
  (l.map (·.person)).filter fun p => y = z ∨ ∃ e, u.occupancy.entryOf p = some e ∧ e.zone = y

theorem State.seatNamed_append (u : State) (z : Zone) (l : List GrantPerson) (g : GrantPerson) (y : Zone) :
    u.seatNamed z (l ++ [g]) y = u.seatNamed z l y ++ (open Classical in if u.seatedIn z g.person y then [g.person] else []) := by
  classical
  unfold State.seatNamed
  rw [List.map_append, List.filter_append]
  congr 1
  by_cases h : u.seatedIn z g.person y
  · rw [if_pos h]
    exact List.filter_cons_of_pos (decide_eq_true h)
  · rw [if_neg h]
    exact List.filter_cons_of_neg (by simpa [State.seatedIn] using h)

/-- R80: the commit of one person leaves the entries of the others. -/
theorem OccEvent.commitPerson_entryOf (ev : OccEvent) (d : Door) (cfg : DoorCfg) (persons : List GrantPerson) (g : GrantPerson) {p : Person}
    (other : p ≠ g.person) : (ev.commitPerson d cfg persons g).state.occupancy.entryOf p = ev.state.occupancy.entryOf p := by
  have person : (ev.state.commitEntry d cfg persons g).person = g.person := rfl
  unfold Occupancy.entryOf
  rw [OccEvent.commitPerson_entries, List.find?_append, List.find?_cons_of_neg (by simpa [person] using Ne.symm other), List.find?_nil,
    Option.or_none, List.find?_filter]
  congr 1
  funext e
  by_cases h : e.person = p <;> simp [h, other]

/-- R80: the commit of the persons of a grant, one after another. -/
theorem OccEvent.Amounts.commitAll {u : State} {cfg : DoorCfg} (d : Door) (persons rest : List GrantPerson) (done : List GrantPerson) (ev : OccEvent)
    (h : ev.Amounts u (fun y => ∃ a ∈ done, u.leftBehind cfg a.person y) (seatCause cfg.inside) (u.seatNamed cfg.inside done))
    (removed : ∀ p, p ∈ ev.removed ↔ p ∈ done.map (·.person) ∧ u.occupancy.entryOf p ≠ Option.none)
    (unseen : ∀ a ∈ rest, ev.state.occupancy.entryOf a.person = u.occupancy.entryOf a.person)
    (distinct : ((done ++ rest).map (·.person)).Nodup) :
    let last := rest.foldl (fun ev p => ev.commitPerson d cfg persons p) ev
    last.Amounts u (fun y => ∃ a ∈ done ++ rest, u.leftBehind cfg a.person y) (seatCause cfg.inside) (u.seatNamed cfg.inside (done ++ rest)) ∧
      ∀ p, p ∈ last.removed ↔ p ∈ (done ++ rest).map (·.person) ∧ u.occupancy.entryOf p ≠ Option.none := by
  induction rest generalizing done ev with
  | nil =>
    rw [List.append_nil]
    exact ⟨h, removed⟩
  | cons g rest ih =>
    have apart : g.person ∉ done.map (·.person) ∧ ∀ a ∈ rest, a.person ≠ g.person := by
      rw [List.map_append, List.map_cons, List.nodup_append, List.nodup_cons] at distinct
      obtain ⟨-, ⟨behind, -⟩, front⟩ := distinct
      exact ⟨fun mem => front _ mem _ List.mem_cons_self rfl, fun a ha same => behind (same ▸ List.mem_map_of_mem ha)⟩
    obtain ⟨front, behind⟩ := apart
    have fresh (y : Zone) : g.person ∉ u.seatNamed cfg.inside done y := fun mem => front (List.mem_of_mem_filter mem)
    obtain ⟨amounts, gone⟩ := h.commitPerson d persons (unseen g List.mem_cons_self) fresh
    rw [List.append_cons] at distinct ⊢
    refine ih (done ++ [g]) (ev.commitPerson d cfg persons g) (amounts.of_eq (fun y => ?_) fun y => ?_) (fun p => ?_) (fun a ha => ?_) distinct
    · simp only [List.mem_append, List.mem_singleton, or_and_right, exists_or, exists_eq_left]
    · exact u.seatNamed_append cfg.inside done g y
    · rw [gone, removed, List.map_append, List.mem_append, List.map_singleton, List.mem_singleton, or_and_right]
    · rw [OccEvent.commitPerson_entryOf ev d cfg persons g (behind a ha)]
      exact unseen a (List.mem_cons_of_mem _ ha)

end Sys2Proof.Machine

namespace Sys2Proof.Machine

/-! ## What each kind of grant gives at an opening -/

section
variable {s u : State} {lines : Tab (Option LineRec) 64} {d : Door} {x w : DoorRec} {first : List NoticeBody} {state : DoorState}
  {opening : Option OpeningKind}

/-- R81, R83: a COMMAND grant. -/
theorem Opening.command (h : Opening s u lines d w first) (opened : w.Opened x state opening s.nowMs) {g : Grant} (kind : g.kind = .command) :
    OpeningGives s ((u.commitGrant d x.cfg g).releaseUnused x.cfg.inside g) lines d x state opening
      (fun y => y = x.cfg.inside ∨ x.cfg.outside = some y) s.occupancy.entries first (fun _ => .commandOpening) fun _ => [] := by
  obtain ⟨entries, -, -⟩ := h.entries
  have amounts := (((OccEvent.Amounts.none u fun _ => .commandOpening).uncertain x.cfg.inside rfl).uncertainOutside x.cfg.outside
    fun _ => rfl).of_eq (doubtful' := fun y => y = x.cfg.inside ∨ x.cfg.outside = some y) (fun _ => by rw [false_or]) fun _ => rfl
  have gives := h.gives opened amounts (entries := s.occupancy.entries) ?_ (nobody_missed s (by simp [State.occEvent]))
    (.releasePlaces _ x.cfg.inside g.places) (told := first) fun b hb => .inl hb
  · simp only [State.commitGrant, State.releaseUnused, kind]
    exact gives
  · rw [OccEvent.uncertainOutside_entries, OccEvent.uncertain_entries]
    exact entries

/-- R81, R83: a RESPONSE grant for nobody. -/
theorem Opening.response (h : Opening s u lines d w first) (opened : w.Opened x state opening s.nowMs) {g : Grant} (kind : g.kind = .response)
    (empty : g.persons = []) :
    OpeningGives s ((u.commitGrant d x.cfg g).releaseUnused x.cfg.inside g) lines d x state opening (· = x.cfg.inside) s.occupancy.entries
      first (fun _ => .responseOpening) fun _ => [] := by
  obtain ⟨entries, -, -⟩ := h.entries
  have amounts := ((OccEvent.Amounts.none u fun _ => .responseOpening).uncertain x.cfg.inside rfl).of_eq (doubtful' := (· = x.cfg.inside))
    (fun _ => by rw [false_or]) fun _ => rfl
  have gives := h.gives opened amounts ((OccEvent.uncertain_entries _ _ _).trans entries)
    (nobody_missed s (OccEvent.uncertain_removed _ _ _)) (.releasePlaces _ x.cfg.inside g.places) (told := first) fun b hb => .inl hb
  simp only [State.commitGrant, State.releaseUnused, kind, empty]
  exact gives

/-- R81: the notice of an EXIT grant of a person who is not listed in the inside zone. -/
def State.exitTold (s : State) (d : Door) (z : Zone) (p : Person) : List NoticeBody :=
  match s.occupancy.entryOf p with
  | none => [.exitUnlisted d p]
  | some e => if e.zone = z then [] else [.exitMismatch d p z e.zone]

/-- R81: an EXIT grant of a person. -/
theorem Opening.exit (h : Opening s u lines d w first) (opened : w.Opened x state opening s.nowMs) {g : Grant} {a : GrantPerson}
    (kind : g.kind = .exit) (alone : g.persons = [a]) :
    OpeningGives s ((u.commitGrant d x.cfg g).releaseUnused x.cfg.inside g) lines d x state opening (fun y => x.cfg.outside = some y)
      (s.occupancy.entries.filter fun e => e.person ≠ a.person) (first ++ s.exitTold d x.cfg.inside a.person) (fun _ => .exit)
      fun y => [a.person].filter fun p => ∃ e, s.occupancy.entryOf p = some e ∧ e.zone = y := by
  obtain ⟨entries, -, -⟩ := h.entries
  have entryOf : u.occupancy.entryOf a.person = s.occupancy.entryOf a.person := by simp only [Occupancy.entryOf, entries]
  have filtered (l : List Entry) : (l.filter fun e => e.person ≠ a.person) = l.filter (·.person != a.person) :=
    List.filter_congr fun e _ => by rw [bne, beq_eq_decide, decide_not]
  have run : (u.commitGrant d x.cfg g).releaseUnused x.cfg.inside g = (u.commitExit d x.cfg a.person).releasePlaces x.cfg.inside g.places := by
    simp only [State.commitGrant, State.releaseUnused, kind, alone]
  rw [run, filtered]
  unfold State.exitTold
  cases found : s.occupancy.entryOf a.person with
  | none =>
    have amounts := (OccEvent.Amounts.none (u.notify (.exitUnlisted d a.person)) fun _ => .exit).uncertainOutside x.cfg.outside fun _ => rfl
    have nobody (y : Zone) : ([a.person].filter fun p => ∃ e, s.occupancy.entryOf p = some e ∧ e.zone = y) = [] :=
      List.filter_cons_of_neg (by simp [found])
    have run : u.commitExit d x.cfg a.person =
        ((u.notify (.exitUnlisted d a.person)).occEvent.uncertainOutside x.cfg.outside .exit).conclude := by
      simp only [State.commitExit, entryOf, found]
    simp only [nobody]
    rw [run]
    refine (h.notify ⟨rfl, fun _ => rfl⟩).gives opened (amounts.of_eq (fun _ => by rw [false_or]) fun _ => rfl) ?_
      (nobody_missed s (OccEvent.uncertainOutside_removed _ _ _)) (.releasePlaces _ x.cfg.inside g.places) fun b hb => .inl hb
    rw [OccEvent.uncertainOutside_entries, Occupancy.filter_of_entryOf_none found, ← entries, State.notify_only]
    rfl
  | some e =>
    have person := Occupancy.entryOf_person found
    obtain ⟨v, hv, next⟩ : ∃ v, u.commitExit d x.cfg a.person = ((v.occEvent.remove e .exit).uncertainOutside x.cfg.outside .exit).conclude ∧
        Opening s v lines d w (first ++ if e.zone = x.cfg.inside then [] else [.exitMismatch d a.person x.cfg.inside e.zone]) := by
      by_cases within : e.zone = x.cfg.inside
      · refine ⟨u, ?_, ?_⟩
        · simp only [State.commitExit, entryOf, found, if_pos within]
        · rw [if_pos within, List.append_nil]
          exact h
      · refine ⟨u.notify (.exitMismatch d a.person x.cfg.inside e.zone), ?_, ?_⟩
        · simp only [State.commitExit, entryOf, found, if_neg within]
        · rw [if_neg within]
          exact h.notify ⟨rfl, fun _ => rfl⟩
    have amounts := ((OccEvent.Amounts.none v fun _ => .exit).remove e rfl).uncertainOutside x.cfg.outside fun _ => rfl
    rw [hv]
    refine next.gives opened (amounts.of_eq (fun _ => by rw [false_or]) fun y => ?_) ?_ (fun p => ?_)
      (.releasePlaces _ x.cfg.inside g.places) fun b hb => .inl hb
    · rw [person]
      by_cases here : y = e.zone
      · rw [if_pos here]
        exact List.filter_cons_of_pos (decide_eq_true ⟨e, found, here.symm⟩)
      · rw [if_neg here]
        exact List.filter_cons_of_neg (by simp [found, Ne.symm here])
    · rw [OccEvent.uncertainOutside_entries, OccEvent.remove_entries, person, ← next.entries.1]
      rfl
    · rw [OccEvent.uncertainOutside_removed, OccEvent.remove, person]
      simp only [State.occEvent, List.nil_append, List.mem_filter, List.mem_singleton, decide_eq_true_eq]
      constructor
      · rintro rfl
        exact ⟨by rw [found]; nofun, e.zone, rfl, e, found, rfl⟩
      · rintro ⟨-, _, same, -⟩
        exact same

/-- R80: an entry that a commit makes. -/
theorem Opening.commitEntry_eq (h : Opening s u lines d w first) (cfg : DoorCfg) (persons : List GrantPerson) (a : GrantPerson) :
    u.commitEntry d cfg persons a =
      { person := a.person, zone := cfg.inside, door := some d, time := s.nowSec, weight := cfg.weight,
        partner := (persons.find? fun c => c.person ≠ a.person).map (·.person),
        deadline := if s.schedules.modes[cfg.inside] = .after then some (s.nowSec + s.checkinPeriod cfg.inside) else none,
        duress := a.duress, deleted := (s.personAt a.person).isNone } := by
  obtain ⟨_, _, _, frame⟩ := h.frame
  have partner : partnerOf persons a.person = (persons.find? fun c => c.person ≠ a.person).map (·.person) := by
    unfold partnerOf
    congr 2
    funext c
    rw [bne, beq_eq_decide, decide_not]
  rw [State.commitEntry, partner, frame]
  rfl

/-- R80: the table changes of an ENTRY grant, or of a RESPONSE grant with persons, whose places are freed first. -/
theorem Opening.seatEvent (h : Opening s u lines d w first) (cfg : DoorCfg) (g : Grant)
    (distinct : g.persons.Pairwise fun a b => a.person ≠ b.person) :
    ∃ v, Opening s v lines d w first ∧
      v.occupancy.reserved = u.occupancy.reserved.put cfg.inside (u.occupancy.reserved[cfg.inside] - g.places) ∧ v.bus = u.bus ∧
      (u.seatEvent d cfg g).Amounts v (fun y => ∃ a ∈ g.persons, s.leftBehind cfg a.person y) (seatCause cfg.inside)
        (s.seatNamed cfg.inside g.persons) ∧
      ∀ p, p ∈ (u.seatEvent d cfg g).removed ↔ p ∈ g.persons.map (·.person) ∧ s.occupancy.entryOf p ≠ none := by
  obtain ⟨reserved, bus, ports, frame⟩ := h.frame
  obtain ⟨v, hv⟩ : ∃ v, v = u.updOccupancy fun o => { o with reserved := o.reserved.put cfg.inside (o.reserved[cfg.inside] - g.places) } :=
    ⟨_, rfl⟩
  have entryOf (p : Person) : v.occupancy.entryOf p = s.occupancy.entryOf p := by rw [hv, frame]; rfl
  have named (l : List GrantPerson) (y : Zone) : v.seatNamed cfg.inside l y = s.seatNamed cfg.inside l y := by
    simp only [State.seatNamed, entryOf]
  have behind (p : Person) (y : Zone) : v.leftBehind cfg p y ↔ s.leftBehind cfg p y := by simp only [State.leftBehind, entryOf]
  have start := (OccEvent.Amounts.none v (seatCause cfg.inside)).of_eq (doubtful' := fun y => ∃ a ∈ ([] : List GrantPerson),
      v.leftBehind cfg a.person y)
    (named' := v.seatNamed cfg.inside []) (by simp) fun _ => rfl
  obtain ⟨amounts, gone⟩ := start.commitAll d g.persons g.persons [] v.occEvent (by simp [State.occEvent]) (fun _ _ => rfl)
    (by rwa [List.nil_append, List.Nodup, List.pairwise_map])
  have run : u.seatEvent d cfg g = g.persons.foldl (fun ev p => ev.commitPerson d cfg g.persons p) v.occEvent := by rw [hv]; rfl
  rw [← run, List.nil_append] at amounts
  refine ⟨v, ⟨⟨_, bus, ports, by rw [hv, frame]; rfl⟩, h.gains.congr rfl rfl (by rw [hv]; rfl), h.apart⟩, by rw [hv]; rfl, by rw [hv]; rfl,
    amounts.of_eq (fun y => ?_) fun y => (named _ y).symm, fun p => ?_⟩
  · simp only [behind]
  · rw [← entryOf, run]
    exact gone p

theorem State.commit_of_seats (u : State) (d : Door) (cfg : DoorCfg) {g : Grant} (seats : g.seats) :
    (u.commitGrant d cfg g).releaseUnused cfg.inside g = (u.seatEvent d cfg g).conclude := by
  rw [State.releaseUnused_of_seats _ _ seats, State.commitGrant_of_seats _ _ _ seats]

/-- R80: an ENTRY grant, or a RESPONSE grant with persons. -/
theorem Opening.seats (h : Opening s u lines d w first) (opened : w.Opened x state opening s.nowMs) {g : Grant} (seats : g.seats)
    (distinct : g.persons.Pairwise fun a b => a.person ≠ b.person) :
    let z := x.cfg.inside
    OpeningGives s ((u.commitGrant d x.cfg g).releaseUnused z g) lines d x state opening
      (fun y => ∃ a ∈ g.persons, ∃ e, s.occupancy.entryOf a.person = some e ∧ e.zone = y ∧ y ≠ z ∧ ¬x.cfg.outside = some y)
      ((s.occupancy.entries.filter fun e => ∀ a ∈ g.persons, a.person ≠ e.person) ++ g.persons.map fun a =>
        { person := a.person, zone := z, door := some d, time := s.nowSec, weight := x.cfg.weight,
          partner := (g.persons.find? fun c => c.person ≠ a.person).map (·.person),
          deadline := if s.schedules.modes[z] = .after then some (s.nowSec + s.checkinPeriod z) else none,
          duress := a.duress, deleted := (s.personAt a.person).isNone })
      first (fun y => if y = z then .entry else .moved)
      fun y => (g.persons.map fun a => a.person).filter fun p => y = z ∨ ∃ e, s.occupancy.entryOf p = some e ∧ e.zone = y := by
  intro z
  obtain ⟨entries, -, -⟩ := h.entries
  obtain ⟨v, next, -, -, amounts, gone⟩ := h.seatEvent x.cfg g distinct
  rw [u.commit_of_seats d x.cfg seats]
  have nodup : ((g.persons.map (u.commitEntry d x.cfg g.persons)).map (·.person)).Nodup := by
    rw [List.map_map]
    exact List.pairwise_map.2 distinct
  refine next.gives opened amounts ?_ (fun p => ?_) (.refl _) fun b hb => .inl hb
  · rw [State.seatEvent_entries, enterAll_distinct _ _ nodup, entries]
    congr 1
    · refine List.filter_congr fun e _ => ?_
      simp only [List.forall_mem_map]
      rfl
    · exact List.map_congr_left fun a _ => h.commitEntry_eq x.cfg g.persons a
  · rw [gone, and_comm]
    refine and_congr_right fun _ => ⟨fun mem => ⟨x.cfg.inside, List.mem_filter.2 ⟨mem, decide_eq_true (.inl rfl)⟩⟩, ?_⟩
    rintro ⟨y, mem⟩
    exact List.mem_of_mem_filter mem

/-- R80: a commit into a zone that bars nobody, of persons who are listed nowhere. -/
theorem Opening.seats_fresh (h : Opening s u lines d w first) {g : Grant} (seats : g.seats)
    (distinct : g.persons.Pairwise fun a b => a.person ≠ b.person) (cfg : DoorCfg) (free : s.bars cfg.inside = false)
    (fresh : ∀ a ∈ g.persons, s.occupancy.entryOf a.person = none) :
    let t := (u.commitGrant d cfg g).releaseUnused cfg.inside g
    t.doors = s.doors.put d (some w) ∧ t.bus = u.bus ∧
      t.occupancy.reserved = u.occupancy.reserved.put cfg.inside (u.occupancy.reserved[cfg.inside] - g.places) ∧
      t.occupancy.uncertain = s.occupancy.uncertain := by
  intro t
  obtain ⟨v, next, reserved, bus, amounts, -⟩ := h.seatEvent cfg g distinct
  obtain ⟨r, b, ps, frame⟩ := next.frame
  obtain ⟨concludes, -⟩ := amounts.tells.concludes (fun _ => Iff.rfl) fun _ _ => ⟨rfl, rfl⟩
  obtain ⟨-, -, uncertain⟩ := amounts.edits.concluded concludes
  have flags := amounts.flags
  have inside (y : Zone) (named : s.seatNamed cfg.inside g.persons y ≠ []) : y = cfg.inside := by
    obtain ⟨p, mem⟩ := List.exists_mem_of_ne_nil _ named
    obtain ⟨listed, seated⟩ := List.mem_filter.1 mem
    obtain ⟨a, ha, rfl⟩ := List.mem_map.1 listed
    simpa [fresh a ha] using seated
  have certain (y : Zone) : ¬∃ a ∈ g.persons, s.leftBehind cfg a.person y := by
    rintro ⟨a, ha, e, found, -⟩
    rw [fresh a ha] at found
    exact absurd found (by nofun)
  obtain ⟨entries', uncertain', edited⟩ := amounts.edits
  have zones : (u.seatEvent d cfg g).state.zones = s.zones := by rw [edited, frame]
  obtain ⟨doors, bus', reserved'⟩ := concludes.unbarred fun c hc => by
    rw [State.bars, zones, (show c.zone = cfg.inside from ?_)]
    · exact free
    rcases (amounts.tells.zones c.zone).2 ⟨c, hc, rfl⟩ with named | ⟨-, doubtful, -⟩
    · exact inside _ named
    · exact absurd doubtful (certain _)
  have run : t = (u.seatEvent d cfg g).conclude := u.commit_of_seats d cfg seats
  rw [run]
  refine ⟨?_, ?_, ?_, ?_⟩
  · rw [doors, edited, frame]
  · rw [bus', edited, ← bus]
  · rw [reserved', edited, ← reserved]
  · rw [uncertain]
    ext y hy
    have := flags ⟨y, hy⟩
    rw [or_iff_left fun both => certain _ both.2] at this
    have same : v.occupancy.uncertain = s.occupancy.uncertain := by rw [frame]
    rw [same] at this
    exact Bool.eq_iff_iff.2 this

end

end Sys2Proof.Machine

namespace Sys2Proof.Machine

/-! ## Contact reports -/

/-- From `s` to `v` a line has been reported, which gave the notices `first`, and the report has yet to reach its door. -/
structure Reported (s v : State) (lines : Tab (Option LineRec) 64) (first : List NoticeBody) : Prop where
  only : v = { s with lines := lines, ports := v.ports }
  gains : QueuesGain s v first
  apart : ∀ b ∈ first, b.Apart

theorem State.doorModuleOnline_iff (s : State) (x : DoorRec) :
    s.doorModuleOnline x = true ↔ ∃ m y, x.module = some m ∧ s.bus.modules[m] = some y ∧ y.online = true := by
  unfold State.doorModuleOnline
  cases x.module with
  | none => simp
  | some m => simp [Option.any_eq_true]

section
variable {s v : State} {lines : Tab (Option LineRec) 64} {first : List NoticeBody} {d : Door} {x : DoorRec}

namespace Reported

theorem door (h : Reported s v lines first) (hx : s.doors[d] = some x) : v.doors[d] = some x := by
  rw [h.only]
  exact hx

theorem online (h : Reported s v lines first) (f : DoorRec → DoorRec) : (v.updDoor d f).doorModuleOnline x = s.doorModuleOnline x := by
  rw [h.only]
  rfl

theorem now (h : Reported s v lines first) (f : DoorRec → DoorRec) : (v.updDoor d f).nowMs = s.nowMs := by
  rw [h.only]
  rfl

/-- R7: the report comes to the contact position alone. -/
theorem keeps (h : Reported s v lines []) (hx : s.doors[d] = some x) (f : DoorRec → DoorRec) :
    v.updDoor d f = { s with lines := lines, doors := s.doors.put d (some (f x)) } := by
  have ports : v.ports = s.ports := ports_ext h.gains
  rw [State.updDoor, h.door hx, h.only, ports]
  rfl

/-- R47, R49: the report puts the door into the record `y`, which its notice tells. -/
theorem becomes (h : Reported s v lines first) (hx : s.doors[d] = some x) {f g : DoorRec → DoorRec} {y : DoorRec} (record : g (f x) = y)
    (cfg : y.cfg = x.cfg) (previous : DoorState) (cause : DoorCause) :
    let t := (((v.updDoor d f).updDoor d g).refreshDrive d).notifyDoor d previous cause none
    t = { s with
        lines := lines, doors := s.doors.put d (some (y.driven (s.bars x.cfg.inside))), bus := t.bus, ports := t.ports } ∧
      DoorDrives s t y (s.bars x.cfg.inside) ∧
      QueuesGain s t (first ++ [.doorState d y.state previous cause none (if y.state = .opened then y.openingKind else none)]) := by
  intro t
  obtain ⟨opening, drives, frame⟩ := Opening.driven hx h.only h.gains h.apart record cfg
  obtain ⟨u, hu⟩ : ∃ u, u = ((v.updDoor d f).updDoor d g).refreshDrive d := ⟨_, rfl⟩
  rw [← hu] at opening drives frame
  have here : u.doors[d] = some (y.driven (s.bars x.cfg.inside)) := by
    rw [frame]
    exact Tab.getElem_put_self _ _ _
  have run : t = u.notify (.doorState d y.state previous cause none (if y.state = .opened then y.openingKind else none)) := by
    rw [← y.driven_state (s.bars x.cfg.inside), ← y.driven_openingKind (s.bars x.cfg.inside), ← State.notifyDoor_eq here, hu]
  have only := u.notify_only (.doorState d y.state previous cause none (if y.state = .opened then y.openingKind else none))
  rw [← run] at only
  refine ⟨?_, drives.congr rfl rfl (by rw [only]), ?_⟩
  · conv_lhs => rw [only, frame]
    rw [only]
  · rw [run]
    exact opening.gains.notify (by rw [frame]) _

end Reported

/-- R5, R7, R12: the report of a contact line. -/
theorem exec_contact {l : Line} {code : Byte} {r : LineRec} {k : LineClass} (reports : ScanReports s l code r k)
    (role : r.cfg.role = .doorContact d) :
    ∃ v, Reported s v (s.linesReported l code r k) (lineFaultTold l r k) ∧
      exec (.lineScan l code) s = .next (v.contactReport d r.reported k s.nowMs) := by
  obtain ⟨v, only, gains, -, run⟩ := exec_contactScan reports role
  exact ⟨v, ⟨only, gains, lineFaultTold_apart l r k⟩, run⟩

/-! ### A grant is used -/

/-- The record of a door opened under its grant. -/
def DoorRec.granted (x : DoorRec) (now : Nat) : DoorRec :=
  { x with contactOpen := some true, state := .opened, openingKind := some .granted, openSince := some now, grant := none }

theorem DoorRec.granted_opened (x : DoorRec) (now : Nat) : (x.granted now).Opened x .opened (some .granted) now :=
  ⟨rfl, rfl, rfl, rfl, rfl, rfl, rfl⟩

/-- R37: an opening under a grant, up to its commit. -/
theorem Reported.granted (h : Reported s v lines []) (hx : s.doors[d] = some x) (state : x.state = .unlocked) {g : Grant}
    (hg : x.grant = some g) (previous : Option LineClass) :
    let y := (x.granted s.nowMs).driven (s.bars x.cfg.inside)
    ∃ u, Opening s u lines d y [.doorState d .opened x.state .grantedOpening x.grant (some .granted)] ∧
      y.Opened x .opened (some .granted) s.nowMs ∧ DoorDrives s u (x.granted s.nowMs) (s.bars x.cfg.inside) ∧
      u.occupancy.reserved = s.occupancy.reserved ∧
      v.contactReport d previous .active s.nowMs = (u.commitGrant d x.cfg g).releaseUnused x.cfg.inside g := by
  intro y
  obtain ⟨opening, drives, frame⟩ := Opening.driven (w := x.granted s.nowMs) (f := fun x => { x with contactOpen := some true })
    (g := fun x => { x with state := .opened, openingKind := some .granted, openSince := some s.nowMs, grant := none })
    hx h.only h.gains h.apart rfl rfl
  obtain ⟨u, hu⟩ : ∃ u, u = ((v.updDoor d fun x => { x with contactOpen := some true }).updDoor d fun x =>
      { x with state := .opened, openingKind := some .granted, openSince := some s.nowMs, grant := none }).refreshDrive d := ⟨_, rfl⟩
  rw [← hu] at opening drives frame
  have here : u.doors[d] = some y := by
    rw [frame]
    exact Tab.getElem_put_self _ _ _
  have told : u.notifyDoor d x.state .grantedOpening x.grant =
      u.notify (.doorState d .opened x.state .grantedOpening x.grant (some .granted)) := by
    rw [State.notifyDoor_eq here, DoorRec.driven_state, DoorRec.driven_openingKind]
    rfl
  have only := u.notify_only (.doorState d .opened x.state .grantedOpening x.grant (some .granted))
  refine ⟨u.notify (.doorState d .opened x.state .grantedOpening x.grant (some .granted)), opening.notify ⟨rfl, fun _ => rfl⟩,
    (x.granted_opened _).driven _, drives.congr rfl rfl (by rw [only]), by rw [only, frame], ?_⟩
  rw [← told, hu]
  simp only [State.contactReport, h.door hx, state, State.grantedOpening, hg]
  rfl

/-! ### Openings without a grant -/

/-- R38, R39, R41: an opening in SECURE. -/
theorem Reported.secure (h : Reported s v lines []) (hx : s.doors[d] = some x) (state : x.state = .secure) (previous : Option LineClass) :
    v.contactReport d previous .active s.nowMs = (v.updDoor d fun x => { x with contactOpen := some true }).secureOpening d x s.nowMs := by
  simp only [State.contactReport, h.door hx, state]
  rfl

/-- R43: an opening of a door in OFFLINE. -/
theorem Reported.offline (h : Reported s v lines []) (hx : s.doors[d] = some x) (state : x.state = .offline) {c : LineClass} :
    v.contactReport d (some c) .active s.nowMs =
      (v.updDoor d fun x => { x with contactOpen := some true }).offlineOpening d x s.nowMs := by
  simp only [State.contactReport, h.door hx, state]
  rfl

/-- R41: an opening while a withdrawn window runs. -/
theorem Reported.afterWithdrawal (h : Reported s v lines []) (hx : s.doors[d] = some x) (state : x.state = .secure) (grant : x.grant = none)
    (window : x.withdrawnEnd ≠ none) (previous : Option LineClass) :
    OpeningGives s (v.contactReport d previous .active s.nowMs) lines d x .opened (some .afterWithdrawal) (· = x.cfg.inside)
      s.occupancy.entries [.doorState d .opened x.state .afterWithdrawal x.grant (some .afterWithdrawal)] (fun _ => .afterWithdrawal)
      fun _ => [] := by
  obtain ⟨opening, -⟩ := Opening.driven (f := fun x => { x with contactOpen := some true })
    (g := fun x => { x with state := .opened, openingKind := some .afterWithdrawal, openSince := some s.nowMs, withdrawnEnd := none })
    hx h.only h.gains h.apart rfl rfl
  have opened : DoorRec.Opened
      { x with
        contactOpen := some true, state := .opened, openingKind := some .afterWithdrawal, openSince := some s.nowMs, withdrawnEnd := none }
      x .opened (some .afterWithdrawal) s.nowMs := ⟨rfl, rfl, rfl, grant, rfl, rfl, rfl⟩
  have gives := opening.afterWithdrawal (opened.driven (s.bars x.cfg.inside))
  rw [h.secure hx state, State.secureOpening, if_pos (Option.isSome_iff_ne_none.2 window), grant]
  exact gives

/-- R38, R43: an opening by the handle. -/
theorem Reported.egress (h : Reported s v lines []) (hx : s.doors[d] = some x) (grant : x.grant = none) {l : Line} {lr : Option LineRec}
    (reported : lines = s.lines.put l lr) (other : x.handleLine ≠ some l) (excused : s.handleExcused x)
    (closed : (x.state = .secure ∧ x.withdrawnEnd = none) ∨ (x.state = .offline ∧ x.withdrawnEnd = none)) {c : LineClass} :
    let stays := if x.state = .offline then DoorState.offline else .opened
    let kind := if x.state = .offline then x.openingKind else some .egress
    let told := [NoticeBody.doorState d stays x.state .egress x.grant (if stays = .opened then kind else none)]
    let t := v.contactReport d (some c) .active s.nowMs
    (∀ e, s.occupancy.entriesIn x.cfg.inside = [e] → s.occupancy.uncertain[x.cfg.inside] = false →
      OpeningGives s t lines d x stays kind (fun y => x.cfg.outside = some y)
        (s.occupancy.entries.filter fun y => y.person ≠ e.person) told (fun _ => .egress) fun y =>
          if y = x.cfg.inside then [e.person] else []) ∧
      ((¬∃ e, s.occupancy.entriesIn x.cfg.inside = [e] ∧ s.occupancy.uncertain[x.cfg.inside] = false) →
        OpeningGives s t lines d x stays kind (fun y => y = x.cfg.inside ∨ x.cfg.outside = some y) s.occupancy.entries told
          (fun _ => .egress) fun _ => []) := by
  have excuses : (v.updDoor d fun x => { x with contactOpen := some true }).handleExcuses x s.nowMs = true := by
    refine (State.handleExcuses_iff (s := s) (lr := lr) ?_ other).2 excused
    rw [h.only, ← reported]
    rfl
  dsimp only
  rcases closed with ⟨state, window⟩ | ⟨state, window⟩
  · obtain ⟨opening, -⟩ := Opening.driven (f := fun x => { x with contactOpen := some true })
      (g := fun x => { x with state := .opened, openingKind := some .egress, openSince := some s.nowMs }) hx h.only h.gains h.apart rfl rfl
    have opened : DoorRec.Opened
        { x with contactOpen := some true, state := .opened, openingKind := some .egress, openSince := some s.nowMs }
        x .opened (some .egress) s.nowMs := ⟨rfl, rfl, rfl, grant, rfl, rfl, rfl⟩
    have gives := opening.egress (opened.driven (s.bars x.cfg.inside))
    rw [h.secure hx state, State.secureOpening, if_neg (by rw [window]; nofun), if_pos excuses, grant]
    rw [if_neg (by rw [state]; nofun), if_neg (by rw [state]; nofun)]
    exact gives
  · have opening := Opening.still hx h.only h.gains h.apart fun x => { x with contactOpen := some true }
    have gives := opening.egress (x := x) (state := .offline) (opening := x.openingKind)
      ⟨rfl, state, rfl, grant, rfl, rfl, by rw [window, ite_self]⟩
    rw [h.offline hx state, State.offlineOpening, if_pos excuses, grant, if_pos state, if_pos state]
    rw [state] at gives ⊢
    exact gives

/-- R39, R43: a forced opening. -/
theorem Reported.forced (h : Reported s v lines []) (hx : s.doors[d] = some x) (grant : x.grant = none) {l : Line} {lr : Option LineRec}
    (reported : lines = s.lines.put l lr) (other : x.handleLine ≠ some l) (inexcused : ¬s.handleExcused x)
    (closed : (x.state = .secure ∧ x.withdrawnEnd = none) ∨ (x.state = .offline ∧ x.withdrawnEnd = none)) {c : LineClass} :
    let stays := if x.state = .offline then DoorState.offline else .forced
    OpeningGives s (v.contactReport d (some c) .active s.nowMs) lines d x stays x.openingKind
      (fun y => y = x.cfg.inside ∨ x.cfg.outside = some y) s.occupancy.entries
      [.doorState d stays x.state .forced x.grant (if stays = .opened then x.openingKind else none)] (fun _ => .forced) fun _ => [] := by
  have excuses : ¬(v.updDoor d fun x => { x with contactOpen := some true }).handleExcuses x s.nowMs = true := by
    refine fun yes => inexcused ((State.handleExcuses_iff (s := s) (lr := lr) ?_ other).1 yes)
    rw [h.only, ← reported]
    rfl
  have withdrawn : x.withdrawnEnd = if x.openingKind = some .afterWithdrawal then none else x.withdrawnEnd := by
    rcases closed with ⟨-, window⟩ | ⟨-, window⟩ <;> rw [window, ite_self]
  dsimp only
  rcases closed with ⟨state, window⟩ | ⟨state, -⟩
  · obtain ⟨opening, -⟩ := Opening.driven (f := fun x => { x with contactOpen := some true })
      (g := fun x => { x with state := .forced, openSince := some s.nowMs }) hx h.only h.gains h.apart rfl rfl
    have opened : DoorRec.Opened { x with contactOpen := some true, state := .forced, openSince := some s.nowMs } x .forced x.openingKind
        s.nowMs := ⟨rfl, rfl, rfl, grant, rfl, rfl, withdrawn⟩
    have gives := opening.forced (opened.driven (s.bars x.cfg.inside))
    rw [h.secure hx state, State.secureOpening, if_neg (by rw [window]; nofun), if_neg excuses, grant, if_neg (by rw [state]; nofun)]
    exact gives
  · have opening := Opening.still hx h.only h.gains h.apart fun x => { x with contactOpen := some true }
    have gives := opening.forced (x := x) (state := .offline) (opening := x.openingKind) ⟨rfl, state, rfl, grant, rfl, rfl, withdrawn⟩
    rw [h.offline hx state, State.offlineOpening, if_neg excuses, grant, if_pos state]
    rw [state] at gives ⊢
    exact gives

end

end Sys2Proof.Machine

namespace Sys2Proof.Machine

/-! ## Contact faults, and their end -/

section
variable {s u v : State} {lines : Tab (Option LineRec) 64} {first : List NoticeBody} {d : Door} {x w : DoorRec}

/-- R44: an event of an opening that two notices follow. -/
theorem Opening.opens_twice (h : Opening s u lines d w first) {state : DoorState} {opening : Option OpeningKind}
    (opened : w.Opened x state opening s.nowMs) {ev : OccEvent} {doubtful : Zone → Prop} {cause : Zone → OccCause}
    {named : Zone → List Person} (amounts : ev.Amounts u doubtful cause named) {entries : List Entry}
    (left : ev.state.occupancy.entries = entries) (missed : ∀ p, p ∈ ev.removed ↔ s.occupancy.entryOf p ≠ none ∧ ∃ z, p ∈ named z)
    (previous : DoorState) (why why' : DoorCause) :
    let told (why : DoorCause) := NoticeBody.doorState d state previous why none (if state = .opened then opening else none)
    OpeningGives s ((ev.conclude.notifyDoor d previous why none).notifyDoor d previous why' none) lines d x state opening doubtful entries
      (first ++ [told why, told why']) cause named := by
  intro told
  have apart (why : DoorCause) : (told why).Apart := ⟨rfl, fun _ => rfl⟩
  have once := Trails.notify ev.conclude (apart why)
  rw [h.notifyDoor_eq opened amounts (.refl _), h.notifyDoor_eq opened amounts once]
  exact h.gives opened amounts left missed (once.told (apart why')) fun b hb => List.mem_append.1 hb

/-- R44: the record of a door whose contact line is read again. -/
def DoorRec.readAgain (x : DoorRec) (online opened : Bool) (now : Nat) : DoorRec :=
  if online = true then ({ x with contactOpen := some opened } : DoorRec).atContact opened now
  else { x with contactOpen := some opened, state := .offline }

theorem DoorRec.readAgain_cfg (x : DoorRec) (online opened : Bool) (now : Nat) : (x.readAgain online opened now).cfg = x.cfg := by
  cases online with
  | false => rfl
  | true => cases opened <;> rfl

/-- R44: the state in which a contact line that is read again has given its door another state and its drive, which is yet to be told. -/
def State.contactRead (v : State) (d : Door) (x : DoorRec) (opened : Bool) : State :=
  let u := v.updDoor d fun x => { x with contactOpen := some opened }
  (u.updDoor d fun y => if u.doorModuleOnline x then y.atContact opened u.nowMs else { y with state := .offline }).refreshDrive d

/-- R44: a door whose contact line is read again and found ACTIVE. -/
theorem Reported.restoredOpen (h : Reported s v lines first) (hx : s.doors[d] = some x) (state : x.state = .fault) {online : Bool}
    (module_ : s.doorModuleOnline x = online) {stays : DoorState} {kind : Option OpeningKind}
    (opened : (x.readAgain online true s.nowMs).Opened x stays kind s.nowMs) (previous : Option LineClass) :
    let told (why : DoorCause) := NoticeBody.doorState d stays .fault why none (if stays = .opened then kind else none)
    OpeningGives s (v.contactReport d previous .active s.nowMs) lines d x stays kind
      (fun z => z = x.cfg.inside ∨ x.cfg.outside = some z) s.occupancy.entries (first ++ [told .contactRestored, told .forced])
      (fun _ => .forced) fun _ => [] := by
  obtain ⟨opening, -⟩ : Opening s (v.contactRead d x true) lines d _ first ∧ _ :=
    Opening.driven (w := x.readAgain online true s.nowMs) (f := fun x => { x with contactOpen := some true }) hx h.only h.gains h.apart
      (by rw [h.now, h.online, module_]; rfl) opened.cfg
  obtain ⟨ev, run, removed, left, amounts⟩ := (v.contactRead d x true).forcedPassage_amounts x.cfg
  have gives := opening.opens_twice (opened.driven _) amounts (left.trans opening.entries.1) (nobody_missed s removed) .fault .contactRestored
    .forced
  rw [← run] at gives
  have report : v.contactReport d previous .active s.nowMs =
      (((v.contactRead d x true).forcedPassage x.cfg).notifyDoor d .fault .contactRestored none).notifyDoor d .fault .forced none := by
    simp only [State.contactReport, h.door hx, state, State.contactRestored]
    rfl
  rw [report]
  exact gives

/-- R44: a door whose contact line is read again and found NORMAL. -/
theorem Reported.restoredClosed (h : Reported s v lines first) (hx : s.doors[d] = some x) (state : x.state = .fault) {online : Bool}
    (module_ : s.doorModuleOnline x = online) (previous : Option LineClass) :
    let y := x.readAgain online false s.nowMs
    let t := v.contactReport d previous .normal s.nowMs
    t = { s with
        lines := lines, doors := s.doors.put d (some (y.driven (s.bars x.cfg.inside))), bus := t.bus, ports := t.ports } ∧
      DoorDrives s t y (s.bars x.cfg.inside) ∧ QueuesGain s t (first ++ [.doorState d y.state .fault .contactRestored none none]) := by
  have shut : (x.readAgain online false s.nowMs).state ≠ .opened := by cases online <;> nofun
  have report : v.contactReport d previous .normal s.nowMs = (v.contactRead d x false).notifyDoor d .fault .contactRestored none := by
    simp only [State.contactReport, h.door hx, state, State.contactRestored]
    rfl
  have becomes := h.becomes hx (y := x.readAgain online false s.nowMs) (f := fun x => { x with contactOpen := some false })
    (g := fun y => if (v.updDoor d fun x => { x with contactOpen := some false }).doorModuleOnline x then
      y.atContact false (v.updDoor d fun x => { x with contactOpen := some false }).nowMs else { y with state := .offline })
    (by rw [h.now, h.online, module_]; rfl) (x.readAgain_cfg ..) .fault .contactRestored
  rw [if_neg shut] at becomes
  rw [report]
  exact becomes

/-- R44: a door whose contact line goes into a fault class. -/
theorem Reported.lost (h : Reported s v lines first) (hx : s.doors[d] = some x) (state : x.state ≠ .fault) {k : LineClass}
    (fault : k.isFault = true) (previous : Option LineClass) :
    let t := v.contactReport d previous k s.nowMs
    t = { s with
        lines := lines, doors := t.doors, occupancy := { s.occupancy with reserved := t.occupancy.reserved }, zones := t.zones, bus := t.bus,
        ports := t.ports } ∧
      (∀ e, e ≠ d → t.doors[(e : Door)] = s.doors[e]) ∧
      (∃ y, t.doors[d] = some y ∧ y.state = .fault ∧ y.grant = none ∧ y.pairing = none ∧ y.withdrawnEnd = none ∧ y.openingKind = none ∧
        y.openSince = none) ∧
      (∀ y : Zone, t.occupancy.reserved[y] =
        s.occupancy.reserved[y] - if y = x.cfg.inside then (x.grant.map (·.places)).getD 0 else 0) ∧
      QueuesGain s t (first ++ (x.grant.toList.map (fun g => .accessWithdrawn d .doorFault (some g) none)
        ++ x.pairing.toList.map (fun q => .accessWithdrawn d .doorFault none (some q.first))
        ++ [.doorState d .fault x.state .contactFault none none])) := by
  intro t
  have run : t = v.doorLost d x .fault .contactFault := by
    simp only [t, State.contactReport, h.door hx, fault, if_true, if_neg state]
  obtain ⟨frame, -, -, -, gains⟩ := State.doorLost_loses (h.door hx) .fault .contactFault (by nofun)
  rw [← run] at frame gains
  have only := h.only
  have before : v.doors = s.doors ∧ v.occupancy = s.occupancy ∧ v.time = s.time := by
    rw [only]
    exact ⟨rfl, rfl, rfl⟩
  obtain ⟨doors, occupancy, time⟩ := before
  obtain ⟨y, doors', lost⟩ : ∃ y, t.doors = s.doors.put d (some y) ∧ y.state = .fault ∧ y.grant = none ∧ y.pairing = none ∧
      y.withdrawnEnd = none ∧ y.openingKind = none ∧ y.openSince = none := by
    refine ⟨_, by rw [frame, doors], ?_⟩
    rw [DoorRec.driven_eq]
    exact ⟨rfl, rfl, rfl, rfl, rfl, rfl⟩
  have reserved : t.occupancy.reserved = s.occupancy.reserved.put x.cfg.inside
      (s.occupancy.reserved[x.cfg.inside] - (x.grant.map (·.places)).getD 0) := by
    rw [frame, occupancy]
  refine ⟨?_, fun e other => ?_, ⟨y, by rw [doors']; exact Tab.getElem_put_self _ _ _, lost⟩, fun y => ?_, h.gains.trans gains time⟩
  · obtain ⟨ps, hv⟩ : ∃ ps, v = { s with lines := lines, ports := ps } := ⟨_, only⟩
    have after := congrArg State.doors frame
    have freed := congrArg (fun u : State => u.occupancy.reserved) frame
    dsimp only at after freed
    rw [after, freed]
    conv_lhs => rw [frame]
    rw [hv]
  · rw [doors']
    exact Tab.getElem_put_of_ne other
  · rw [reserved]
    by_cases here : y = x.cfg.inside
    · subst here
      rw [if_pos rfl]
      exact Tab.getElem_put_self _ _ _
    · rw [if_neg here, Nat.sub_zero]
      exact Tab.getElem_put_of_ne here

end

end Sys2Proof.Machine

namespace Sys2Proof.Machine

/-! ## The report of a contact line -/

theorem lineFaultTold_quiet (l : Line) {r : LineRec} {k : LineClass} (read : k.isFault = false)
    (before : ¬(r.reported = some .short ∨ r.reported = some .openCircuit)) : lineFaultTold l r k = [] := by
  refine if_neg ?_
  rintro ((rfl | rfl) | faulty)
  · exact absurd read (by decide)
  · exact absurd read (by decide)
  · exact before faulty

theorem lineFaultTold_left (l : Line) {r : LineRec} {k : LineClass} (read : k.isFault = false)
    (before : r.reported = some .short ∨ r.reported = some .openCircuit) :
    lineFaultTold l r k = [.lineFault l r.cfg.role k r.reported false] := by
  have present : (k == .short || k == .openCircuit) = false := by
    cases k with
    | short => exact absurd read (by decide)
    | openCircuit => exact absurd read (by decide)
    | normal => rfl
    | active => rfl
  rw [← present]
  exact if_pos (.inr before)

theorem lineFaultTold_entered (l : Line) (r : LineRec) {k : LineClass} (fault : k = .short ∨ k = .openCircuit) :
    lineFaultTold l r k = [.lineFault l r.cfg.role k r.reported true] := by
  have present : (k == .short || k == .openCircuit) = true := by rcases fault with rfl | rfl <;> rfl
  rw [← present]
  exact if_pos (.inl fault)

section
variable {s : State} {l : Line} {code : Byte} {r : LineRec} {d : Door} {x : DoorRec} {k : LineClass}

/-- The record of a door that has been closed. -/
def DoorRec.closed (x : DoorRec) : DoorRec := { x with contactOpen := some false, state := .secure, openingKind := none, openSince := none }

/-- R42: a closing of an open door. -/
theorem Reported.closes {v : State} {lines : Tab (Option LineRec) 64} (h : Reported s v lines []) (hx : s.doors[d] = some x)
    (state : x.state = .opened ∨ x.state = .heldOpen ∨ x.state = .forced) (previous : Option LineClass) :
    let t := v.contactReport d previous .normal s.nowMs
    t = { s with
        lines := lines, doors := s.doors.put d (some (x.closed.driven (s.bars x.cfg.inside))), bus := t.bus, ports := t.ports } ∧
      DoorDrives s t x.closed (s.bars x.cfg.inside) ∧ QueuesGain s t [.doorState d .secure x.state .closed none none] := by
  have run : v.contactReport d previous .normal s.nowMs = (v.updDoor d fun x => { x with contactOpen := some false }).doorCloses d x := by
    rcases state with state | state | state
    all_goals
      simp only [State.contactReport, h.door hx, state]
      rfl
  rw [run]
  exact h.becomes hx (y := x.closed) (g := fun x => { x with state := .secure, openingKind := none, openSince := none }) rfl rfl x.state
    .closed

/-- R42: a closing of a door that counts as closed, or is OFFLINE. -/
theorem Reported.closesNothing {v : State} {lines : Tab (Option LineRec) 64} (h : Reported s v lines []) (hx : s.doors[d] = some x)
    (state : x.state = .secure ∨ x.state = .unlocked ∨ x.state = .offline) (c : LineClass) :
    v.contactReport d (some c) .normal s.nowMs =
      { s with lines := lines, doors := s.doors.put d (some { x with contactOpen := some false }) } := by
  rw [← h.keeps hx fun x => { x with contactOpen := some false }]
  rcases state with state | state | state
  all_goals
    simp only [State.contactReport, h.door hx, state]
    rfl

/-- R33, R43: the first report of a door in OFFLINE. -/
theorem Reported.first {v : State} {lines : Tab (Option LineRec) 64} (h : Reported s v lines []) (hx : s.doors[d] = some x)
    (state : x.state = .offline) {f : DoorRec → DoorRec} {opened : Bool} (contact : f = fun x => { x with contactOpen := some opened }) :
    v.contactReport d none (if opened = true then .active else .normal) s.nowMs =
      if (v.updDoor d f).doorModuleOnline x then (v.updDoor d f).leaveOffline d x opened else v.updDoor d f := by
  subst contact
  cases opened
  all_goals
    simp only [State.contactReport, h.door hx, state]
    rfl

/-- R33, R43: the first report of a door in OFFLINE whose module is not ONLINE. -/
theorem Reported.firstWaits {v : State} {lines : Tab (Option LineRec) 64} (h : Reported s v lines []) (hx : s.doors[d] = some x)
    (state : x.state = .offline) (opened : Bool) (absent : ¬∃ m y, x.module = some m ∧ s.bus.modules[m] = some y ∧ y.online = true) :
    v.contactReport d none (if opened = true then .active else .normal) s.nowMs =
      { s with lines := lines, doors := s.doors.put d (some { x with contactOpen := some opened }) } := by
  rw [h.first hx state rfl, h.online, if_neg (mt (s.doorModuleOnline_iff x).1 absent)]
  exact h.keeps hx _

/-- R33, R43: the first report of a door in OFFLINE whose module is ONLINE. -/
theorem Reported.firstLeaves {v : State} {lines : Tab (Option LineRec) 64} (h : Reported s v lines []) (hx : s.doors[d] = some x)
    (state : x.state = .offline) (opened : Bool) (present : ∃ m y, x.module = some m ∧ s.bus.modules[m] = some y ∧ y.online = true) :
    let t := v.contactReport d none (if opened = true then .active else .normal) s.nowMs
    let y := ({ x with contactOpen := some opened } : DoorRec).back opened s.nowMs
    t = { s with
        lines := lines, doors := s.doors.put d (some (y.driven (s.bars x.cfg.inside))), bus := t.bus, ports := t.ports } ∧
      DoorDrives s t y (s.bars x.cfg.inside) ∧
      QueuesGain s t
        [.doorState d y.state .offline (if x.leftOffline = true then .moduleOnline else .firstClassified) none
          (if y.state = .opened then y.openingKind else none)] := by
  rw [h.first hx state rfl, h.online, if_pos ((s.doorModuleOnline_iff x).2 present), State.leaveOffline, state]
  refine h.becomes hx (y := ({ x with contactOpen := some opened } : DoorRec).back opened s.nowMs)
    (f := fun x => { x with contactOpen := some opened })
    (g := fun x' => { x'.atContact opened (v.updDoor d fun x => { x with contactOpen := some opened }).nowMs with leftOffline := true }) ?_
    (DoorRec.back_cfg ..) .offline _
  rw [h.now]
  cases opened <;> rfl

/-- R7: a report between the classes that can be read gives no LINE_FAULT. -/
theorem exec_contact_quiet (reports : ScanReports s l code r k) (role : r.cfg.role = .doorContact d) (read : k.isFault = false)
    (before : ¬(r.reported = some .short ∨ r.reported = some .openCircuit)) :
    ∃ v, Reported s v (s.linesReported l code r k) [] ∧ exec (.lineScan l code) s = .next (v.contactReport d r.reported k s.nowMs) := by
  obtain ⟨v, reported, run⟩ := exec_contact reports role
  rw [lineFaultTold_quiet l read before] at reported
  exact ⟨v, reported, run⟩

end

/-- Settles O23: the report goes to its door as one of the cases of R37 to R44, each of which is an event of the Occupancy Unit
(`Opening.gives`) or a new record of the door (`Reported.becomes`). -/
theorem grantedOpeningCommitsTheGrant : Obligations.GrantedOpeningCommitsTheGrant := by
  intro s l code r d x k reports role hx other unlocked lostAll z lines outside both completes opens nobody becomes keeps without online
    lineFault
  have grant (state : x.state ≠ .unlocked) : x.grant = none := not_not.1 fun g => state (unlocked.2 g)
  refine ⟨?_, ?_, ?_, ?_, ?_, ?_⟩
  · intro g hk hr state hg
    subst hk
    obtain ⟨v, reported, run⟩ := exec_contact_quiet reports role rfl (by rw [hr]; nofun)
    obtain ⟨u, opening, opened, drives, reserved, commits⟩ := reported.granted hx state hg r.reported
    rw [commits] at run
    refine ⟨fun seats distinct => ⟨⟨_, run, opening.seats opened seats distinct⟩, fun free fresh => ?_⟩, fun kind =>
      ⟨_, run, opening.command opened kind⟩, fun kind empty => ⟨_, run, opening.response opened kind empty⟩, fun a kind alone =>
      ⟨_, run, opening.exit opened kind alone⟩⟩
    obtain ⟨doors, bus, left, uncertain⟩ := opening.seats_fresh seats distinct x.cfg free fresh
    rw [free] at doors drives
    rw [reserved] at left
    exact ⟨_, run, doors, drives.congr rfl rfl bus, left, uncertain⟩
  · intro hk hr state one stays kind
    subst hk
    obtain ⟨v, reported, run⟩ := exec_contact_quiet reports role rfl (by rw [hr]; nofun)
    rw [hr] at run
    have none_ : x.grant = none := grant (by rcases state with state | state <;> rw [state] <;> nofun)
    have closed (window : x.state = .offline ∨ x.withdrawnEnd = none) :
        (x.state = .secure ∧ x.withdrawnEnd = none) ∨ (x.state = .offline ∧ x.withdrawnEnd = none) := by
      rcases state with state | state
      · exact .inl ⟨state, window.resolve_left (by rw [state]; nofun)⟩
      · exact .inr ⟨state, (lostAll (.inl state)).2.2⟩
    refine ⟨fun secure window => ⟨_, run, reported.afterWithdrawal hx secure none_ window _⟩, fun window excused => ?_, fun window excused =>
      ⟨_, run, reported.forced hx none_ rfl other excused (closed window)⟩⟩
    obtain ⟨alone, unknown⟩ := reported.egress hx none_ rfl other excused (closed window) (c := .normal)
    exact ⟨fun e inside certain => ⟨_, run, alone e inside certain⟩, fun not_one => ⟨_, run, unknown not_one⟩⟩
  · intro hk hr
    subst hk
    obtain ⟨v, reported, run⟩ := exec_contact_quiet reports role rfl (by rw [hr]; nofun)
    rw [hr] at run
    exact ⟨fun state => ⟨_, run, reported.closes hx state _⟩, fun state => run.trans (congrArg _ (reported.closesNothing hx state _))⟩
  · intro hk
    obtain ⟨v, reported, run⟩ := exec_contact reports role
    rw [lineFaultTold_entered l r hk] at reported
    have fault : k.isFault = true := by rcases hk with rfl | rfl <;> rfl
    refine ⟨fun state => ⟨v, ?_, reported.only, reported.gains⟩, fun state => ⟨_, run, ?_⟩⟩
    · rw [run]
      simp only [State.contactReport, reported.door hx, fault, if_true, if_pos state]
    · obtain ⟨frame, others, lost, places, gains⟩ := reported.lost hx state fault r.reported
      exact ⟨frame, others, lost, places, _, gains, .refl _⟩
  · intro state hr
    have none_ : x.grant = none := grant (by rw [state]; nofun)
    obtain ⟨-, -, window⟩ := lostAll (.inr state)
    refine ⟨fun hk => ?_, fun hk => ⟨.fault, ?_⟩⟩
    · subst hk
      obtain ⟨v, reported, run⟩ := exec_contact reports role
      rw [lineFaultTold_left l rfl hr] at reported
      exact ⟨fun present => ⟨_, run, reported.restoredClosed hx state ((s.doorModuleOnline_iff x).2 present) _⟩,
        fun absent => ⟨_, run, reported.restoredClosed hx state (Bool.eq_false_iff.2 (mt (s.doorModuleOnline_iff x).1 absent)) _⟩⟩
    · subst hk
      obtain ⟨v, reported, run⟩ := exec_contact reports role
      rw [lineFaultTold_left l rfl hr] at reported
      have found : (x.readAgain true true s.nowMs).Opened x .opened (some .foundOpen) s.nowMs := ⟨rfl, rfl, rfl, none_, rfl, rfl, rfl⟩
      have lost : (x.readAgain false true s.nowMs).Opened x .offline x.openingKind s.nowMs :=
        ⟨rfl, rfl, rfl, none_, rfl, rfl, by rw [window, ite_self]; exact window⟩
      exact ⟨fun present => ⟨_, run, reported.restoredOpen hx state ((s.doorModuleOnline_iff x).2 present) found _⟩,
        fun absent => ⟨_, run, reported.restoredOpen hx state (Bool.eq_false_iff.2 (mt (s.doorModuleOnline_iff x).1 absent)) lost _⟩⟩
  · intro state hr hk
    have class_ : ∃ opened : Bool, k = if opened = true then .active else .normal := by
      rcases hk with rfl | rfl
      · exact ⟨false, rfl⟩
      · exact ⟨true, rfl⟩
    obtain ⟨opened, rfl⟩ := class_
    obtain ⟨v, reported, run⟩ := exec_contact_quiet reports role (by cases opened <;> rfl) (by rw [hr]; nofun)
    rw [hr] at run
    refine ⟨fun absent => ?_, fun present => ?_⟩
    · have waits := reported.firstWaits hx state opened absent
      have contact : ((if opened = true then LineClass.active else .normal) == .active) = opened := by cases opened <;> rfl
      rw [contact]
      exact run.trans (congrArg _ waits)
    · have leaves := reported.firstLeaves hx state opened present
      cases opened with
      | false => exact ⟨fun _ => ⟨_, run, leaves⟩, nofun⟩
      | true => exact ⟨nofun, fun _ => ⟨_, run, leaves⟩⟩

end Sys2Proof.Machine
